-- ==== Sys2Proof/Word.lean ====
section
/-! DEFINITION. The word types of the Ufenta UFN-640: bytes on the job link, the run-time counter,
roll rows and channel numbers. Everything computed from them stands under Sys2Proof/Machine/. -/

namespace Sys2Proof

/-- One byte of a record. -/
abbrev Byte := BitVec 8

/-- A value of the 32-bit run-time counter in milliseconds (00_scope.md, Time). -/
abbrev Time := BitVec 32

/-- A roll row or a position on the roll. The spec gives it no width (log 31). -/
abbrev Row := Int

/-- A channel or slot number 0..11 (00_scope.md, Numbering). -/
abbrev Chan := Fin 12

/-- A filter of the colour sensor, F0..F3. -/
abbrev Filter := Fin 4

end Sys2Proof
end

