-- ==== Sys2Proof/Syntax.lean ====
section
/-! DEFINITION. The commands of the UFN-640: one constructor per row of spec/opcode_table.json.
The table gives no row any bits; the operands are those the row's rule names. -/

namespace Sys2Proof

/-- A record other than a BAND as it travels on the job link (1.1, 1.8): the eight header bytes by
field, the body bytes as delivered, and the CRC-32 carried after them. -/
structure Record where
  kind : Byte
  flags : Byte
  tag : Byte
  reserved : Byte
  length : BitVec 32
  body : List Byte
  crc : BitVec 32
  deriving DecidableEq, Repr

/-- The contents a cartridge's tag answers with (R99). The spec gives them by field, with no byte
layout (log 24). -/
structure TagContents where
  serial : BitVec 64
  kind : Byte
  sizeClass : Fin 4
  fill : BitVec 32
  remaining : BitVec 32
  lot : BitVec 32
  deriving DecidableEq, Repr

/-- One of the two seat detect lines of a slot (6.1). -/
inductive DetectLine where
  | d1
  | d2
  deriving DecidableEq, Repr

/-- The commands. Takes of the intake have no operand: the record is the oldest of the intake queue.
An express row carries the record's tag and body; where a row fixes a body byte (the action of
HOLD_RELEASE, the code of SENSOR_VERIFY, ENGINE_RESET and COUNTER_DUMP) the operand is the rest of
the body (log 14). -/
inductive Instr where
  | powerOn
  | linkReset
  | recordArrival (r : Record)
  | bandHeaderArrival (flags tag reserved : Byte) (length : BitVec 32) (fixed : List Byte)
  | bandLastByte (planes : List Byte) (crc : BitVec 32)
  | returnEntrySend
  | jobOpen
  | jobClose
  | itemOpen
  | itemClose
  | band
  | feed
  | clean
  | tableLoad
  | statusQuery (tag : Byte) (body : List Byte)
  | faultDump (tag : Byte) (body : List Byte)
  | engineResetAll (tag : Byte) (rest : List Byte)
  | engineResetStream (tag : Byte) (rest : List Byte)
  | halt (tag : Byte) (body : List Byte)
  | resume (tag : Byte) (body : List Byte)
  | itemAbort (tag : Byte) (body : List Byte)
  | holdReleaseContinue (tag item : Byte) (rest : List Byte)
  | holdReleaseAbort (tag item : Byte) (rest : List Byte)
  | tableBegin (tag : Byte) (body : List Byte)
  | tablePart (tag : Byte) (body : List Byte)
  | tableCommit (tag : Byte) (body : List Byte)
  | lockExpired
  | rollLoad (tag : Byte) (body : List Byte)
  | sensorVerifyWhite (tag : Byte) (rest : List Byte)
  | sensorVerifyDark (tag : Byte) (rest : List Byte)
  | sensorVerifyLamp (tag : Byte) (rest : List Byte)
  | sensorVerifyFull (tag : Byte) (rest : List Byte)
  | verifyClear (tag : Byte) (body : List Byte)
  | editionReset (tag : Byte) (body : List Byte)
  | cutterClear (tag : Byte) (body : List Byte)
  | costDump (tag : Byte) (body : List Byte)
  | counterDumpRead (tag : Byte) (rest : List Byte)
  | counterDumpClear (tag : Byte) (rest : List Byte)
  | countStart
  | countCompletion
  | measureStopPlacement
  | inkRequest
  | queueEntry
  | abortFeedEntry
  | abortPanelClose
  | offer
  | accept (opId : Nat)
  | refuse (opId : Nat)
  | answerDeadline
  | runningTimerLimit
  | paused (opId point : Nat)
  | reading (opId patch : Nat) (filter : Filter) (raw : BitVec 16)
  | scanDone (opId : Nat)
  | done (opId : Nat)
  | aborted (opId rows : Nat)
  | engineFault
  | engineReady
  | scanStart
  | scanDeadline
  | verdictComputation
  | encoderEdge
  | rollEndAssert
  | rollEndRelease
  | runOutWaitStart
  | runOutFeed
  | cutStart
  | cutDone
  | cutJam
  | cutDeadline
  | cutterRetry
  | detectLineAssert (slot : Chan) (line : DetectLine)
  | detectLineRelease (slot : Chan) (line : DetectLine)
  | seatingDebounce (slot : Chan)
  | removal (slot : Chan)
  | levelSenseLineChange (slot : Chan) (l1 l2 : Bool)
  | sensedLevelChange (slot : Chan)
  | tagReadAnswer (slot : Chan) (contents : TagContents) (crcGood : Bool)
  | tagReadTimeout (slot : Chan)
  | kindCheck (slot : Chan) (k1 k2 : Bool)
  | tagWriteConfirm (slot : Chan)
  | tagWriteTimeout (slot : Chan)
  | itemPricing
  | jobPricing
  | droppedBandLastByte (rest : List Byte)
  deriving DecidableEq, Repr

end Sys2Proof
end

