-- ==== Sys2Proof/Config.lean ====
section
/-! DEFINITION. The values the spec leaves open, each an opaque constant: nothing can be proved of
the value itself. Every use stands in Machine/Ops.lean. -/

namespace Sys2Proof

/-- FREE VALUE (log 9). What a counter of the stated width (64 or 32 bits) holds after a sum that
does not fit it: the spec gives the width and states no result there. -/
opaque Config.countBeyond : Nat → Nat → Nat

/-- FREE VALUE (log 10). What a field whose range begins at 0 holds when the rule that sets it gives
a negative number of rows (lead waste of R48, the reservation of R44). -/
opaque Config.negativeRows : Int → Nat

end Sys2Proof
end

