-- ==== Sys2Proof/Machine/State.lean ====
section
/-! DEFINITION. The state of the UFN-640, block by block as 00_scope.md names the blocks, with the
records and notices those blocks keep, and the state right after power-on. Plain data throughout.
INVENTORY.md lists each field with the rule that names it. -/

namespace Sys2Proof.Machine

/-! ## Table sections (02_table_sections.md) -/

/-- The eight table sections, in the order of their codes 1..8 (R20). -/
inductive Section where
  | channelMap | drop | mediaProfile | price | patch | tolerance | maintenance | notice
  deriving DecidableEq, Repr

/-- CHANNEL_MAP, per channel (R22). -/
structure MapEntry where
  enabled : Bool
  inkKind : Nat
  headRow : Nat
  lowMark : Nat
  deriving DecidableEq, Repr

/-- DROP, per channel: the printed level for each sent level 0..3, and the volume in dpL of a drop of
level 1, 2, 3 (R23). -/
structure DropEntry where
  levels : Vector Nat 4
  volumes : Vector Nat 3
  deriving DecidableEq, Repr

/-- MEDIA_PROFILE (R24): S is `sensor`, C is `cutter`, G is `gutter`, P is `maxPanel`. -/
structure MediaProfile where
  rollKind : Nat
  width : Nat
  sensor : Nat
  cutter : Nat
  gutter : Nat
  maxPanel : Nat
  startDepth : Nat
  divisor : Nat
  runOutDelay : Nat
  dryTime : Nat
  cutterEnabled : Bool
  deriving DecidableEq, Repr

/-- PRICE (R25), in ticks. -/
structure Price where
  perMl : Vector Nat 12
  perM2 : Vector Nat 8
  cutCharge : Nat
  deriving DecidableEq, Repr

/-- One patch of a PATCH layout (R26). -/
structure PatchDef where
  start : Nat
  width : Nat
  mode : Nat
  filter : Nat
  targets : Vector Nat 4
  deriving DecidableEq, Repr

/-- One layout of PATCH (R26). -/
structure PatchLayout where
  count : Nat
  integration : Nat
  patches : Vector PatchDef 24
  deriving DecidableEq, Repr

/-- The limits of one layout in TOLERANCE (R26). -/
structure Limits where
  warn : Nat
  fail : Nat
  deriving DecidableEq, Repr

/-- A section's validated content, by section (R20, R21). -/
inductive Content where
  | channelMap (m : Vector MapEntry 12)
  | drop (d : Vector DropEntry 12)
  | mediaProfile (p : MediaProfile)
  | price (p : Price)
  | patch (p : Vector PatchLayout 8)
  | tolerance (t : Vector Limits 8)
  | maintenance (m : Vector (Vector Nat 3) 12)
  | notice (n : Vector Nat 11)
  deriving DecidableEq, Repr

/-- The table store (R20 to R39). A byte of the staging area is absent while unwritten. -/
structure TableStore where
  channelMap : Option (Vector MapEntry 12)
  drop : Option (Vector DropEntry 12)
  mediaProfile : Option MediaProfile
  price : Option Price
  patch : Option (Vector PatchLayout 8)
  tolerance : Option (Vector Limits 8)
  maintenance : Option (Vector (Vector Nat 3) 12)
  notice : Option (Vector Nat 11)
  lock : Option Section
  staging : List (Option Byte)
  expiry : Option Time
  priceVersion : Nat
  deriving DecidableEq, Repr

/-! ## Jobs, items and panels (03_jobs_items_and_panels.md) -/

/-- The status of an item or a job. -/
inductive Fate where
  | complete | aborted
  deriving DecidableEq, Repr

inductive JobState where
  | opened | closing | done
  deriving DecidableEq, Repr

/-- A live job (3.1). -/
structure Job where
  number : Nat
  state : JobState
  itemsClosed : Nat
  total : Nat
  flush : Vector Nat 12
  fate : Fate
  deriving DecidableEq, Repr

/-- Panel and strip verdicts, in the rank order of 9.4. -/
inductive Verdict where
  | none | uncalibrated | pass | incomplete | warn | fail
  deriving DecidableEq, Repr

/-- A panel record (3.2). `firstBand` and `lastBand` are the bands counted into it (R135, R136). -/
structure Panel where
  index : Nat
  startRow : Row
  rows : Nat
  last : Bool
  cutA : Option Row
  cutB : Option Row
  verdict : Verdict
  firstBand : Nat
  lastBand : Nat
  deriving DecidableEq, Repr

inductive Policy where
  | report | holdCut | holdPrint
  deriving DecidableEq, Repr

/-- The states of a live item (3.2); an item that reaches CLOSED leaves the table. -/
inductive ItemState where
  | opened | closing | settling | held | costing
  deriving DecidableEq, Repr

/-- Why an item is aborted (R57, R58, R54). -/
inductive AbortCause where
  | itemAbort | holdAbort | noMedia | bandLost | rollEnd | linkReset
  deriving DecidableEq, Repr

/-- A live item (3.2). `uid` tells items apart by their ITEM_OPEN take (9.2); `started`, `pendingClose`
and `lastSettled` serve R69, R56 and R136; `abortOrder` is 0 until the abort and then orders the aborts of live items
(R56, log 8); `dryMark` is the cutter controller's (R135), `noteKind` and
`noteWidth` are the costing unit's roll note (R174). -/
structure Item where
  uid : Nat
  id : Nat
  job : Nat
  edition : Option Nat
  print : Nat
  policy : Policy
  declared : Nat
  allowance : Nat
  state : ItemState
  under : Option ItemState
  fate : Fate
  rowsReceived : Nat
  rowsPrinted : Nat
  imageDpl : Vector Nat 12
  checkDpl : Vector Nat 12
  flushNl : Vector Nat 12
  imageRows : Nat
  checkRows : Nat
  gutterRows : Nat
  leadRows : Nat
  reservation : Nat
  panels : List Panel
  openRows : Nat
  firstRow : Option Row
  cutCount : Nat
  abortFeedRows : Nat
  started : Bool
  pendingClose : Option Time
  lastSettled : Option Nat
  abortOrder : Nat
  dryMark : Option Time
  noteKind : Nat
  noteWidth : Nat
  deriving DecidableEq, Repr

/-- The item manager (R40 to R61). `live` is in ITEM_OPEN order, oldest first; `nextUid` numbers takes. -/
structure ItemManager where
  jobs : List Job
  live : List Item
  planRow : Row
  cutRef : Row
  nextUid : Nat
  deriving DecidableEq, Repr

/-! ## The band path (04_the_band_path.md) -/

/-- What a band holds for one present channel (4.1): `volumes` are the drop volumes read at the start
of its count (R89). Counts are per quarter 0..3 and level 1..3. -/
structure BandChannel where
  chan : Chan
  headRow : Nat
  plane : List Byte
  counts : Vector (Vector Nat 3) 4
  volumes : Vector Nat 3
  demand : Nat
  reserve : Nat
  deriving DecidableEq, Repr

/-- The states of a band in the store; a DONE or DISCARDED band has left it (4.1). -/
inductive BandState where
  | filling | filled | counting | counted | waitInk | reserved | queued | inFlight
  deriving DecidableEq, Repr

/-- A band record (4.1). `serial` is its place in the order in which operations arose (R68); `panel` is
the panel it was counted into (R147). -/
structure Band where
  serial : Nat
  slot : Fin 4
  item : Nat
  itemId : Nat
  index : Nat
  startRow : Row
  rows : Nat
  columns : Nat
  channels : List BandChannel
  check : Bool
  layout : Nat
  panel : Nat
  stopPlaced : Bool
  state : BandState
  deriving DecidableEq, Repr

/-- The count in progress with the DROP content read at its start (R64). -/
structure CountJob where
  band : Nat
  drop : Vector DropEntry 12
  deriving DecidableEq, Repr

/-- Where a FEED comes from (4.4). A `bandRest` is the remainder of a shortened BAND; it keeps the
band place of the slot named (R127). -/
inductive FeedSource where
  | record
  | gutter (band : Nat)
  | abort
  | runOut
  | bandRest (slot : Fin 4)
  deriving DecidableEq, Repr

/-- What a general operation does. A CLEAN holds the flush volumes of its mask's channels, in
ascending channel order, and whether they have been granted (R71, R66). -/
inductive Work where
  | feed (source : FeedSource) (rows : Nat)
  | clean (strength : Nat) (flush : List (Chan × Nat)) (granted : Bool)
  deriving DecidableEq, Repr

/-- A FEED or CLEAN operation. `rest` marks the remainder of a shortened operation (R127). -/
structure Op where
  serial : Nat
  owner : Option Nat
  work : Work
  rest : Bool
  deriving DecidableEq, Repr

/-- An entry of the head operation queue. -/
inductive QEntry where
  | band (serial : Nat)
  | op (o : Op)
  deriving DecidableEq, Repr

inductive Part where
  | white | dark | lamp
  deriving DecidableEq, Repr

/-- The operation in flight. -/
inductive FlightWork where
  | band (serial : Nat)
  | op (o : Op)
  | verify (part : Part)
  deriving DecidableEq, Repr

/-- The head link while an operation is in flight (4.5): OFFERING with its offer count and answer
deadline, RUNNING since a moment, or PAUSED_AT_POINT. -/
inductive LinkPhase where
  | offering (offers : Nat) (deadline : Time)
  | running (since : Time)
  | pausedAt
  deriving DecidableEq, Repr

/-- A pause point with the stop it was planned for (R126). -/
structure PausePoint where
  stop : Nat
  offset : Nat
  deriving DecidableEq, Repr

/-- The operation in flight. `elapsed` is what the running timer held when it last stopped; `commanded`
is the commanded feed as shortened (R127); `reported` counts the points reported, so the current
point of a paused link is the last of them. -/
structure Flight where
  opId : Nat
  work : FlightWork
  phase : LinkPhase
  elapsed : Nat
  commanded : Nat
  points : List PausePoint
  reported : Nat
  deriving DecidableEq, Repr

inductive Engine where
  | waitingEngine | running | paused | fault
  deriving DecidableEq, Repr

/-- The band path (R62 to R83). The head link is IDLE when `flight` is absent. -/
structure BandPath where
  store : List Band
  count : Option CountJob
  waiting : List Op
  abortWait : List Op
  queue : List QEntry
  flight : Option Flight
  nextOpId : Nat
  engine : Engine
  readySeen : Bool
  nextArise : Nat
  deriving DecidableEq, Repr

/-! ## The ink station (05_ink_arithmetic.md, 06_the_ink_station.md) -/

/-- A channel account (R84). -/
structure Account where
  subTank : Nat
  reserved : Nat
  residue : Nat
  consumed : Nat
  flushed : Nat
  refilled : Nat
  deriving DecidableEq, Repr

inductive Sensed where
  | ok | low | empty
  deriving DecidableEq, Repr

inductive CartState where
  | absent | seating | reading | ready | low | empty | rejected
  deriving DecidableEq, Repr

inductive RejectReason where
  | tagFault | wrongInk | keyMismatch
  deriving DecidableEq, Repr

/-- A tag write in progress: the value sent and when (R110). -/
structure TagWrite where
  value : Nat
  since : Time
  deriving DecidableEq, Repr

/-- A cartridge record (6.2). `contents` are what the tag read; `readSince` is the request time of a
tag read in progress (R99). -/
structure Cartridge where
  state : CartState
  contents : Option TagContents
  reason : Option RejectReason
  estimate : Option Nat
  lastMl : Nat
  write : Option TagWrite
  writeDue : Bool
  writeFailures : Nat
  readAttempts : Nat
  readSince : Option Time
  removal : Option Time
  deriving DecidableEq, Repr

/-- A slot: its lines, the debounce and filter times, the sensed level and the cartridge record. -/
structure Slot where
  d1 : Bool
  d2 : Bool
  l1 : Bool
  l2 : Bool
  bothSince : Option Time
  levelSince : Time
  sensed : Sensed
  cart : Cartridge
  deriving DecidableEq, Repr

/-- An entry of the recent cartridge list (R111). -/
structure Recent where
  serial : BitVec 64
  volume : Nat
  deriving DecidableEq, Repr

/-- Who asks for ink: a band with its item id and band index, or a CLEAN (R115). -/
inductive Asker where
  | band (itemId index : Nat)
  | clean
  deriving DecidableEq, Repr

/-- The ink station controller (R84 to R118). `waitAsker` is the serial of the asker whose request last
set a wait flag. -/
structure InkStation where
  accounts : Vector Account 12
  slots : Vector Slot 12
  recent : List Recent
  waits : Vector Bool 12
  waitAsker : Option Nat
  deriving DecidableEq, Repr

/-! ## Media position and stops (07_media_position_and_the_stop_list.md) -/

/-- The roll record (7.1). -/
structure Roll where
  loaded : Bool
  kind : Nat
  width : Nat
  remaining : Nat
  reserved : Nat
  position : Row
  lastCutRow : Row
  edges : Nat
  deriving DecidableEq, Repr

inductive CutRole where
  | lead | a | b
  deriving DecidableEq, Repr

/-- What a CUT stop carries (7.2). `lastBand` is the band whose settlement fixes the not-before time
while that is absent (R135). -/
structure CutStop where
  role : CutRole
  cutRow : Row
  notBefore : Option Time
  hold : Bool
  lastBand : Option Nat
  deriving DecidableEq, Repr

/-- What a MEASURE stop carries (7.2). -/
structure MeasureStop where
  layout : Nat
  strip : Nat
  deriving DecidableEq, Repr

inductive StopKind where
  | cut (c : CutStop)
  | measure (m : MeasureStop)
  deriving DecidableEq, Repr

/-- An entry of the stop list (7.2). `uid` tells stops apart; `item` is the owner's `Item.uid`. -/
structure Stop where
  uid : Nat
  position : Row
  item : Nat
  itemId : Nat
  panel : Option Nat
  kind : StopKind
  deriving DecidableEq, Repr

/-- The media controller (R119 to R134). -/
structure Media where
  roll : Roll
  stops : List Stop
  overrun : Nat
  rowsMoved : Nat
  strayRows : Nat
  remainder : Option Op
  runOut : Option Time
  rollEndArmed : Bool
  rollEndLine : Bool
  lifetimeRows : Nat
  nextStop : Nat
  deriving DecidableEq, Repr

/-! ## The cutter (08_the_cutter.md) -/

inductive CutterState where
  | idle | waiting | cutting | fault
  deriving DecidableEq, Repr

inductive CutFault where
  | jam | timeout
  deriving DecidableEq, Repr

/-- The cutter controller (8.1). `dispatchedAt` and `startedAt` give the two times of the DONE notice
(R145). The dry marks stand in the items. -/
structure Cutter where
  state : CutterState
  held : Option Nat
  cause : Option CutFault
  retryPending : Bool
  deadline : Option Time
  lastEdge : Time
  holdReported : Bool
  dispatchedAt : Option Time
  startedAt : Option Time
  bladeCount : Nat
  deriving DecidableEq, Repr

/-! ## Colour checks and sensor verification (09, 10) -/

inductive PatchMark where
  | opened | complete | missed
  deriving DecidableEq, Repr

/-- A patch of the scan record: its expected sequence and the raw values of the filled slots (9.2). The
next slot is the number of them. -/
structure ScanPatch where
  expected : List Filter
  raws : List Nat
  mark : PatchMark
  deriving DecidableEq, Repr

inductive EndCause where
  | done | timeout | aborted | fault
  deriving DecidableEq, Repr

/-- The scan record while not FREE (9.2): SCANNING until `ended` holds the cause of its end. -/
structure Scan where
  item : Nat
  itemId : Nat
  job : Nat
  edition : Option Nat
  panel : Nat
  strip : Nat
  layout : Nat
  position : Row
  stop : Nat
  opId : Nat
  integration : Nat
  deadline : Option Time
  patches : List ScanPatch
  ended : Option EndCause
  deriving DecidableEq, Repr

/-- A check strip whose measure stop waits for a place (R147). -/
structure Strip where
  band : Nat
  stop : Stop
  deriving DecidableEq, Repr

/-- A held edition entry (9.5). -/
structure Edition where
  number : Nat
  printsClosed : Nat
  layout : Option Nat
  values : Vector (Vector (Option Nat) 4) 24
  last : Verdict
  deriving DecidableEq, Repr

/-- The calibration record (R166). -/
structure Calibration where
  white : Vector Nat 4
  black : Vector Nat 4
  whitePassed : Bool
  darkPassed : Bool
  valid : Bool
  deriving DecidableEq, Repr

/-- Why a part of a sensor test failed (R170). -/
inductive PartFailure where
  | condition | readings | aborted | fault
  deriving DecidableEq, Repr

/-- The outcome of a part that ended: absent failure is a pass; `figures` are the four means of a WHITE
or DARK part judged, or the smallest and largest F3 value of a LAMP part (R170). -/
structure PartOutcome where
  part : Part
  failure : Option PartFailure
  figures : List Nat
  deriving DecidableEq, Repr

/-- The test in progress (R167, R170). -/
structure TestRun where
  code : Nat
  current : Part
  outcomes : List PartOutcome
  deriving DecidableEq, Repr

/-- The verification state beside the calibration record (10). -/
structure Verify where
  busy : Bool
  test : Option TestRun
  pending : Option Part
  readings : Vector (List Nat) 4
  malformed : Bool
  result : Nat
  deriving DecidableEq, Repr

/-- The colour check unit (R147 to R172). `editions` is in recency order, most recent first; `measure`
is a dispatched measure stop whose scan has not started (R148). -/
structure Colour where
  scan : Option Scan
  strips : List Strip
  measure : Option Nat
  editions : List Edition
  cal : Calibration
  verify : Verify
  deriving DecidableEq, Repr

/-! ## Costing (11_costing.md) -/

/-- A cost record (R178, 1.8). -/
structure CostRecord where
  number : Nat
  job : Nat
  itemId : Nat
  edition : Option Nat
  fate : Fate
  worst : Verdict
  print : Nat
  panelCount : Nat
  priceVersion : Nat
  imageRows : Nat
  checkRows : Nat
  gutterRows : Nat
  leadRows : Nat
  imageInk : Vector Nat 12
  checkInk : Nat
  flush : Nat
  imageMedia : Nat
  checkMedia : Nat
  wasteMedia : Nat
  cuts : Nat
  total : Nat
  deriving DecidableEq, Repr

/-- The costing unit (R173 to R182): queues hold item uids and job numbers, oldest first. -/
structure Costing where
  queue : List Nat
  jobQueue : List Nat
  log : List CostRecord
  nextRecord : Nat
  deriving DecidableEq, Repr

/-! ## The job link (01_the_job_link.md) -/

/-- Reply status codes (1.4), in the order of their numbers 0x00..0x0B (1.8). -/
inductive Status where
  | ok | busy | refusedState | badRecord | badTable | noTable | noMedia | unknownRef | locked
  | notHeld | linkError | noRoom
  deriving DecidableEq, Repr

inductive StreamKind where
  | jobOpen | jobClose | itemOpen | itemClose | band | feed | clean | tableLoad
  deriving DecidableEq, Repr

inductive ExpressKind where
  | statusQuery | halt | resume | itemAbort | holdRelease | tableBegin | tablePart | tableCommit
  | rollLoad | sensorVerify | verifyClear | editionReset | cutterClear | costDump | counterDump
  | faultDump | engineReset
  deriving DecidableEq, Repr

/-- An entry of the intake queue: the header by field and the body, which for a BAND is its 16 fixed
bytes (R7, R8). `length` is the header's body length. -/
structure IntakeEntry where
  kind : StreamKind
  tag : Byte
  length : Nat
  body : List Byte
  deriving DecidableEq, Repr

/-- What the stream lane is receiving (R8, R17, R63): nothing; a BAND whose fixed part waits in the
intake queue; the planes of an accepted BAND, with the 24 bytes received before them; or the rest of a
BAND that is dropped. -/
inductive Rx where
  | idle
  | waiting
  | filling (band : Nat) (wire : List Byte) (length : Nat) (tag : Byte)
  | dropping
  deriving DecidableEq, Repr

/-- An entry of the express hold (R6). -/
inductive HoldEntry where
  | express (kind : ExpressKind) (tag : Byte) (body : List Byte)
  | reply (tag : Byte) (status : Status)
  deriving DecidableEq, Repr

/-- The fault capture (R14). `filling` says that the rest of a captured BAND still fills it. -/
structure Capture where
  armed : Bool
  bytes : List Byte
  length : Nat
  filling : Bool
  deriving DecidableEq, Repr

/-- The status body (R16). -/
structure StatusBody where
  engine : Engine
  loaded : Bool
  rollKind : Nat
  width : Nat
  remaining : Nat
  reserved : Nat
  position : Row
  lastCutRow : Row
  channels : Vector (CartState × Nat) 12
  slots : Nat
  stops : Nat
  present : List Section
  lock : Option Section
  valid : Bool
  priceVersion : Nat
  displaced : Bool
  deriving DecidableEq, Repr

/-- The counter dump body (R181). -/
structure CounterBody where
  channels : Vector (Nat × Nat × Nat) 12
  rowsFed : Nat
  cuts : Nat
  deriving DecidableEq, Repr

/-- The body of a reply (R10). -/
inductive ReplyBody where
  | empty
  | status (b : StatusBody)
  | capture (bytes : List Byte)
  | counters (b : CounterBody)
  deriving DecidableEq, Repr

/-- The eleven notice classes, in the order of the NOTICE section (1.5, R27). -/
inductive NoticeClass where
  | ink | item | panel | check | cut | cost | job | head | media | table | verify
  deriving DecidableEq, Repr

/-- The cause of a CARTRIDGE notice (R116). -/
inductive CartCause where
  | seated | unseated | read | readFailed | placed | levelSense | drawnDown | mapChange | removed
  deriving DecidableEq, Repr

/-- The body of a CARTRIDGE notice (R116). The identity fields are those of the tag contents. -/
structure CartridgeBody where
  slot : Chan
  before : CartState
  after : CartState
  reason : Option RejectReason
  serial : Option (BitVec 64)
  kind : Option Byte
  sizeClass : Option (Fin 4)
  fill : Option (BitVec 32)
  lot : Option (BitVec 32)
  estimate : Option Nat
  cause : CartCause
  attempts : Option Nat
  deriving DecidableEq, Repr

/-- The body of WAIT_START and WAIT_END (R115). -/
structure WaitBody where
  channel : Chan
  asker : Asker
  amount : Nat
  available : Nat
  cartridge : CartState
  deriving DecidableEq, Repr

/-- The codes of ITEM notices (R59). -/
inductive ItemCode where
  | closing | settling | held | released | aborted (cause : AbortCause) | costing
  deriving DecidableEq, Repr

/-- The body of an ITEM notice (R59). -/
structure ItemBody where
  id : Nat
  job : Nat
  print : Nat
  edition : Option Nat
  state : ItemState
  under : Option ItemState
  fate : Fate
  rowsReceived : Nat
  rowsPrinted : Nat
  panelsClosed : Nat
  deriving DecidableEq, Repr

/-- The body of a PANEL notice (R49). -/
structure PanelBody where
  id : Nat
  job : Nat
  index : Nat
  startRow : Row
  rows : Nat
  last : Bool
  cutA : Option Row
  cutB : Option Row
  deriving DecidableEq, Repr

/-- One measured filter of a patch entry (R163); `fromBaseline` is its reference's source. -/
structure FilterFigure where
  filter : Filter
  reflectance : Nat
  reference : Nat
  fromBaseline : Bool
  deviation : Int
  deriving DecidableEq, Repr

/-- A patch entry of a CHECK notice (R163). -/
structure PatchEntry where
  index : Nat
  mark : PatchMark
  figures : List FilterFigure
  score : Option Nat
  verdict : Option Verdict
  deriving DecidableEq, Repr

/-- The body of a CHECK notice (R163). -/
structure CheckBody where
  id : Nat
  job : Nat
  print : Option Nat
  edition : Option Nat
  panel : Nat
  strip : Nat
  layout : Nat
  position : Row
  cause : Option EndCause
  valid : Bool
  stripVerdict : Verdict
  panelVerdict : Option Verdict
  filled : Nat
  printsClosed : Option Nat
  lastVerdict : Option Verdict
  patches : List PatchEntry
  deriving DecidableEq, Repr

/-- What most CUT notices carry of a stop (R145). -/
structure CutBody where
  role : CutRole
  id : Nat
  panel : Option Nat
  position : Row
  deriving DecidableEq, Repr

inductive OpKind where
  | band | feed | clean | verify
  deriving DecidableEq, Repr

/-- An operation as HEAD notices name it (R76, R77). -/
structure OpRef where
  opId : Nat
  kind : OpKind
  owner : Option Nat
  deriving DecidableEq, Repr

/-- The causes of a HEAD_FAULT (R77). -/
inductive FaultCause where
  | noAccept | timeout | protocol | engineFault
  deriving DecidableEq, Repr

/-- The body of a JOB notice (R42). -/
structure JobBody where
  number : Nat
  fate : Fate
  itemsClosed : Nat
  total : Nat
  charge : Nat
  flush : Vector Nat 12
  deriving DecidableEq, Repr

/-- The body of a FEED_SLIP notice (R131): the operation's id and kind, none for stray rows, which have no
commanded feed either (log 25). -/
structure SlipBody where
  op : Option (Nat × OpKind)
  commanded : Option Nat
  moved : Nat
  difference : Int
  position : Row
  deriving DecidableEq, Repr

/-- The body of a VERIFY notice that ends a test (R170). -/
structure VerifyBody where
  code : Nat
  before : Nat
  after : Nat
  outcomes : List PartOutcome
  white : Vector Nat 4
  black : Vector Nat 4
  whitePassed : Bool
  darkPassed : Bool
  valid : Bool
  deriving DecidableEq, Repr

/-- Every notice, its code and body (1.5 and the notice rules of each chapter). -/
inductive Notice where
  | cartridge (b : CartridgeBody)
  | levelCorrected (slot : Chan) (before after : Nat) (sensed : Sensed)
  | tagWriteFailed (slot : Chan)
  | waitStart (b : WaitBody)
  | waitEnd (b : WaitBody)
  | item (code : ItemCode) (b : ItemBody)
  | panelClosed (b : PanelBody)
  | checkVerdict (b : CheckBody)
  | checkUnread (b : CheckBody)
  | cutDone (b : CutBody) (job : Nat) (cutRow : Row) (bladeCount waited ran : Nat)
  | cutJam (b : CutBody)
  | cutTimeout (b : CutBody)
  | cutHoldWait (b : CutBody)
  | cutCleared (role : CutRole) (id : Nat) (panel : Option Nat) (retryNow : Bool)
  | bladeLimit (count : Nat)
  | cutsDropped (count : Nat) (owners : List Nat)
  | costRecord (r : CostRecord)
  | costDump (r : CostRecord)
  | jobClosed (b : JobBody)
  | headReady
  | headFault (cause : FaultCause) (op : Option OpRef)
  | opAborted (op : OpRef) (rows : Nat)
  | rollEnd (position : Row) (remaining reserved : Nat) (aborted : List Nat)
  | rollOut (position : Row) (overrun : Nat)
  | feedSlip (b : SlipBody)
  | stopsDropped (cuts measures : Nat) (owners : List Nat)
  | lockExpired (sec : Section) (written : Nat)
  | verifyPass (b : VerifyBody)
  | verifyFail (b : VerifyBody)
  | verifyCleared (before : Nat)
  deriving DecidableEq, Repr

inductive Payload where
  | reply (status : Status) (body : ReplyBody)
  | notice (n : Notice)
  deriving DecidableEq, Repr

/-- An entry of the return queue (R11, R12); a reply has level 8, a notice tag 0. -/
structure Entry where
  level : Nat
  tag : Byte
  time : Time
  payload : Payload
  deriving DecidableEq, Repr

/-- The link port (R3 to R19). -/
structure Link where
  intake : List IntakeEntry
  rx : Rx
  hold : List HoldEntry
  ret : List Entry
  displaced : Bool
  capture : Capture
  deriving DecidableEq, Repr

/-! ## What leaves the part -/

/-- The parameters of an OFFER (4.5). A BAND's planes are labelled with their head rows. -/
inductive OfferBody where
  | band (rows columns feed : Nat) (planes : List (Nat × List Byte))
  | feed (rows : Nat)
  | clean (strength : Nat) (channels : List Chan)
  | verify (part : Part)
  deriving DecidableEq, Repr

/-- A message sent on the return lane, the head link, the cutter line or a tag line. -/
inductive Output where
  | upstream (e : Entry)
  | offer (opId : Nat) (body : OfferBody) (offsets : List Nat)
  | proceed (opId : Nat)
  | scan (opId layout integration : Nat)
  | headReset
  | cutStart
  | tagRead (slot : Chan)
  | tagWrite (slot : Chan) (remaining : Nat)
  deriving DecidableEq, Repr

/-! ## The whole part -/

/-- The state of the part. `pending` is the queue of commands that wait, first in first out; `out` is
what the last command sent (log 8). -/
structure State where
  now : Time
  pending : List Instr
  out : List Output
  link : Link
  tables : TableStore
  items : ItemManager
  path : BandPath
  ink : InkStation
  media : Media
  cutter : Cutter
  colour : Colour
  costing : Costing
  deriving DecidableEq, Repr

/-- No command of the table stops the part: there is no fault, and no constructor. Nobody raises one;
that is safe, since every command then takes a next state. -/
inductive Fault where
  deriving DecidableEq, Repr

/-- Why a command has no meaning. -/
inductive Refusal where
  /-- The command is not modelled yet. Only exec's arms may raise it; none does. Safe: nothing can be
  proved of a command refused so. -/
  | notModelled (mnemonic : String)
  deriving DecidableEq, Repr

/-! ## Power-on -/

/-- The link port at power-on (R18). -/
def Link.reset : Link :=
  { intake := [], rx := .idle, hold := [], ret := [], displaced := false,
    capture := { armed := true, bytes := [], length := 0, filling := false } }

/-- The table store at power-on (R38). -/
def TableStore.reset : TableStore :=
  { channelMap := none, drop := none, mediaProfile := none, price := none, patch := none,
    tolerance := none, maintenance := none, notice := none, lock := none, staging := [],
    expiry := none, priceVersion := 0 }

/-- The item manager at power-on (R60). -/
def ItemManager.reset : ItemManager :=
  { jobs := [], live := [], planRow := 0, cutRef := 0, nextUid := 0 }

/-- The band path at power-on (R83). -/
def BandPath.reset : BandPath :=
  { store := [], count := none, waiting := [], abortWait := [], queue := [], flight := none,
    nextOpId := 1, engine := .waitingEngine, readySeen := false, nextArise := 0 }

/-- A channel account at power-on (R96). -/
def Account.reset : Account :=
  { subTank := 150000, reserved := 0, residue := 0, consumed := 0, flushed := 0, refilled := 0 }

/-- A cartridge record with every field cleared (R100, R117). -/
def Cartridge.cleared : Cartridge :=
  { state := .absent, contents := none, reason := none, estimate := none, lastMl := 0,
    write := none, writeDue := false, writeFailures := 0, readAttempts := 0, readSince := none,
    removal := none }

/-- A slot at power-on (R117) with its lines as power-on finds them here: no cartridge seated and both
level lines high (log 6). -/
def Slot.reset : Slot :=
  { d1 := false, d2 := false, l1 := true, l2 := true, bothSince := none, levelSince := 0#32,
    sensed := .ok, cart := Cartridge.cleared }

/-- The ink station controller at power-on (R96, R117). -/
def InkStation.reset : InkStation :=
  { accounts := Vector.replicate 12 Account.reset, slots := Vector.replicate 12 Slot.reset,
    recent := [], waits := Vector.replicate 12 false, waitAsker := none }

/-- The roll record at power-on (R133). -/
def Roll.reset : Roll :=
  { loaded := false, kind := 0, width := 0, remaining := 0, reserved := 0, position := 0,
    lastCutRow := 0, edges := 0 }

/-- The media controller at power-on (R133), with the roll-end sensor released (log 6). -/
def Media.reset : Media :=
  { roll := Roll.reset, stops := [], overrun := 0, rowsMoved := 0, strayRows := 0,
    remainder := none, runOut := none, rollEndArmed := true, rollEndLine := false,
    lifetimeRows := 0, nextStop := 0 }

/-- The cutter controller at power-on (R146). -/
def Cutter.reset : Cutter :=
  { state := .idle, held := none, cause := none, retryPending := false, deadline := none,
    lastEdge := 0#32, holdReported := false, dispatchedAt := none, startedAt := none,
    bladeCount := 0 }

/-- The calibration record at power-on (R166). -/
def Calibration.reset : Calibration :=
  { white := Vector.replicate 4 60000, black := Vector.replicate 4 1200, whitePassed := false,
    darkPassed := false, valid := false }

/-- The verification state at power-on (R172). -/
def Verify.reset : Verify :=
  { busy := false, test := none, pending := none, readings := Vector.replicate 4 [],
    malformed := false, result := 0 }

/-- The colour check unit at power-on (R164, R172). -/
def Colour.reset : Colour :=
  { scan := none, strips := [], measure := none, editions := [], cal := Calibration.reset,
    verify := Verify.reset }

/-- The costing unit at power-on (R182). -/
def Costing.reset : Costing :=
  { queue := [], jobQueue := [], log := [], nextRecord := 1 }

/-- The part right after power-on: every block at its power-on values and the run-time counter at 0. -/
def State.reset : State :=
  { now := 0#32, pending := [], out := [], link := Link.reset, tables := TableStore.reset,
    items := ItemManager.reset, path := BandPath.reset, ink := InkStation.reset,
    media := Media.reset, cutter := Cutter.reset, colour := Colour.reset,
    costing := Costing.reset }

end Sys2Proof.Machine
end

