-- ==== Sys2Proof/Machine/Limits.lean ====
section
/-! DEFINITION. The figures of the spec by name: capacities, times in ms, ink volumes. -/

namespace Sys2Proof.Machine

/-- Replies the return queue holds before R6 and R9 stop producing more (R12). -/
def replyPlaces : Nat := 4
/-- Notices the return queue holds (R12). -/
def noticePlaces : Nat := 28
/-- Entries of the express hold (R6). -/
def holdPlaces : Nat := 8
/-- Bytes of the intake queue (R7). -/
def intakeBytes : Nat := 65536
/-- Bytes the fault capture stores (R14). -/
def captureBytes : Nat := 64
/-- Live jobs (3.1). -/
def jobPlaces : Nat := 4
/-- Live items (3.2). -/
def itemPlaces : Nat := 16
/-- General places of the head operation queue (R68). -/
def generalPlaces : Nat := 4
/-- Entries of the stop list (R121). -/
def stopPlaces : Nat := 32
/-- Pause points of one operation (R126). -/
def pausePlaces : Nat := 4
/-- Entries of the recent cartridge list (R111). -/
def recentPlaces : Nat := 12
/-- Entries of the edition table (R159). -/
def editionPlaces : Nat := 8
/-- Records of the cost log (R178). -/
def logPlaces : Nat := 64

/-- A staged load expires this long after the last accepted part (R31, R32). -/
def lockMs : Time := 2000#32
/-- The answer deadline of an OFFER (R73). -/
def answerMs : Time := 500#32
/-- The scan deadline (R148). -/
def scanMs : Time := 10000#32
/-- The cut deadline (R139). -/
def cutMs : Time := 8000#32
/-- Stillness before a cut (R137). -/
def stillMs : Time := 20#32
/-- Seating and removal debounce (R100, R101). -/
def seatMs : Time := 250#32
/-- Level sense filter (R98). -/
def levelMs : Time := 100#32
/-- Tag read limit (R99). -/
def tagReadMs : Time := 100#32
/-- Tag write limit (R99). -/
def tagWriteMs : Time := 50#32

/-- A sub-tank's floor (R84). -/
def subTankFloor : Nat := 150000
/-- A sub-tank's capacity (R84). -/
def subTankFull : Nat := 2000000
/-- Decipicolitres in a nanolitre (00_scope.md, Units). -/
def dplPerNl : Nat := 10000
/-- Nanolitres in a millilitre. -/
def nlPerMl : Nat := 1000000
/-- The largest volume estimate (R105). -/
def estimateMax : Nat := 1000000000
/-- The longest roll (R119) and the most declared rows (R43). -/
def rollMax : Nat := 9600000
/-- What a roll end leaves (R120). -/
def rollEndRows : Nat := 600

/-- The running timer's limit for each kind of operation (R74). -/
def runLimit : OpKind → Nat
  | .band => 20000
  | .feed => 10000
  | .clean => 60000
  | .verify => 15000

end Sys2Proof.Machine
end

