-- ==== Sys2Proof/Machine/Operands.lean ====
section
/-! DEFINITION. Bytes and bodies: little-endian fields, the CRC-32 of R3, record headers and kinds
(1.8), the bodies of records as their chapters give them, section images with their refusal checks and
clamps (R20 to R27), and the upstream layouts of 1.8. -/

namespace Sys2Proof.Machine

/-! ## Fields of a body -/

/-- Byte `i` of a body, 0 beyond its end. -/
def u8 (b : List Byte) (i : Nat) : Nat := (b.getD i 0#8).toNat

/-- The 2-byte little-endian field at `i` (1.8). -/
def u16 (b : List Byte) (i : Nat) : Nat := u8 b i + 256 * u8 b (i + 1)

/-- The 4-byte little-endian field at `i` (1.8). -/
def u32 (b : List Byte) (i : Nat) : Nat := u16 b i + 65536 * u16 b (i + 2)

/-- Are the `n` bytes from `i` on all zero (reserved bytes)? -/
def zeros (b : List Byte) (i n : Nat) : Bool := (List.range n).all fun k => u8 b (i + k) == 0

/-- The `n` low bytes of a number, least significant first. -/
def leBytes : Nat → Nat → List Byte
  | 0, _ => []
  | n + 1, v => BitVec.ofNat 8 v :: leBytes n (v / 256)

/-- The channels of a mask in ascending order. -/
def channelsOf (mask : Nat) : List Chan := (List.finRange 12).filter fun c => mask.testBit c.val

/-- Are mask bits 12..15 zero? -/
def maskInRange (mask : Nat) : Bool := mask < 4096

/-! ## CRC-32 (R3) -/

/-- One bit of the CRC register: least significant bit first, so the generator 0x04C11DB7 stands
bit-reversed. -/
def crcBit (r : BitVec 32) : BitVec 32 :=
  if r.getLsbD 0 then (r >>> 1) ^^^ 0xEDB88320#32 else r >>> 1

/-- One byte of the CRC register. -/
def crcByte (r : BitVec 32) (b : Byte) : BitVec 32 :=
  crcBit (crcBit (crcBit (crcBit (crcBit (crcBit (crcBit (crcBit (r ^^^ b.setWidth 32))))))))

/-- The CRC-32 of the job link (R3): the register starts at all ones and the result is complemented. -/
def crc32 (bytes : List Byte) : BitVec 32 := ~~~(bytes.foldl crcByte 0xFFFFFFFF#32)

/-! ## Records -/

/-- The code of a stream kind (1.8). -/
def StreamKind.code : StreamKind → Byte
  | .jobOpen => 0x10#8 | .jobClose => 0x11#8 | .itemOpen => 0x12#8 | .itemClose => 0x13#8
  | .band => 0x14#8 | .feed => 0x15#8 | .clean => 0x16#8 | .tableLoad => 0x17#8

/-- The code of an express kind (1.8). -/
def ExpressKind.code : ExpressKind → Byte
  | .statusQuery => 0x40#8 | .halt => 0x41#8 | .resume => 0x42#8 | .itemAbort => 0x43#8
  | .holdRelease => 0x44#8 | .tableBegin => 0x45#8 | .tablePart => 0x46#8
  | .tableCommit => 0x47#8 | .rollLoad => 0x48#8 | .sensorVerify => 0x49#8
  | .verifyClear => 0x4A#8 | .editionReset => 0x4B#8 | .cutterClear => 0x4C#8
  | .costDump => 0x4D#8 | .counterDump => 0x4E#8 | .faultDump => 0x4F#8 | .engineReset => 0x50#8

/-- A record's class follows from its kind (R5). -/
inductive Kind where
  | stream (k : StreamKind)
  | express (k : ExpressKind)
  deriving DecidableEq, Repr

/-- The eight stream kinds (R5). -/
def streamKinds : List StreamKind :=
  [.jobOpen, .jobClose, .itemOpen, .itemClose, .band, .feed, .clean, .tableLoad]

/-- The seventeen express kinds (R5). -/
def expressKinds : List ExpressKind :=
  [.statusQuery, .halt, .resume, .itemAbort, .holdRelease, .tableBegin, .tablePart, .tableCommit,
   .rollLoad, .sensorVerify, .verifyClear, .editionReset, .cutterClear, .costDump, .counterDump,
   .faultDump, .engineReset]

/-- The kind a kind byte names: one of the twenty-five of 1.8, or none. -/
def kindOf (b : Byte) : Option Kind :=
  match streamKinds.find? fun k => k.code == b with
  | some k => some (.stream k)
  | none => (expressKinds.find? fun k => k.code == b).map .express

/-- The eight header bytes (1.8). -/
def headerBytes (kind flags tag reserved : Byte) (length : Nat) : List Byte :=
  [kind, flags, tag, reserved] ++ leBytes 4 length

/-- A record's header and body, over which its CRC is computed (R3). -/
def recordHead (r : Record) : List Byte :=
  headerBytes r.kind r.flags r.tag r.reserved r.length.toNat ++ r.body

/-- R3: the CRC of a whole record is good. -/
def crcGood (r : Record) : Bool := crc32 (recordHead r) == r.crc

/-- The whole record as it travelled (R14). -/
def recordWire (r : Record) : List Byte := recordHead r ++ leBytes 4 r.crc.toNat

/-- A record of good CRC and header as it travelled: header, body, CRC (R14). -/
def goodWire (kind flags tag : Byte) (body : List Byte) : List Byte :=
  let head := headerBytes kind flags tag 0#8 body.length ++ body
  head ++ leBytes 4 (crc32 head).toNat

/-- The header and fixed part of a BAND as they travelled. -/
def bandWire (tag : Byte) (length : Nat) (fixed : List Byte) : List Byte :=
  headerBytes 0x14#8 0#8 tag 0#8 length ++ fixed

/-- The largest BAND body (R4). -/
def bandBodyMax : Nat := 3686416
/-- The largest body of any other stream record (R4). -/
def streamBodyMax : Nat := 65528
/-- The largest express body (R4). -/
def expressBodyMax : Nat := 4096

/-- Check 4 of R4: the body length lies within the kind's bound. -/
def lengthInBound : Kind → Nat → Bool
  | .stream .band, n => 16 ≤ n && n ≤ bandBodyMax
  | .stream _, n => n ≤ streamBodyMax
  | .express _, n => n ≤ expressBodyMax

/-- Checks 1 to 4 of R4 on a header; answers the kind where they hold. -/
def checkHeader (kind flags reserved : Byte) (length : Nat) : Option Kind :=
  match kindOf kind with
  | none => none
  | some k =>
    let flag : Byte := match k with | .stream _ => 0#8 | .express _ => 1#8
    if flags = flag ∧ reserved = 0#8 ∧ lengthInBound k length = true then some k else none

/-- Bytes an entry occupies in the intake queue (R7, R8): 24 for a BAND. -/
def IntakeEntry.occupancy (e : IntakeEntry) : Nat := 8 + e.body.length

/-! ## Bodies of stream records -/

/-- A body of a 4-byte number and four reserved bytes: JOB_OPEN, JOB_CLOSE, EDITION_RESET, and ROLL_LOAD
(R40, R41, R161, R119). -/
def numberBody (b : List Byte) : Option Nat :=
  if b.length = 8 ∧ zeros b 4 4 = true then some (u32 b 0) else none

/-- A body of one byte and three reserved bytes: ITEM_CLOSE, ITEM_ABORT (R51, R57). -/
def byteBody (b : List Byte) : Option Nat :=
  if b.length = 4 ∧ zeros b 1 3 = true then some (u8 b 0) else none

/-- The fields of an ITEM_OPEN (R43). -/
structure ItemOpenBody where
  id : Nat
  policy : Policy
  edition : Option Nat
  job : Nat
  print : Nat
  declared : Nat
  deriving DecidableEq, Repr

/-- The hold policy of a policy byte (R43). -/
def policyOf : Nat → Policy
  | 0 => .report
  | 1 => .holdCut
  | _ => .holdPrint

/-- Check 1 of R43. -/
def itemOpenBody (b : List Byte) : Option ItemOpenBody :=
  if b.length = 20 ∧ u8 b 3 = 0 ∧ u8 b 0 ≠ 0 ∧ u8 b 1 ≤ 2 ∧ u8 b 2 ≤ 1 ∧
      ¬(u32 b 8 ≠ 0 ∧ u8 b 2 = 0) ∧ 1 ≤ u32 b 16 ∧ u32 b 16 ≤ rollMax then
    some { id := u8 b 0, policy := policyOf (u8 b 1),
           edition := if u8 b 2 = 1 then some (u32 b 8) else none,
           job := u32 b 4, print := u32 b 12, declared := u32 b 16 }
  else none

/-- The fields of a BAND's fixed part (1.8). -/
structure BandBody where
  itemId : Nat
  rows : Nat
  columns : Nat
  index : Nat
  mask : Nat
  check : Bool
  layout : Nat
  deriving DecidableEq, Repr

/-- Bytes of one plane row: four pixels a byte (1.8). -/
def rowBytes (columns : Nat) : Nat := (columns + 3) / 4

/-- Check 1 of R62, on the fixed part and the header's body length. -/
def bandBody (b : List Byte) (length : Nat) : Option BandBody :=
  let rows := u8 b 1
  let columns := u16 b 2
  let mask := u16 b 8
  let flags := u8 b 10
  let layout := u8 b 11
  if 1 ≤ rows ∧ rows ≤ 32 ∧ 1 ≤ columns ∧ columns ≤ 38400 ∧ maskInRange mask = true ∧ flags ≤ 1 ∧
      layout ≤ 7 ∧ ¬(layout ≠ 0 ∧ flags = 0) ∧ zeros b 12 4 = true ∧
      length = 16 + (channelsOf mask).length * rows * rowBytes columns then
    some { itemId := u8 b 0, rows := rows, columns := columns, index := u32 b 4, mask := mask,
           check := flags == 1, layout := layout }
  else none

/-- A FEED body: rows in 1..96,000 (R70). -/
def feedBody (b : List Byte) : Option Nat :=
  if b.length = 4 ∧ 1 ≤ u32 b 0 ∧ u32 b 0 ≤ 96000 then some (u32 b 0) else none

/-- A CLEAN body: strength and a non-empty mask (R71). -/
def cleanBody (b : List Byte) : Option (Nat × Nat) :=
  if b.length = 4 ∧ 1 ≤ u8 b 0 ∧ u8 b 0 ≤ 3 ∧ u8 b 1 = 0 ∧ u16 b 2 ≠ 0 ∧ maskInRange (u16 b 2) = true then
    some (u8 b 0, u16 b 2)
  else none

/-! ## Table sections (R20 to R27) -/

/-- The section of a section code (R20). -/
def sectionOf : Nat → Option Section
  | 1 => some .channelMap
  | 2 => some .drop
  | 3 => some .mediaProfile
  | 4 => some .price
  | 5 => some .patch
  | 6 => some .tolerance
  | 7 => some .maintenance
  | 8 => some .notice
  | _ => none

/-- A section's image length in bytes (R20). -/
def Section.imageLength : Section → Nat
  | .channelMap => 192
  | .drop => 336
  | .mediaProfile => 44
  | .price => 84
  | .patch => 6208
  | .tolerance => 64
  | .maintenance => 144
  | .notice => 44

/-- The 4-byte fields of an image in order (R20). -/
def fieldsOf : List Byte → List Nat
  | a :: b :: c :: d :: rest =>
      (a.toNat + 256 * b.toNat + 65536 * c.toNat + 16777216 * d.toNat) :: fieldsOf rest
  | _ => []

/-- Field `i` of an image. -/
def fld (f : List Nat) (i : Nat) : Nat := f.getD i 0

/-- Does `p` hold for every index below `n`? -/
def allBelow (n : Nat) (p : Nat → Bool) : Bool := (List.range n).all p

/-- R22: the refusal checks of CHANNEL_MAP. -/
def validChannelMap (f : List Nat) : Bool :=
  (allBelow 12 fun c => decide (fld f (4 * c) ≤ 1) && decide (1 ≤ fld f (4 * c + 1)) &&
      decide (fld f (4 * c + 1) ≤ 250) && decide (fld f (4 * c + 2) ≤ 11) &&
      decide (fld f (4 * c + 3) ≤ 1000000000)) &&
  (allBelow 12 fun c => allBelow c fun d =>
      !(fld f (4 * c) == 1 && fld f (4 * d) == 1 && fld f (4 * c + 2) == fld f (4 * d + 2)))

/-- The committed content of a CHANNEL_MAP image. -/
def channelMapOf (f : List Nat) : Vector MapEntry 12 :=
  Vector.ofFn fun c => { enabled := fld f (4 * c) == 1, inkKind := fld f (4 * c + 1),
                         headRow := fld f (4 * c + 2), lowMark := fld f (4 * c + 3) }

/-- R23: the refusal checks of DROP; entry 0 of a level map is not checked. -/
def validDrop (f : List Nat) : Bool :=
  allBelow 12 fun c => (allBelow 3 fun l => decide (fld f (7 * c + 1 + l) ≤ 3)) &&
    allBelow 3 fun l => decide (fld f (7 * c + 4 + l) ≤ 255)

/-- The committed content of a DROP image: entry 0 of every level map is 0 (R23). -/
def dropOf (f : List Nat) : Vector DropEntry 12 :=
  Vector.ofFn fun c =>
    { levels := Vector.ofFn fun l => if l.val = 0 then 0 else fld f (7 * c + l),
      volumes := Vector.ofFn fun l => fld f (7 * c + 4 + l) }

/-- P rounded down to a multiple of 32 (R24). -/
def roundPanel (p : Nat) : Nat := p / 32 * 32

/-- R24: the refusal checks of MEDIA_PROFILE, after P is rounded down. -/
def validMediaProfile (f : List Nat) : Bool :=
  decide (fld f 0 ≤ 7) && decide (203 ≤ fld f 1) && decide (fld f 1 ≤ 1626) &&
  decide (64 ≤ fld f 2) && decide (fld f 2 ≤ 12000) && decide (fld f 2 + 32 ≤ fld f 3) &&
  decide (fld f 3 ≤ 24000) && decide (fld f 4 ≤ 24000) && decide (1024 ≤ roundPanel (fld f 5)) &&
  decide (roundPanel (fld f 5) ≤ 480000) && decide (1 ≤ fld f 6) && decide (fld f 6 ≤ 4) &&
  decide (1 ≤ fld f 7) && decide (fld f 7 ≤ 16) && decide (fld f 10 ≤ 1)

/-- The committed content of a MEDIA_PROFILE image, with R24's clamps. -/
def mediaProfileOf (f : List Nat) : MediaProfile :=
  { rollKind := fld f 0, width := fld f 1, sensor := fld f 2, cutter := fld f 3,
    gutter := if 1 ≤ fld f 4 ∧ fld f 4 ≤ 31 then 32 else fld f 4,
    maxPanel := roundPanel (fld f 5), startDepth := fld f 6, divisor := fld f 7,
    runOutDelay := min (fld f 8) 60000, dryTime := min (fld f 9) 3600000,
    cutterEnabled := fld f 10 == 1 }

/-- R25: the refusal checks of PRICE. -/
def validPrice (f : List Nat) : Bool :=
  (allBelow 12 fun c => decide (fld f c ≤ 65535)) &&
  (allBelow 8 fun k => decide (fld f (12 + k) ≤ 16777215)) && decide (fld f 20 ≤ 65535)

/-- The committed content of a PRICE image. -/
def priceOf (f : List Nat) : Price :=
  { perMl := Vector.ofFn fun c => fld f c, perM2 := Vector.ofFn fun k => fld f (12 + k),
    cutCharge := fld f 20 }

/-- Fields of one PATCH layout: 2 and 24 patches of 8 (R20). -/
def layoutFields : Nat := 194

/-- R26: the refusal checks of PATCH; patches at or beyond the patch count are not checked (R20). -/
def validPatch (f : List Nat) : Bool :=
  allBelow 8 fun l =>
    let base := layoutFields * l
    let count := fld f base
    let time := fld f (base + 1)
    decide (1 ≤ count) && decide (count ≤ 24) &&
    (time == 2 || time == 4 || time == 8 || time == 16) &&
    allBelow count fun p =>
      let at_ := base + 2 + 8 * p
      decide (256 ≤ fld f (at_ + 1)) && decide (fld f at_ + fld f (at_ + 1) ≤ 38400) &&
      decide (fld f (at_ + 2) ≤ 3) && decide (fld f (at_ + 3) ≤ 3) &&
      allBelow 4 fun t => decide (fld f (at_ + 4 + t) ≤ 4095)

/-- The committed content of a PATCH image. -/
def patchOf (f : List Nat) : Vector PatchLayout 8 :=
  Vector.ofFn fun l =>
    let base := layoutFields * l.val
    { count := fld f base, integration := fld f (base + 1),
      patches := Vector.ofFn fun p =>
        let at_ := base + 2 + 8 * p.val
        { start := fld f at_, width := fld f (at_ + 1), mode := fld f (at_ + 2),
          filter := fld f (at_ + 3), targets := Vector.ofFn fun t => fld f (at_ + 4 + t.val) } }

/-- R26: the refusal checks of TOLERANCE. -/
def validTolerance (f : List Nat) : Bool := allBelow 16 fun i => decide (fld f i ≤ 4095)

/-- The committed content of a TOLERANCE image: a warn above its fail is lowered to it (R26). -/
def toleranceOf (f : List Nat) : Vector Limits 8 :=
  Vector.ofFn fun l =>
    { warn := min (fld f (2 * l.val)) (fld f (2 * l.val + 1)), fail := fld f (2 * l.val + 1) }

/-- R27: the refusal checks of MAINTENANCE. -/
def validMaintenance (f : List Nat) : Bool := allBelow 36 fun i => decide (fld f i ≤ 500000)

/-- The committed content of a MAINTENANCE image: per channel, the flush volume of strength 1, 2, 3. -/
def maintenanceOf (f : List Nat) : Vector (Vector Nat 3) 12 :=
  Vector.ofFn fun c => Vector.ofFn fun k => fld f (3 * c.val + k.val)

/-- R27: the refusal checks of NOTICE. -/
def validNotice (f : List Nat) : Bool := allBelow 11 fun i => decide (fld f i ≤ 7)

/-- The committed content of a NOTICE image. -/
def noticeOf (f : List Nat) : Vector Nat 11 := Vector.ofFn fun i => fld f i.val

/-- Judges a section image whole (R21): the clamped content, or none where a check fails. -/
def judgeImage (sec : Section) (image : List Byte) : Option Content :=
  let f := fieldsOf image
  match sec with
  | .channelMap => if validChannelMap f then some (.channelMap (channelMapOf f)) else none
  | .drop => if validDrop f then some (.drop (dropOf f)) else none
  | .mediaProfile => if validMediaProfile f then some (.mediaProfile (mediaProfileOf f)) else none
  | .price => if validPrice f then some (.price (priceOf f)) else none
  | .patch => if validPatch f then some (.patch (patchOf f)) else none
  | .tolerance => if validTolerance f then some (.tolerance (toleranceOf f)) else none
  | .maintenance => if validMaintenance f then some (.maintenance (maintenanceOf f)) else none
  | .notice => if validNotice f then some (.notice (noticeOf f)) else none

/-- The section a TABLE_LOAD names by its code, if any (R29). -/
def tableLoadSection (b : List Byte) : Option Section := if 1 ≤ b.length then sectionOf (u8 b 0) else none

/-- A TABLE_LOAD body: section code, three reserved bytes, an image of the section's length (R29). -/
def tableLoadBody (b : List Byte) : Option (Section × List Byte) :=
  match tableLoadSection b with
  | none => none
  | some sec =>
    if b.length = 4 + sec.imageLength ∧ zeros b 1 3 = true then some (sec, b.drop 4) else none

/-- A TABLE_BEGIN or TABLE_COMMIT body: section code and three reserved bytes (R31, R33). -/
def sectionBody (b : List Byte) : Option Section :=
  if b.length = 4 ∧ zeros b 1 3 = true then sectionOf (u8 b 0) else none

/-! ## Bodies of express records -/

/-- A ROLL_LOAD body (R119). -/
def rollLoadBody (b : List Byte) : Option Nat :=
  match numberBody b with
  | some n => if n ≤ rollMax then some n else none
  | none => none

/-- A HOLD_RELEASE body: item id and whether the action is ABORT (R54). -/
def holdReleaseBody (b : List Byte) : Option (Nat × Bool) :=
  if b.length = 4 ∧ zeros b 2 2 = true ∧ u8 b 1 ≤ 1 then some (u8 b 0, u8 b 1 == 1) else none

/-- A SENSOR_VERIFY body: a test code 0x2..0x5 (R167). -/
def verifyBody (b : List Byte) : Option Nat :=
  if b.length = 1 ∧ 2 ≤ u8 b 0 ∧ u8 b 0 ≤ 5 then some (u8 b 0) else none

/-- A COST_DUMP body: first record number and count 1..8 (R180). -/
def costDumpBody (b : List Byte) : Option (Nat × Nat) :=
  if b.length = 8 ∧ zeros b 5 3 = true ∧ u32 b 0 ≠ 0 ∧ 1 ≤ u8 b 4 ∧ u8 b 4 ≤ 8 then
    some (u32 b 0, u8 b 4)
  else none

/-- A COUNTER_DUMP body: the clear flag (R181). -/
def counterDumpBody (b : List Byte) : Option Bool :=
  if b.length = 1 ∧ u8 b 0 ≤ 1 then some (u8 b 0 == 1) else none

/-- An ENGINE_RESET body: true for ALL (2), false for STREAM (1) (R17). -/
def engineResetBody (b : List Byte) : Option Bool :=
  if b.length = 1 ∧ (u8 b 0 = 1 ∨ u8 b 0 = 2) then some (u8 b 0 == 2) else none

/-! ## Planes -/

/-- The planes of a BAND payload, one of `size` bytes for each channel (1.8). -/
def splitPlanes (size : Nat) : List BandChannel → List Byte → List BandChannel
  | [], _ => []
  | c :: cs, bytes => { c with plane := bytes.take size } :: splitPlanes size cs (bytes.drop size)

/-- The 2-bit pixel `k` of a byte: the first pixel of the four is in bits 1..0 (1.8). -/
def pixel (b : Byte) (k : Nat) : Nat := b.toNat / 4 ^ k % 4

/-- The printed level of a sent level (R23, R64). -/
def mapLevel (levels : Vector Nat 4) (sent : Nat) : Nat := levels.toList.getD sent 0

/-- Rewrites the first `n` (at most 4) pixels of a byte through a level map; others are left (R64). -/
def mapByte (levels : Vector Nat 4) (n : Nat) (b : Byte) : Byte :=
  BitVec.ofNat 8 <| (List.range 4).foldl (fun acc k =>
    acc + (if k < n then mapLevel levels (pixel b k) else pixel b k) * 4 ^ k) 0

/-- Rewrites one row: `columns` pixels from the first byte on (R64). -/
def mapRow (levels : Vector Nat 4) : Nat → List Byte → List Byte
  | _, [] => []
  | columns, b :: rest => mapByte levels (min columns 4) b :: mapRow levels (columns - 4) rest

/-- Rewrites `rows` rows of a plane (R64). -/
def mapPlane (levels : Vector Nat 4) (columns : Nat) : Nat → List Byte → List Byte
  | 0, _ => []
  | rows + 1, bytes =>
      mapRow levels columns (bytes.take (rowBytes columns)) ++
        mapPlane levels columns rows (bytes.drop (rowBytes columns))

/-- Pixels of a level among the first `columns` of a row. -/
def countRow (level : Nat) : Nat → List Byte → Nat
  | _, [] => 0
  | columns, b :: rest =>
      ((List.range (min columns 4)).filter fun k => pixel b k == level).length +
        countRow level (columns - 4) rest

/-- Pixels of a level in rows `first` to `first + n - 1` of a mapped plane (R64). -/
def countRows (level columns : Nat) : Nat → List Byte → Nat
  | 0, _ => 0
  | n + 1, bytes =>
      countRow level columns (bytes.take (rowBytes columns)) +
        countRows level columns n (bytes.drop (rowBytes columns))

/-- The drop counts of a mapped plane per quarter and level (R64): quarter q holds rows 8q..8q+7. -/
def dropCounts (rows columns : Nat) (plane : List Byte) : Vector (Vector Nat 3) 4 :=
  Vector.ofFn fun q => Vector.ofFn fun l =>
    countRows (l.val + 1) columns (min 8 (rows - 8 * q.val))
      (plane.drop (8 * q.val * rowBytes columns))

/-! ## Upstream layouts (1.8) -/

/-- The number of a status code (1.8). -/
def Status.code : Status → Nat
  | .ok => 0 | .busy => 1 | .refusedState => 2 | .badRecord => 3 | .badTable => 4 | .noTable => 5
  | .noMedia => 6 | .unknownRef => 7 | .locked => 8 | .notHeld => 9 | .linkError => 10
  | .noRoom => 11

/-- The class byte of a notice class (1.8). -/
def NoticeClass.code : NoticeClass → Nat
  | .ink => 1 | .item => 2 | .panel => 3 | .check => 4 | .cut => 5 | .cost => 6 | .job => 7
  | .head => 8 | .media => 9 | .table => 10 | .verify => 11

/-- The 12 header bytes of a reply with a body of the given length (1.8). -/
def replyHeader (tag : Byte) (status : Status) (time : Time) (length : Nat) : List Byte :=
  [0#8, 8#8, tag, BitVec.ofNat 8 status.code] ++ leBytes 4 time.toNat ++ leBytes 4 length

/-- The verdict byte of a cost record (1.8); its order is not the rank order of 9.4. -/
def Verdict.costCode : Verdict → Nat
  | .none => 0 | .pass => 1 | .warn => 2 | .fail => 3 | .incomplete => 4 | .uncalibrated => 5

/-- The 192 bytes of a COST body (1.8). -/
def CostRecord.bytes (r : CostRecord) : List Byte :=
  leBytes 4 r.number ++ leBytes 4 r.job ++
  leBytes 1 r.itemId ++ leBytes 1 (if r.edition.isSome then 1 else 0) ++
  leBytes 1 (match r.fate with | .complete => 0 | .aborted => 1) ++ leBytes 1 r.worst.costCode ++
  leBytes 4 (r.edition.getD 0) ++ leBytes 4 r.print ++ leBytes 2 r.panelCount ++
  leBytes 2 r.priceVersion ++ leBytes 4 r.imageRows ++ leBytes 4 r.checkRows ++
  leBytes 4 r.gutterRows ++ leBytes 4 r.leadRows ++ r.imageInk.toList.flatMap (leBytes 8) ++
  leBytes 8 r.checkInk ++ leBytes 8 r.flush ++ leBytes 8 r.imageMedia ++ leBytes 8 r.checkMedia ++
  leBytes 8 r.wasteMedia ++ leBytes 8 r.cuts ++ leBytes 8 r.total

end Sys2Proof.Machine
end

