-- ==== Sys2Proof/Machine/Flags.lean ====
section
/-! DEFINITION. What is read off a state or computed from numbers: deadlines (R1), rounding (R2),
counts of a stated width, levels and ranks, available ink, open items, places and locks. Nothing here
changes a state. -/

namespace Sys2Proof.Machine

/-! ## Arithmetic -/

/-- R1: a not-before time has passed when now − not-before, as a signed 32-bit number, is zero or
positive. -/
def passed (now notBefore : Time) : Bool := !(now - notBefore).msb

/-- R2: round half up of numerator / denominator. -/
def roundHalfUp (num den : Nat) : Nat := (num * 2 + den) / (2 * den)

/-- The ceiling of a quotient. -/
def ceilDiv (num den : Nat) : Nat := (num + den - 1) / den

/-- A count of a stated width: itself while it fits, a free value beyond (log 9). -/
def countOf (width n : Nat) : Nat := if n < 2 ^ width then n else Config.countBeyond width n

/-- A row count whose range begins at 0: the difference itself, a free value for a negative one
(log 10). -/
def rowCount (z : Int) : Nat := if 0 ≤ z then z.toNat else Config.negativeRows z

/-- Milliseconds from one counter value to a later one. -/
def elapsedMs (since now : Time) : Nat := (now - since).toNat

/-! ## Ranks, classes, levels -/

/-- The verdict rank of 9.4. -/
def Verdict.rank : Verdict → Nat
  | .none => 0 | .uncalibrated => 1 | .pass => 2 | .incomplete => 3 | .warn => 4 | .fail => 5

/-- The higher-ranked of two verdicts (R157). -/
def Verdict.worse (a b : Verdict) : Verdict := if a.rank < b.rank then b else a

/-- The class of a notice (1.5). -/
def Notice.cls : Notice → NoticeClass
  | .cartridge _ | .levelCorrected _ _ _ _ | .tagWriteFailed _ | .waitStart _ | .waitEnd _ => .ink
  | .item _ _ => .item
  | .panelClosed _ => .panel
  | .checkVerdict _ | .checkUnread _ => .check
  | .cutDone _ _ _ _ _ _ | .cutJam _ | .cutTimeout _ | .cutHoldWait _ | .cutCleared _ _ _ _
  | .bladeLimit _ | .cutsDropped _ _ => .cut
  | .costRecord _ | .costDump _ => .cost
  | .jobClosed _ => .job
  | .headReady | .headFault _ _ | .opAborted _ _ => .head
  | .rollEnd _ _ _ _ | .rollOut _ _ | .feedSlip _ | .stopsDropped _ _ _ => .media
  | .lockExpired _ _ => .table
  | .verifyPass _ | .verifyFail _ | .verifyCleared _ => .verify

/-- A class's index in the NOTICE section (R27). -/
def NoticeClass.index : NoticeClass → Fin 11
  | .ink => 0 | .item => 1 | .panel => 2 | .check => 3 | .cut => 4 | .cost => 5 | .job => 6
  | .head => 7 | .media => 8 | .table => 9 | .verify => 10

/-- The level a class has now: that of the committed NOTICE section, 4 while it is absent, locked or not
(R11). -/
def classLevel (s : State) (c : NoticeClass) : Nat :=
  match s.tables.notice with
  | some levels => levels[c.index]
  | none => 4

/-! ## The return queue -/

/-- Is the entry a reply? -/
def Entry.isReply (e : Entry) : Bool :=
  match e.payload with
  | .reply _ _ => true
  | .notice _ => false

/-- The replies in the return queue (R12). -/
def replies (s : State) : Nat := s.link.ret.countP Entry.isReply

/-- The notices in the return queue (R12). -/
def notices (s : State) : Nat := s.link.ret.countP fun e => !e.isReply

/-- R6: may the link port act at once? -/
def actsAtOnce (s : State) : Bool := decide (replies s < replyPlaces) && s.link.hold.isEmpty

/-- R9: does the intake take nothing, whatever the kind? -/
def intakeHeld (s : State) : Bool := !actsAtOnce s

/-- R6: delivery of both classes is withheld while the hold has 8 entries. -/
def deliveryWithheld (s : State) : Bool := decide (holdPlaces ≤ s.link.hold.length)

/-- R8: the stream lane is held by a BAND waiting to be taken or whose planes are arriving. -/
def streamBlocked (s : State) : Bool := s.link.rx != .idle

/-- Occupied bytes of the intake queue (R7). -/
def intakeFill (s : State) : Nat := (s.link.intake.map IntakeEntry.occupancy).sum

/-! ## Tables -/

/-- Does the section hold the lock? -/
def locked (s : State) (sec : Section) : Bool := s.tables.lock == some sec

/-- Is the section present (R28)? -/
def sectionPresent (s : State) : Section → Bool
  | .channelMap => s.tables.channelMap.isSome
  | .drop => s.tables.drop.isSome
  | .mediaProfile => s.tables.mediaProfile.isSome
  | .price => s.tables.price.isSome
  | .patch => s.tables.patch.isSome
  | .tolerance => s.tables.tolerance.isSome
  | .maintenance => s.tables.maintenance.isSome
  | .notice => s.tables.notice.isSome

/-- The eight sections in code order. -/
def allSections : List Section :=
  [.channelMap, .drop, .mediaProfile, .price, .patch, .tolerance, .maintenance, .notice]

/-- The expected ink kind of a channel, where CHANNEL_MAP is present (R103). -/
def expectedKind (s : State) (c : Chan) : Option Nat :=
  s.tables.channelMap.map fun m => m[c].inkKind

/-- The low mark of a channel; 0 stands while CHANNEL_MAP is absent, when no cartridge is placed
(R28, R106). -/
def lowMark (s : State) (c : Chan) : Nat :=
  match s.tables.channelMap with
  | some m => m[c].lowMark
  | none => 0

/-- Does the committed CHANNEL_MAP enable the channel? -/
def channelEnabled (s : State) (c : Chan) : Bool :=
  match s.tables.channelMap with
  | some m => m[c].enabled
  | none => false

/-- The encoder divisor: 1 while MEDIA_PROFILE is absent (R28, R123). -/
def divisor (s : State) : Nat :=
  match s.tables.mediaProfile with
  | some p => p.divisor
  | none => 1

/-- The dry time now; 0 while MEDIA_PROFILE is absent, when no band exists. -/
def dryTime (s : State) : Time :=
  match s.tables.mediaProfile with
  | some p => BitVec.ofNat 32 p.dryTime
  | none => 0#32

/-- The kind check waits while CHANNEL_MAP is absent or locked (R103, R28). -/
def mapReadable (s : State) : Bool := s.tables.channelMap.isSome && !locked s .channelMap

/-- PRICE may be read by the costing unit (R173, R179). -/
def priceReadable (s : State) : Bool := s.tables.price.isSome && !locked s .price

/-! ## Items and jobs -/

/-- The live item of an ITEM_OPEN take. -/
def findItem (s : State) (uid : Nat) : Option Item := s.items.live.find? fun i => i.uid == uid

/-- The live item with an id. -/
def itemById (s : State) (id : Nat) : Option Item := s.items.live.find? fun i => i.id == id

/-- The live job with a number. -/
def findJob (s : State) (number : Nat) : Option Job := s.items.jobs.find? fun j => j.number == number

/-- The live OPEN job. -/
def openJob (s : State) : Option Job := s.items.jobs.find? fun j => j.state == .opened

/-- An item is open when it is OPEN, or HELD with OPEN as its state under hold (R41, R92). -/
def Item.isOpen (i : Item) : Bool :=
  i.state == .opened || (i.state == .held && i.under == some .opened)

/-- The open item. -/
def openItem (s : State) : Option Item := s.items.live.find? Item.isOpen

/-- Closed panels of an item: all but the open one (R59). -/
def Item.panelsClosed (i : Item) : Nat := i.panels.length - (if i.openRows = 0 then 0 else 1)

/-- The blank run B (R44). -/
def blankRun (s : State) : Row := s.items.planRow - s.items.cutRef

/-- Rows of the roll not reserved by live items (R44, R47, R70). -/
def freeRows (s : State) : Nat := s.media.roll.remaining - s.media.roll.reserved

/-! ## Bands and operations -/

/-- The band of the store with a serial. -/
def findBand (s : State) (serial : Nat) : Option Band := s.path.store.find? fun b => b.serial == serial

/-- Does the store hold a band of the item (R52)? -/
def hasBand (s : State) (uid : Nat) : Bool := s.path.store.any fun b => b.item == uid

/-- The band with no operation in flight or printed before: not yet in the head operation queue. -/
def Band.waits (b : Band) : Bool := b.state != .queued && b.state != .inFlight

/-- The band holds a reservation (R84). -/
def Band.holdsInk (b : Band) : Bool :=
  b.state == .reserved || b.state == .queued || b.state == .inFlight

/-- The operation of a queue entry, if it is not a band. -/
def QEntry.op? : QEntry → Option Op
  | .band _ => none
  | .op o => some o

/-- The general operation in flight. -/
def flightOp (s : State) : Option Op :=
  match s.path.flight with
  | some { work := .op o, .. } => some o
  | _ => none

/-- The serial of the band in flight. -/
def flightBand (s : State) : Option Nat :=
  match s.path.flight with
  | some { work := .band b, .. } => some b
  | _ => none

/-- Is the work a BAND or a FEED (a media-moving operation, 07)? -/
def FlightWork.movesMedia : FlightWork → Bool
  | .band _ => true
  | .op { work := .feed _ _, .. } => true
  | _ => false

/-- Is a media-moving operation in flight (R123)? -/
def mediaMoving (s : State) : Bool :=
  match s.path.flight with
  | some f => f.work.movesMedia
  | none => false

/-- Every FEED and CLEAN that is held, queued or in flight, and a remainder. -/
def liveOps (s : State) : List Op :=
  s.path.waiting ++ s.path.abortWait ++ s.path.queue.filterMap QEntry.op? ++
    (flightOp s).toList ++ s.media.remainder.toList

/-- The remainder of a BAND holds the band place of that band's slot (R127). -/
def Op.inBandPlace (o : Op) : Bool :=
  match o.work with
  | .feed (.bandRest _) _ => true
  | _ => false

/-- General places held (R68): by operations waiting to enter, queued or in flight; a remainder in the
queue has taken over its operation's place (R127). -/
def placesHeld (s : State) : Nat :=
  s.path.waiting.length +
    ((s.path.queue.filterMap QEntry.op?).countP fun o => !o.inBandPlace) +
    ((flightOp s).toList.countP fun o => !o.inBandPlace)

/-- A general place is free. -/
def placeFree (s : State) : Bool := decide (placesHeld s < generalPlaces)

/-- A general place is free for the intake: abort feeds waiting for places take them first (R56). -/
def placeFreeForIntake (s : State) : Bool :=
  decide (placesHeld s + s.path.abortWait.length < generalPlaces)

/-- Free places of the stop list (R121). -/
def stopRoom (s : State) : Nat := stopPlaces - s.media.stops.length

/-- Cut stops a panel close creates under a profile (R49). -/
def panelStops (p : MediaProfile) : Nat :=
  if p.cutterEnabled then (if p.gutter = 0 then 1 else 2) else 0

/-- An abort's panel close is due: it waited on a MEDIA_PROFILE lock that is free now (R56, R37). -/
def panelCloseDue (s : State) : Bool :=
  !locked s .mediaProfile && s.items.live.any fun i => i.pendingClose.isSome

/-! ## Ink -/

/-- A channel's available ink (R84). -/
def Account.available (a : Account) : Nat := a.subTank - (subTankFloor + a.reserved)

/-- A cartridge that gives ink (R93). -/
def Cartridge.supplies (c : Cartridge) : Bool := c.state == .ready || c.state == .low

/-- A placed cartridge is READY, LOW or EMPTY (6.2). -/
def Cartridge.placed (c : Cartridge) : Bool := c.supplies || c.state == .empty

/-- The sensed level of a combination of level lines (R98); true is high. -/
def sensedOf (l1 l2 : Bool) : Sensed := if l1 then (if l2 then .ok else .low) else .empty

/-- The key class of the size key lines (R98). -/
def keyClass (k1 k2 : Bool) : Nat := (if k1 then 1 else 0) + 2 * (if k2 then 1 else 0)

/-- The fill allowed for a key class (R104). -/
def fillAllowed (cls fill : Nat) : Bool :=
  match cls with
  | 0 => decide (fill ≤ 130000000)
  | 1 => decide (130000001 ≤ fill) && decide (fill ≤ 350000000)
  | 2 => decide (350000001 ≤ fill) && decide (fill ≤ 700000000)
  | _ => decide (700000001 ≤ fill)

/-- R109: is a tag write due by the estimate? It is not after 3 failures (R110), nor before placement. -/
def Cartridge.writeNeeded (c : Cartridge) : Bool :=
  match c.estimate with
  | some e => decide (ceilDiv e nlPerMl < c.lastMl) && decide (c.writeFailures < 3)
  | none => false

/-! ## Stops and cuts -/

/-- The stop with an identity. -/
def findStop (s : State) (uid : Nat) : Option Stop := s.media.stops.find? fun t => t.uid == uid

/-- The CUT part of a stop. -/
def Stop.cut? (t : Stop) : Option CutStop :=
  match t.kind with
  | .cut c => some c
  | .measure _ => none

/-- Is the stop a MEASURE? -/
def Stop.isMeasure (t : Stop) : Bool := t.cut?.isNone

/-- The stop of the pause point at which the link is paused (R128). -/
def pausedStop (s : State) : Option Nat :=
  match s.path.flight with
  | some { phase := .pausedAt, points := ps, reported := n, .. } => ps[n - 1]?.map PausePoint.stop
  | _ => none

/-- R137, condition 4: a strip of the stop's panel is measured and not yet judged. -/
def stripUndecided (s : State) (t : Stop) : Bool :=
  match s.colour.scan with
  | some c => c.ended.isSome && c.item == t.item && t.panel == some c.panel
  | none => false

/-- R137: the five conditions for the held stop. -/
def cutAllowed (s : State) (t : Stop) (c : CutStop) : Bool :=
  (match c.notBefore with | some nb => passed s.now nb | none => false) &&
  !c.hold &&
  passed s.now (s.cutter.lastEdge + stillMs) &&
  !(c.role != .lead &&
    (match findItem s t.item with | some i => i.policy == .holdCut && i.fate == .complete | none => false) &&
    stripUndecided s t) &&
  (s.media.stops.head?.map Stop.uid == some t.uid)

/-! ## Run-out (R129) -/

/-- R129: every condition of the run-out wait. -/
def runOutReady (s : State) : Bool :=
  s.path.flight.isNone && s.path.queue.isEmpty && s.path.waiting.isEmpty &&
  s.path.abortWait.isEmpty && s.path.store.isEmpty && s.media.remainder.isNone &&
  !s.media.stops.isEmpty && s.media.roll.loaded && decide (0 < s.media.roll.remaining) &&
  s.tables.mediaProfile.isSome && s.path.engine == .running

/-! ## Head link -/

/-- What the running timer shows: its stopped value and the time since it last started (R74). -/
def Flight.timer (f : Flight) (now : Time) : Nat :=
  match f.phase with
  | .running since => f.elapsed + elapsedMs since now
  | _ => f.elapsed

/-- The kind of the work in flight. -/
def FlightWork.kind : FlightWork → OpKind
  | .band _ => .band
  | .op { work := .feed _ _, .. } => .feed
  | .op { work := .clean _ _ _, .. } => .clean
  | .verify _ => .verify

/-- Is the operation id that of the operation in flight (4.5)? -/
def inFlight (s : State) (opId : Nat) : Bool :=
  match s.path.flight with
  | some f => f.opId == opId
  | none => false

end Sys2Proof.Machine
end

