-- ==== Sys2Proof/Machine/Ops.lean ====
section
/-! DEFINITION. The operations every block shares: updating one block of the state, the return queue
(R11 to R13), replies and the fault capture (R14), the tables of items, jobs and bands, the stop list
and the media position (R121 to R123), and the frame of a command. -/

namespace Sys2Proof.Machine

/-! ## Updating one block -/

/-- Changes the link port. -/
def State.onLink (f : Link → Link) (s : State) : State := { s with link := f s.link }
/-- Changes the table store. -/
def State.onTables (f : TableStore → TableStore) (s : State) : State := { s with tables := f s.tables }
/-- Changes the item manager. -/
def State.onItems (f : ItemManager → ItemManager) (s : State) : State := { s with items := f s.items }
/-- Changes the band path. -/
def State.onPath (f : BandPath → BandPath) (s : State) : State := { s with path := f s.path }
/-- Changes the ink station controller. -/
def State.onInk (f : InkStation → InkStation) (s : State) : State := { s with ink := f s.ink }
/-- Changes the media controller. -/
def State.onMedia (f : Media → Media) (s : State) : State := { s with media := f s.media }
/-- Changes the cutter controller. -/
def State.onCutter (f : Cutter → Cutter) (s : State) : State := { s with cutter := f s.cutter }
/-- Changes the colour check unit. -/
def State.onColour (f : Colour → Colour) (s : State) : State := { s with colour := f s.colour }
/-- Changes the costing unit. -/
def State.onCosting (f : Costing → Costing) (s : State) : State := { s with costing := f s.costing }
/-- Sends a message. -/
def State.send (o : Output) (s : State) : State := { s with out := s.out ++ [o] }
/-- Starts a command: nothing sent yet. -/
def State.clearOut (s : State) : State := { s with out := [] }

/-- R129: the run-out wait becomes idle when any of its conditions has ceased; `command` looks after a command and
`releaseHold` after each record acted on from the hold (log 48). -/
def keepRunOut (s : State) : State :=
  if s.media.runOut.isSome ∧ runOutReady s = false then
    s.onMedia fun m => { m with runOut := none }
  else s

/-- The frame of every command: it sends into an empty `out`, and the run-out wait is looked at
afterwards (log 2, log 8). -/
def command (f : State → State) (s : State) : Host.Outcome State Fault Refusal :=
  .next (keepRunOut (f s.clearOut))

/-! ## Notices and replies -/

/-- The lowest level among the queued notices (R13); 8 where there is none. -/
def lowestLevel (ret : List Entry) : Nat :=
  ret.foldl (fun m e => if e.isReply then m else min m e.level) 8

/-- Removes the oldest queued notice of a level (R13). -/
def dropOldest (level : Nat) (ret : List Entry) : List Entry :=
  ret.eraseP fun e => !e.isReply && e.level == level

/-- R13, R12: a notice entry joins the return queue; with 28 notices queued it displaces the oldest of
the lowest level, if that is lower, or is discarded. -/
def queueNotice (e : Entry) (l : Link) : Link :=
  if l.ret.countP (fun e => !e.isReply) < noticePlaces then { l with ret := l.ret ++ [e] }
  else if lowestLevel l.ret < e.level then
    { l with ret := dropOldest (lowestLevel l.ret) l.ret ++ [e], displaced := true }
  else { l with displaced := true }

/-- R11: raises a notice with the level of its class and the time stamp of now; level 0 drops it. -/
def raise (n : Notice) (s : State) : State :=
  let level := classLevel s n.cls
  if level = 0 then s
  else s.onLink (queueNotice { level := level, tag := 0#8, time := s.now, payload := .notice n })

/-- R10, R11: queues a reply; it ranks above every notice and its header shows level 8. -/
def reply (tag : Byte) (status : Status) (body : ReplyBody) (s : State) : State :=
  s.onLink fun l => { l with ret := l.ret ++
    [{ level := 8, tag := tag, time := s.now, payload := .reply status body }] }

/-- R14: offers a refused record to the fault capture: the bytes at hand, its body length, and whether
more of it (a BAND's planes) is still to come. -/
def capture (wire : List Byte) (bodyLength : Nat) (more : Bool) (s : State) : State :=
  if s.link.capture.armed then
    s.onLink fun l => { l with capture :=
      { armed := false, bytes := wire.take captureBytes,
        length := if bodyLength + 12 ≤ 254 then bodyLength + 12 else 255, filling := more } }
  else s

/-- R14: the rest of a captured BAND goes on filling the capture, up to 64 bytes, and ends it. -/
def captureRest (bytes : List Byte) (s : State) : State :=
  if s.link.capture.filling then
    s.onLink fun l => { l with capture :=
      { l.capture with bytes := (l.capture.bytes ++ bytes).take captureBytes, filling := false } }
  else s

/-- R14: a reply of BAD_RECORD or BAD_TABLE offers its record to the fault capture. -/
def captureIf (status : Status) (wire : List Byte) (bodyLength : Nat) (s : State) : State :=
  if status = .badRecord ∨ status = .badTable then capture wire bodyLength false s else s

/-- R14, R15: the capture emptied and armed again. -/
def Capture.fresh : Capture := { armed := true, bytes := [], length := 0, filling := false }

/-! ## Items, jobs, bands -/

/-- Changes the live item of an ITEM_OPEN take. -/
def mapItem (uid : Nat) (f : Item → Item) (s : State) : State :=
  s.onItems fun m => { m with live := m.live.map fun i => if i.uid = uid then f i else i }

/-- Changes the live job with a number. -/
def mapJob (number : Nat) (f : Job → Job) (s : State) : State :=
  s.onItems fun m => { m with jobs := m.jobs.map fun j => if j.number = number then f j else j }

/-- Changes the band of the store with a serial. -/
def mapBand (serial : Nat) (f : Band → Band) (s : State) : State :=
  s.onPath fun p => { p with store := p.store.map fun b => if b.serial = serial then f b else b }

/-- Moves the plan row (R46). -/
def movePlan (d : Int) (s : State) : State := s.onItems fun m => { m with planRow := m.planRow + d }

/-- The body of an ITEM notice (R59). -/
def Item.body (i : Item) : ItemBody :=
  { id := i.id, job := i.job, print := i.print, edition := i.edition, state := i.state,
    under := i.under, fate := i.fate, rowsReceived := i.rowsReceived,
    rowsPrinted := i.rowsPrinted, panelsClosed := i.panelsClosed }

/-- R59: raises an ITEM notice for an item as it stands. -/
def raiseItem (code : ItemCode) (uid : Nat) (s : State) : State :=
  match findItem s uid with
  | some i => raise (.item code i.body) s
  | none => s

/-- R45: an item's media reservation is released. -/
def releaseReservation (uid : Nat) (s : State) : State :=
  match findItem s uid with
  | some i =>
    (mapItem uid (fun i => { i with reservation := 0 }) s).onMedia fun m =>
      { m with roll := { m.roll with reserved := m.roll.reserved - i.reservation } }
  | none => s

/-! ## The stop list and the position -/

/-- R121: the order of the stop list. An inserted stop goes after lower positions and before higher
ones; at its own, a MEASURE before the CUTs, a CUT last. -/
def insertInOrder (t : Stop) : List Stop → List Stop
  | [] => [t]
  | u :: rest =>
    if u.position < t.position ∨ (u.position = t.position ∧ (t.isMeasure = false ∨ u.isMeasure = true)) then
      u :: insertInOrder t rest
    else t :: u :: rest

/-- R121: inserts a stop where the list has a free place, whatever the media position (log 47). -/
def insertStop (t : Stop) (s : State) : State :=
  if s.media.stops.length < stopPlaces then
    s.onMedia fun m => { m with stops := insertInOrder t m.stops }
  else s

/-- Takes a new stop identity. -/
def takeStopId (s : State) : State := s.onMedia fun m => { m with nextStop := m.nextStop + 1 }

/-- R123: overrun rows move into the position as far as the first stop allows. -/
def Media.moveOverrun (m : Media) : Media :=
  let room : Nat := match m.stops with
    | [] => m.overrun
    | t :: _ => min m.overrun (t.position - m.roll.position).toNat
  { m with overrun := m.overrun - room,
           roll := { m.roll with position := m.roll.position + room } }

/-- Removes the stops a test selects and lets the overrun move in (R119, R122, R144). -/
def dropStops (sel : Stop → Bool) (s : State) : State :=
  s.onMedia fun m => Media.moveOverrun { m with stops := m.stops.filter fun t => !sel t }

/-- Removes a stop and lets the overrun move in (R122, R123); the owner's R52 is the caller's. -/
def dropStop (uid : Nat) (s : State) : State :=
  s.onMedia fun m => Media.moveOverrun { m with stops := m.stops.filter fun t => t.uid != uid }

/-- Changes what a CUT stop carries; a MEASURE stop is left. -/
def Stop.mapCut (f : CutStop → CutStop) (t : Stop) : Stop :=
  match t.kind with
  | .cut c => { t with kind := .cut (f c) }
  | .measure _ => t

/-- Changes the CUT stops a test selects. -/
def mapCuts (sel : Stop → Bool) (f : CutStop → CutStop) (s : State) : State :=
  s.onMedia fun m => { m with stops := m.stops.map fun t => if sel t then t.mapCut f else t }

/-! ## The print engine and the head link -/

/-- R81: a feed slip or a cutter FAULT makes a RUNNING engine PAUSED. -/
def pauseEngine (s : State) : State :=
  if s.path.engine = .running then s.onPath fun p => { p with engine := .paused } else s

/-- R74, R128: the action of a stop has ended. If the link is paused at that stop's point, PROCEED is
sent and the running timer goes on. -/
def proceed (uid : Nat) (s : State) : State :=
  match s.path.flight with
  | some f =>
    if pausedStop s = some uid then
      (s.onPath fun p => { p with flight := some { f with phase := .running s.now } }).send
        (.proceed f.opId)
    else s
  | none => s

/-- The operation in flight as HEAD notices name it. -/
def flightRef (s : State) (f : Flight) : OpRef :=
  let uid := match f.work with
    | .band b => (findBand s b).map Band.item
    | .op o => o.owner
    | .verify _ => none
  { opId := f.opId, kind := f.work.kind,
    owner := uid.bind fun u => (findItem s u).map Item.id }

/-- The ids of the items owning some stops, each once, in the order of each item's last stop among them (log 26). -/
def ownerIds (stops : List Stop) : List Nat := (stops.map Stop.itemId).dedup

end Sys2Proof.Machine
end

