-- ==== Sys2Proof/Machine/Pricing.lean ====
section
/-! DEFINITION. Costing (11_costing.md) and the moves of an item and a job that follow from it: the
components of a cost record, an item's pricing and close, a job's pricing, and the transitions of R52. -/

namespace Sys2Proof.Machine

/-! ## Components (R175 to R177) -/

/-- Image ink of one channel (R175). -/
def imageInkTicks (dpl price : Nat) : Nat := roundHalfUp (dpl * price) 10000000000

/-- The sum over the channels of volume times price. -/
def inkSum (volumes prices : Vector Nat 12) : Nat :=
  ((List.finRange 12).map fun c => volumes[c] * prices[c]).sum

/-- Check ink: one sum, rounded once (R175). -/
def checkInkTicks (dpl prices : Vector Nat 12) : Nat := roundHalfUp (inkSum dpl prices) 10000000000

/-- Flush, of an item or of a job's unassigned flush: one sum, rounded once (R175, R179). -/
def flushTicks (nl prices : Vector Nat 12) : Nat := roundHalfUp (inkSum nl prices) 1000000

/-- A media component (R176). -/
def mediaTicks (width rows priceM2 : Nat) : Nat :=
  roundHalfUp (width * rows * 254 * priceM2) 12000000000

/-- The price per m² of a roll kind 0..7. -/
def Price.m2 (p : Price) (kind : Nat) : Nat := p.perM2.toList.getD kind 0

/-- The cost record of an item under a PRICE content (R175 to R178). -/
def costOf (i : Item) (p : Price) (number version : Nat) : CostRecord :=
  let image : Vector Nat 12 := Vector.ofFn fun c => imageInkTicks i.imageDpl[c] p.perMl[c]
  let check := checkInkTicks i.checkDpl p.perMl
  let flush := flushTicks i.flushNl p.perMl
  let m2 := p.m2 i.noteKind
  let imageMedia := mediaTicks i.noteWidth i.imageRows m2
  let checkMedia := mediaTicks i.noteWidth i.checkRows m2
  let wasteMedia := mediaTicks i.noteWidth (i.gutterRows + i.leadRows) m2
  let cuts := i.cutCount * p.cutCharge
  { number := number, job := i.job, itemId := i.id, edition := i.edition, fate := i.fate,
    worst := (i.panels.map Panel.verdict).foldl Verdict.worse .none, print := i.print,
    panelCount := i.panels.length, priceVersion := version, imageRows := i.imageRows,
    checkRows := i.checkRows, gutterRows := i.gutterRows, leadRows := i.leadRows,
    imageInk := image, checkInk := check, flush := flush, imageMedia := imageMedia,
    checkMedia := checkMedia, wasteMedia := wasteMedia, cuts := cuts,
    total := image.toList.sum + check + flush + imageMedia + checkMedia + wasteMedia + cuts }

/-! ## Closing an item and a job -/

/-- R42: a CLOSING job with no live item becomes DONE and joins the job pricing queue (R179). -/
def settleJob (number : Nat) (s : State) : State :=
  match findJob s number with
  | some j =>
    if j.state = .closing ∧ (s.items.live.any fun i => i.job == number) = false then
      (mapJob number (fun j => { j with state := .done }) s).onCosting fun c =>
        { c with jobQueue := c.jobQueue ++ [number] }
    else s
  | none => s

/-- Changes the held edition entry of a number. -/
def mapEdition (number : Nat) (f : Edition → Edition) (s : State) : State :=
  s.onColour fun c => { c with editions := c.editions.map fun e => if e.number = number then f e else e }

/-- R162: prints closed gains 1 for a COMPLETE item that names an edition. -/
def countPrint (i : Item) (s : State) : State :=
  match i.edition, i.fate with
  | some n, .complete => mapEdition n (fun e => { e with printsClosed := countOf 32 (e.printsClosed + 1) }) s
  | _, _ => s

/-- R52, CLOSED: the reservation is released, the job and the edition count the item, its entry is freed
(with its roll note and dry mark), and R42 is applied to the job. -/
def closeItem (uid : Nat) (s : State) : State :=
  match findItem s uid with
  | some i =>
    let s := releaseReservation uid s
    let s := mapJob i.job (fun j => { j with itemsClosed := countOf 32 (j.itemsClosed + 1) }) s
    let s := countPrint i s
    let s := s.onItems fun m => { m with live := m.live.filter fun k => k.uid != uid }
    settleJob i.job s
  | none => s

/-- R178, step 3: the cost log keeps the 64 most recent records. -/
def appendLog (r : CostRecord) (log : List CostRecord) : List CostRecord :=
  (if logPlaces ≤ log.length then log.tail else log) ++ [r]

/-- R178, step 2: record numbers go on from 4,294,967,295 to 1. -/
def nextNumber (n : Nat) : Nat := if n = 4294967295 then 1 else n + 1

/-- R178: the pricing of an item, whole: the record, its number, the log, the COST notice, the job's
running total, and the item to CLOSED. -/
def priceItem (uid : Nat) (s : State) : State :=
  match findItem s uid, s.tables.price with
  | some i, some p =>
    let r := costOf i p s.costing.nextRecord s.tables.priceVersion
    let s := s.onCosting fun c =>
      { c with queue := c.queue.filter fun u => u != uid, log := appendLog r c.log,
               nextRecord := nextNumber c.nextRecord }
    let s := raise (.costRecord r) s
    let s := mapJob i.job (fun j => { j with total := countOf 64 (j.total + r.total) }) s
    closeItem uid s
  | _, _ => s

/-- R179: prices a DONE job's unassigned flush; the JOB notice CLOSED is raised and its entry freed. -/
def priceJob (number : Nat) (s : State) : State :=
  match findJob s number, s.tables.price with
  | some j, some p =>
    let charge := flushTicks j.flush p.perMl
    let s := s.onCosting fun c => { c with jobQueue := c.jobQueue.filter fun n => n != number }
    let s := raise (.jobClosed
      { number := j.number, fate := j.fate, itemsClosed := j.itemsClosed,
        total := countOf 64 (j.total + charge), charge := charge, flush := j.flush }) s
    s.onItems fun m => { m with jobs := m.jobs.filter fun k => k.number != number }
  | _, _ => s

/-! ## Transitions of an item (R52) -/

/-- R52, CLOSING to SETTLING once the store holds no band of the item; a HELD item's state under hold
follows, with no notice (log 19). -/
def toSettling (uid : Nat) (s : State) : State :=
  match findItem s uid with
  | some i =>
    if hasBand s uid then s
    else if i.state = .closing then
      raiseItem .settling uid (mapItem uid (fun i => { i with state := .settling }) s)
    else if i.state = .held ∧ i.under = some .closing then
      mapItem uid (fun i => { i with under := some .settling }) s
    else s
  | none => s

/-- R52: does something of a SETTLING item keep it from COSTING? A stop it owns, a gutter or abort feed
(or a remainder of one or of a band, R127), or a pending abort panel close (R56). -/
def itemBusy (s : State) (i : Item) : Bool :=
  (s.media.stops.any fun t => t.item == i.uid) || (liveOps s).any (fun o => o.owner == some i.uid) ||
    i.pendingClose.isSome

/-- R52, SETTLING to COSTING, and R173: the item joins the costing queue and is priced at the moment of
its entry if PRICE can be read and the queue holds no older item. -/
def toCosting (uid : Nat) (s : State) : State :=
  match findItem s uid with
  | some i =>
    if i.state = .settling ∧ itemBusy s i = false then
      let s := raiseItem .costing uid (mapItem uid (fun i => { i with state := .costing }) s)
      let older := !s.costing.queue.isEmpty
      let s := s.onCosting fun c => { c with queue := c.queue ++ [uid] }
      if older = false ∧ priceReadable s = true then priceItem uid s else s
    else s
  | none => s

/-- R52: an item moves forward as soon as each condition holds. -/
def advanceItem (uid : Nat) (s : State) : State := toCosting uid (toSettling uid s)

/-- R52 for several items, in order. -/
def advanceItems (uids : List Nat) (s : State) : State := uids.foldl (fun s u => advanceItem u s) s

/-- R122: removes a stop, lets the overrun move in, and applies R52 to its owner. -/
def removeStop (t : Stop) (s : State) : State := advanceItem t.item (dropStop t.uid s)

/-- R128: a stop's action has ended: the stop is removed, for a cut that was made the last cut row
becomes its cut row, and PROCEED is sent if the link is paused at it. -/
def actionEnded (uid : Nat) (cutRow : Option Row) (s : State) : State :=
  let s := match cutRow with
    | some r => s.onMedia fun m => { m with roll := { m.roll with lastCutRow := r } }
    | none => s
  let s := match findStop s uid with
    | some t => removeStop t s
    | none => s
  proceed uid s

end Sys2Proof.Machine
end

