-- ==== Sys2Proof/Machine/InkOps.lean ====
section
/-! DEFINITION. Ink Arithmetic and the cartridge side of the ink station: accounts, grants and
settlements (R84 to R94), refills, level sense, placement, tag exchanges and the map re-check (R98 to
R118), and the waits for ink (R115). -/

namespace Sys2Proof.Machine

/-! ## Accounts and slots -/

/-- A channel's account. -/
def account (s : State) (c : Chan) : Account := s.ink.accounts[c]

/-- A slot. -/
def slot (s : State) (c : Chan) : Slot := s.ink.slots[c]

/-- Changes a channel's account. -/
def mapAccount (c : Chan) (f : Account → Account) (s : State) : State :=
  s.onInk fun k => { k with accounts := k.accounts.set c.val (f k.accounts[c]) }

/-- Changes a slot. -/
def mapSlot (c : Chan) (f : Slot → Slot) (s : State) : State :=
  s.onInk fun k => { k with slots := k.slots.set c.val (f k.slots[c]) }

/-- Changes a slot's cartridge record. -/
def mapCart (c : Chan) (f : Cartridge → Cartridge) (s : State) : State :=
  mapSlot c (fun t => { t with cart := f t.cart }) s

/-- Runs a change for each channel of a list, in order. -/
def forChannels (cs : List Chan) (f : Chan → State → State) (s : State) : State :=
  cs.foldl (fun s c => f c s) s

/-- R87: the settlement step of one channel, for a settled demand of `d` dpL and a reservation `r`. -/
def Account.settle (d r : Nat) (a : Account) : Account :=
  let x := d + a.residue
  let k := x / dplPerNl
  { a with subTank := a.subTank - k, residue := x - dplPerNl * k, reserved := a.reserved - r,
           consumed := countOf 64 (a.consumed + k) }

/-- R91: a CLEAN's spend on one channel. -/
def Account.flush (v : Nat) (a : Account) : Account :=
  { a with subTank := a.subTank - v, reserved := a.reserved - v, flushed := countOf 64 (a.flushed + v) }

/-- R93: a refill of `t` nL. -/
def Account.refill (t : Nat) (a : Account) : Account :=
  { a with subTank := a.subTank + t, refilled := countOf 64 (a.refilled + t) }

/-- R66: a grant of `r` nL. -/
def Account.grant (r : Nat) (a : Account) : Account := { a with reserved := a.reserved + r }

/-- R86: a release of `r` nL. -/
def Account.release (r : Nat) (a : Account) : Account := { a with reserved := a.reserved - r }

/-! ## Cartridge notices and states -/

/-- R116: raises a CARTRIDGE notice for a record as it stands, having left the state `before`. -/
def raiseCart (c : Chan) (before : CartState) (cause : CartCause) (s : State) : State :=
  let k := (slot s c).cart
  raise (.cartridge
    { slot := c, before := before, after := k.state, reason := k.reason,
      serial := k.contents.map TagContents.serial, kind := k.contents.map TagContents.kind,
      sizeClass := k.contents.map TagContents.sizeClass, fill := k.contents.map TagContents.fill,
      lot := k.contents.map TagContents.lot, estimate := k.estimate, cause := cause,
      attempts := if cause = .read ∨ cause = .readFailed then some k.readAttempts else none }) s

/-- Puts a cartridge in a state and reports the change (R116). -/
def moveCart (c : Chan) (dest : CartState) (cause : CartCause) (s : State) : State :=
  let before := (slot s c).cart.state
  if before = dest then s
  else raiseCart c before cause (mapCart c (fun k => { k with state := dest }) s)

/-- R102, R103, R104: a cartridge is refused for a reason. -/
def rejectCart (c : Chan) (reason : RejectReason) (cause : CartCause) (s : State) : State :=
  moveCart c .rejected cause (mapCart c (fun k => { k with reason := some reason }) s)

/-- R102: sends a tag read request and counts the attempt. -/
def sendRead (c : Chan) (s : State) : State :=
  (mapCart c (fun k => { k with readAttempts := k.readAttempts + 1, readSince := some s.now }) s).send
    (.tagRead c)

/-- R110: starts a tag write of the estimate as it stands. -/
def startWrite (c : Chan) (value : Nat) (s : State) : State :=
  (mapCart c (fun k => { k with write := some { value := value, since := s.now }, writeDue := false }) s).send
    (.tagWrite c value)

/-- R109: the write-back test. A due write starts, or waits for the one in flight. -/
def writeTest (c : Chan) (s : State) : State :=
  let k := (slot s c).cart
  if k.writeNeeded then
    if k.write.isSome then mapCart c (fun k => { k with writeDue := true }) s
    else startWrite c (k.estimate.getD 0) s
  else s

/-- The state an estimate is placed in under a low mark (R106). -/
def placeState (estimate low : Nat) : CartState :=
  if estimate = 0 then .empty else if estimate ≤ low then .low else .ready

/-- R107: after a lowering, a READY cartridge is placed by the low mark, a LOW one only becomes EMPTY. -/
def loweredState (state : CartState) (estimate low : Nat) : CartState :=
  match state with
  | .ready => placeState estimate low
  | .low => if estimate = 0 then .empty else .low
  | k => k

/-- R107: re-places a READY or LOW cartridge after a lowering of its estimate. -/
def replaceCart (c : Chan) (cause : CartCause) (s : State) : State :=
  let k := (slot s c).cart
  moveCart c (loweredState k.state (k.estimate.getD 0) (lowMark s c)) cause s

/-- R93: refills a channel's sub-tank from a READY or LOW cartridge; R107 and then R109 follow (log 26). The
follow-up refill of an entry into LOW then has nothing to transfer (R107). -/
def refill (c : Chan) (s : State) : State :=
  let k := (slot s c).cart
  let t := min (subTankFull - (account s c).subTank) (k.estimate.getD 0)
  if k.supplies = true ∧ 0 < t then
    let s := mapAccount c (Account.refill t) s
    let s := mapCart c (fun k => { k with estimate := k.estimate.map fun e => e - t }) s
    writeTest c (replaceCart c .drawnDown s)
  else s

/-- R108: what a sensed level makes of an estimate. -/
def sensedEstimate (sensed : Sensed) (estimate low : Nat) : Nat :=
  match sensed with
  | .ok => estimate
  | .low => min estimate low
  | .empty => 0

/-- R108 on a READY or LOW cartridge: the estimate corrected downwards, with its LEVEL_CORRECTED notice, which
precedes the CARTRIDGE notice of the same correction (log 26) and names the slot, which R108 does not list (log 25). -/
def correctLevel (c : Chan) (s : State) : State :=
  let t := slot s c
  match t.cart.estimate with
  | some e =>
    let e' := sensedEstimate t.sensed e (lowMark s c)
    if t.cart.supplies = true ∧ e' < e then
      raise (.levelCorrected c e e' t.sensed) (mapCart c (fun k => { k with estimate := some e' }) s)
    else s
  | none => s

/-- R107, R108: a change of sensed level on a READY or LOW cartridge: correction, re-placement, write-back
test, and the refill of an entry into LOW. -/
def applySensed (c : Chan) (s : State) : State :=
  let before := (slot s c).cart
  let s := correctLevel c s
  if (slot s c).cart.estimate = before.estimate then s
  else
    let s := writeTest c (replaceCart c .levelSense s)
    if before.state = .ready ∧ (slot s c).cart.state = .low then refill c s else s

/-! ## The recent cartridge list (R111) -/

/-- R111: enters a serial at the front with its volume; at most 12 entries, no serial twice. -/
def enterRecent (serial : BitVec 64) (volume : Nat) (l : List Recent) : List Recent :=
  ({ serial := serial, volume := volume } :: l.filter fun r => r.serial != serial).take recentPlaces

/-- R101, R112: enters a placed cartridge with its estimate. -/
def listCart (c : Chan) (s : State) : State :=
  let k := (slot s c).cart
  match k.contents, k.estimate with
  | some t, some e => s.onInk fun i => { i with recent := enterRecent t.serial e i.recent }
  | _, _ => s

/-- R105, step 2: the volume the list holds for a serial. -/
def recentVolume (s : State) (serial : BitVec 64) : Option Nat :=
  (s.ink.recent.find? fun r => r.serial == serial).map Recent.volume

/-! ## Placement and checks (R103 to R106) -/

/-- R105: the estimate of a cartridge that has passed its checks. -/
def startEstimate (s : State) (t : TagContents) : Nat :=
  let tagged := t.remaining.toNat
  let known := match recentVolume s t.serial with
    | some v => min tagged v
    | none => tagged
  min known estimateMax

/-- R105 and R106: sets the estimate from the tag, corrects it by the sensed level, tests the write-back,
places the cartridge and refills. The correction of a placement from READING raises no LEVEL_CORRECTED (log 44). -/
def placeCart (c : Chan) (t : TagContents) (s : State) : State :=
  let low := lowMark s c
  let e := sensedEstimate (slot s c).sensed (startEstimate s t) low
  let s := mapCart c (fun k => { k with estimate := some e, writeFailures := 0,
                                        lastMl := ceilDiv t.remaining.toNat nlPerMl }) s
  let s := writeTest c s
  refill c (moveCart c (placeState e low) .placed s)

/-- R104: do the tag's class and fill agree with the key's class? -/
def keyAgrees (cls : Nat) (t : TagContents) : Bool :=
  t.sizeClass.val == cls && fillAllowed cls t.fill.toNat

/-- R103 and R104: the kind check, the key check and the placement, at one moment. A refusal has the cause READ,
however long the check waited for CHANNEL_MAP (log 39). -/
def checkKind (c : Chan) (cls : Nat) (t : TagContents) (s : State) : State :=
  if expectedKind s c ≠ some t.kind.toNat then rejectCart c .wrongInk .read s
  else if keyAgrees cls t = false then rejectCart c .keyMismatch .read s
  else placeCart c t s

/-! ## A commit of CHANNEL_MAP (R112, R113) -/

/-- R112: the kind re-check of one slot. A placed cartridge of another kind is refused and listed; a
WRONG_INK cartridge whose kind now matches goes back to READING, its read waiting for a tag write in
flight to end. -/
def recheckKind (c : Chan) (s : State) : State :=
  let k := (slot s c).cart
  let agrees := (k.contents.map fun t => t.kind.toNat) == expectedKind s c
  if k.placed = true ∧ agrees = false then
    rejectCart c .wrongInk .mapChange (listCart c s)
  else if k.state = .rejected ∧ k.reason = some .wrongInk ∧ agrees = true then
    let s := mapCart c (fun k => { k with contents := none, reason := none, estimate := none,
                                          readAttempts := 0, writeDue := false }) s
    let s := moveCart c .reading .mapChange s
    if k.write.isSome then s else sendRead c s
  else s

/-- R113: a READY or LOW cartridge is placed again against the new low mark, the sensed level first; a LOW one that
the sensed level keeps LOW has no CARTRIDGE notice and no refill (log 41). -/
def replaceByMap (c : Chan) (s : State) : State :=
  let before := (slot s c).cart
  if before.supplies then
    let s := correctLevel c s
    let lowered := (slot s c).cart.estimate != before.estimate
    let k := (slot s c).cart
    let s := moveCart c (placeState (k.estimate.getD 0) (lowMark s c)) .mapChange s
    let s := if lowered then writeTest c s else s
    if (slot s c).cart.state = before.state then s else refill c s
  else s

/-- R112 and R113 at a commit of CHANNEL_MAP: by slot number, every kind re-check before every re-placement; the order
is the model's choice (log 26). -/
def recheckMap (s : State) : State :=
  forChannels (List.finRange 12) replaceByMap (forChannels (List.finRange 12) recheckKind s)

/-! ## Requests and waits (R66, R86, R115) -/

/-- R66: every named amount fits the channel's available ink. -/
def grantable (s : State) (amounts : List (Chan × Nat)) : Bool :=
  amounts.all fun a => a.2 == 0 || decide (a.2 ≤ (account s a.1).available)

/-- R66: a grant adds every amount to its channel. -/
def grantInk (amounts : List (Chan × Nat)) (s : State) : State :=
  amounts.foldl (fun s a => mapAccount a.1 (Account.grant a.2) s) s

/-- R67, R86: a release takes every amount from its channel's reserved nL. -/
def releaseInk (amounts : List (Chan × Nat)) (s : State) : State :=
  amounts.foldl (fun s a => mapAccount a.1 (Account.release a.2) s) s

/-- The amount a request names on a channel; 0 where it names none. -/
def amountOn (amounts : List (Chan × Nat)) (c : Chan) : Nat :=
  ((amounts.find? fun a => a.1 == c).map Prod.snd).getD 0

/-- The body of a wait notice (R115). -/
def waitBody (who : Asker) (amounts : List (Chan × Nat)) (c : Chan) (s : State) : WaitBody :=
  { channel := c, asker := who, amount := amountOn amounts c,
    available := (account s c).available, cartridge := (slot s c).cart.state }

/-- Sets or clears a channel's wait flag. -/
def setWait (c : Chan) (v : Bool) (s : State) : State :=
  s.onInk fun k => { k with waits := k.waits.set c.val v }

/-- R115: a set flag is cleared with a WAIT_END. -/
def endWait (who : Asker) (amounts : List (Chan × Nat)) (c : Chan) (s : State) : State :=
  if s.ink.waits[c] then raise (.waitEnd (waitBody who amounts c s)) (setWait c false s) else s

/-- R115: a clear flag is set with a WAIT_START. -/
def startWait (who : Asker) (amounts : List (Chan × Nat)) (c : Chan) (s : State) : State :=
  if s.ink.waits[c] then s else raise (.waitStart (waitBody who amounts c s)) (setWait c true s)

/-- R115: every set flag is cleared, at a grant or at the discard of the asker that set them, by channel number
(log 26). -/
def endWaits (who : Asker) (amounts : List (Chan × Nat)) (s : State) : State :=
  (forChannels (List.finRange 12) (endWait who amounts) s).onInk fun k => { k with waitAsker := none }

/-- R115: one channel at a decline: it waits if its amount exceeds its available ink; else its wait ends. -/
def declineWait (who : Asker) (amounts : List (Chan × Nat)) (c : Chan) (s : State) : State :=
  if (account s c).available < amountOn amounts c then startWait who amounts c s else endWait who amounts c s

/-- R115: the flags at a decline, by channel number, starts and ends mixed (log 26). -/
def declineWaits (serial : Nat) (who : Asker) (amounts : List (Chan × Nat)) (s : State) : State :=
  (forChannels (List.finRange 12) (declineWait who amounts) s).onInk fun k => { k with waitAsker := some serial }

end Sys2Proof.Machine
end

