-- ==== Sys2Proof/Machine/CutOps.lean ====
section
/-! DEFINITION. The cutter controller's operations (08_the_cutter.md): dispatch, holds, completion,
failure, retry, and the commit that disables the cutter. -/

namespace Sys2Proof.Machine

/-- What CUT notices carry of a stop (R145). -/
def cutBody (t : Stop) (c : CutStop) : CutBody :=
  { role := c.role, id := t.itemId, panel := t.panel, position := t.position }

/-- The held stop with its CUT part. -/
def heldStop (s : State) : Option (Stop × CutStop) :=
  match s.cutter.held with
  | some uid => (findStop s uid).bind fun t => t.cut?.map fun c => (t, c)
  | none => none

/-- R138: HOLD_WAIT for the held stop while WAITING with its flag set, once per dispatch or retry. -/
def reportHold (s : State) : State :=
  match heldStop s with
  | some (t, c) =>
    if s.cutter.state = .waiting ∧ c.hold = true ∧ s.cutter.holdReported = false then
      raise (.cutHoldWait (cutBody t c)) (s.onCutter fun k => { k with holdReported := true })
    else s
  | none => s

/-- R137, R142: the dispatch of a cut stop. The stop already held is not started again. -/
def dispatchCut (uid : Nat) (s : State) : State :=
  if s.cutter.held = none ∧ s.cutter.state = .idle then
    reportHold <| s.onCutter fun k =>
      { k with state := .waiting, held := some uid, holdReported := false, dispatchedAt := some s.now,
               startedAt := none }
  else s

/-- R138: sets the hold flags of a HOLD_CUT item's A and B stops of a panel. -/
def holdCuts (uid panel : Nat) (s : State) : State :=
  match findItem s uid with
  | some i =>
    if i.policy = .holdCut ∧ i.fate = .complete then
      reportHold (mapCuts (fun t => t.item == uid && t.panel == some panel)
        (fun c => { c with hold := true }) s)
    else s
  | none => s

/-- R54, R55: clears the hold flags of an item's cut stops. -/
def clearHolds (uid : Nat) (s : State) : State :=
  mapCuts (fun t => t.item == uid) (fun c => { c with hold := false }) s

/-- The cutter controller IDLE with no stop held. -/
def Cutter.freed (k : Cutter) : Cutter :=
  { k with state := .idle, held := none, cause := none, retryPending := false, deadline := none,
           dispatchedAt := none, startedAt := none }

/-- R144: the held stop's action ends with no cut made. -/
def dropHeldCut (uid : Nat) (s : State) : State := actionEnded uid none (s.onCutter Cutter.freed)

/-- R139: sends CUT_START and becomes CUTTING with its deadline; a retry's CUT_START counts for DONE (log 42). -/
def startCut (s : State) : State :=
  (s.onCutter fun k => { k with state := .cutting, deadline := some (s.now + cutMs),
                                startedAt := some s.now }).send .cutStart

/-- R139, R143: a completed cut of the held stop. The times of DONE run from the first dispatch to the last CUT_START
and from that to now (log 42); the notices go DONE, BLADE_LIMIT, then the owner's moves (log 26). -/
def completeCut (t : Stop) (c : CutStop) (s : State) : State :=
  let waited := match s.cutter.dispatchedAt, s.cutter.startedAt with
    | some d, some b => elapsedMs d b
    | _, _ => 0
  let ran := match s.cutter.startedAt with
    | some b => elapsedMs b s.now
    | none => 0
  let count := countOf 64 (s.cutter.bladeCount + 1)
  let job := match findItem s t.item with
    | some i => i.job
    | none => 0
  let s := s.onCutter fun k => { k.freed with bladeCount := count }
  let s := mapItem t.item (fun i => { i with cutCount := i.cutCount + 1 }) s
  let s := raise (.cutDone (cutBody t c) job c.cutRow count waited ran) s
  let s := if count % 10000 = 0 then raise (.bladeLimit count) s else s
  actionEnded t.uid (some c.cutRow) s

/-- R140: a cut failure. -/
def failCut (cause : CutFault) (s : State) : State :=
  let s := pauseEngine <| s.onCutter fun k => { k with state := .fault, cause := some cause, deadline := none }
  match heldStop s, cause with
  | some (t, c), .jam => raise (.cutJam (cutBody t c)) s
  | some (t, c), .timeout => raise (.cutTimeout (cutBody t c)) s
  | none, _ => s

/-- Does the committed MEDIA_PROFILE disable the cutter? -/
def cutterDisabled (s : State) : Bool :=
  match s.tables.mediaProfile with
  | some p => !p.cutterEnabled
  | none => false

/-- R141, R144: the retry of the held stop begins, or its action ends with no cut while the cutter is
disabled. The moment of the first dispatch is kept (log 42). -/
def beginRetry (uid : Nat) (s : State) : State :=
  if cutterDisabled s then dropHeldCut uid s
  else reportHold <| s.onCutter fun k =>
    { k with state := .waiting, retryPending := false, holdReported := false }

/-- R144: a commit that disables the cutter removes every CUT stop but the held one; a held stop still
WAITING ends with no cut made. CUTS_DROPPED precedes the owners' moves (log 26). -/
def disableCutter (s : State) : State :=
  let gone := s.media.stops.filter fun t => !t.isMeasure && s.cutter.held != some t.uid
  let s := dropStops (fun t => !t.isMeasure && s.cutter.held != some t.uid) s
  let s := if gone.isEmpty then s else raise (.cutsDropped gone.length (ownerIds gone)) s
  let s := advanceItems ((gone.map Stop.item).dedup) s
  match s.cutter.held with
  | some uid => if s.cutter.state = .waiting then dropHeldCut uid s else s
  | none => s

end Sys2Proof.Machine
end

