-- ==== Sys2Proof/Machine/CheckOps.lean ====
section
/-! DEFINITION. The colour check unit's operations (09_colour_checks.md, 10_sensor_verification.md):
verdict merges and holds, unread strips, the scan, the verdict computation, editions, and the parts of
a sensor test. -/

namespace Sys2Proof.Machine

/-! ## Editions -/

/-- The held entry of an edition number. -/
def findEdition (s : State) (n : Nat) : Option Edition := s.colour.editions.find? fun e => e.number == n

/-- R159: an entry moves to the front of the recency order. -/
def frontEdition (n : Nat) (l : List Edition) : List Edition :=
  (l.filter fun e => e.number == n) ++ l.filter fun e => e.number != n

/-- R159: the entry of an edition that may be named is used. -/
def touchEdition (n : Option Nat) (s : State) : State :=
  match n with
  | some n => s.onColour fun c => { c with editions := frontEdition n c.editions }
  | none => s

/-- R159: an entry just taken. -/
def freshEdition (n : Nat) : Edition :=
  { number := n, printsClosed := 0, layout := none,
    values := Vector.replicate 24 (Vector.replicate 4 none), last := .none }

/-- R159: does some live item name the edition? -/
def editionLive (s : State) (n : Nat) : Bool := s.items.live.any fun i => i.edition == some n

/-- R159: the table after an entry for `n` has been found or taken, or none where every entry has a live
item. The table is in recency order, so the least recently used is the last. -/
def takeEdition (s : State) (n : Nat) : Option (List Edition) :=
  let l := s.colour.editions
  if l.any fun e => e.number == n then some (frontEdition n l)
  else if l.length < editionPlaces then some (freshEdition n :: l)
  else
    match l.reverse.find? fun e => !editionLive s e.number with
    | some old => some (freshEdition n :: l.filter fun e => e.number != old.number)
    | none => none

/-- A baseline value (9.5). -/
def Edition.value (e : Edition) (patch : Nat) (f : Filter) : Option Nat :=
  match e.values[patch]? with
  | some row => row[f]
  | none => none

/-! ## Panel verdicts and holds (R53, R157, R158) -/

/-- The verdict of an item's panel. -/
def panelVerdict (s : State) (uid panel : Nat) : Option Verdict :=
  ((findItem s uid).bind fun i => i.panels.find? fun p => p.index == panel).map Panel.verdict

/-- R53: a FAIL makes a HOLD_PRINT item HELD. -/
def holdItem (uid : Nat) (s : State) : State :=
  match findItem s uid with
  | some i =>
    if i.policy = .holdPrint ∧ i.fate = .complete ∧
        (i.state = .opened ∨ i.state = .closing ∨ i.state = .settling) then
      raiseItem .held uid (mapItem uid (fun i => { i with state := .held, under := some i.state }) s)
    else s
  | none => s

/-- R157, R158, R162: merges a strip verdict into a panel of a live item, reports a new FAIL to the item
manager and the cutter controller, and sets the edition's last panel verdict. -/
def mergeVerdict (uid panel : Nat) (v : Verdict) (s : State) : State :=
  match findItem s uid, panelVerdict s uid panel with
  | some i, some old =>
    let new := old.worse v
    let s := mapItem uid (fun i => { i with panels := i.panels.map fun p => if p.index = panel then { p with verdict := new } else p }) s
    let s := if old ≠ .fail ∧ new = .fail then holdCuts uid panel (holdItem uid s) else s
    match i.edition with
    | some n => mapEdition n (fun e => { e with last := new }) s
    | none => s
  | _, _ => s

/-! ## Unread strips (R152) -/

/-- R152, R163: a strip whose measure stop left the list without a scan. The notice shows the calibration valid flag
as it stands then (log 43). -/
def recordUnread (t : Stop) (m : MeasureStop) (s : State) : State :=
  let item := findItem s t.item
  let panel := t.panel.getD 0
  let edition := item.bind Item.edition
  let s := touchEdition edition (mergeVerdict t.item panel .incomplete s)
  let entry := edition.bind (findEdition s)
  raise (.checkUnread
    { id := t.itemId, job := (item.map Item.job).getD 0, print := item.map Item.print,
      edition := edition, panel := panel, strip := m.strip, layout := m.layout,
      position := t.position, cause := none, valid := s.colour.cal.valid,
      stripVerdict := .incomplete, panelVerdict := panelVerdict s t.item panel, filled := 0,
      printsClosed := entry.map Edition.printsClosed, lastVerdict := entry.map Edition.last,
      patches := [] }) s

/-- R152 for a stop that has left the list: a MEASURE not being scanned is recorded unread. -/
def unreadIfMeasure (t : Stop) (s : State) : State :=
  match t.kind with
  | .cut _ => s
  | .measure m =>
    let scanned := match s.colour.scan with
      | some c => c.ended.isNone && c.stop == t.uid
      | none => false
    if scanned then s else recordUnread t m s

/-- R152 for stops that have left the list together. -/
def unreadStops (gone : List Stop) (s : State) : State := gone.foldl (fun s t => unreadIfMeasure t s) s

/-- R148, R152: a waiting measure action ends without a scan: its strip is unread and its stop removed. -/
def endMeasureUnread (s : State) : State :=
  match s.colour.measure with
  | none => s
  | some uid =>
    let s := s.onColour fun c => { c with measure := none }
    match findStop s uid with
    | some t => actionEnded uid none (unreadIfMeasure t s)
    | none => proceed uid s

/-! ## The scan (R148 to R151) -/

/-- R149: the expected sequence of a patch. -/
def scanSequence (p : PatchDef) : List Filter :=
  let f : Filter := Fin.ofNat 4 p.filter
  match p.mode with
  | 0 => [0, 1, 2, 3]
  | 1 => [0, 1, 2, 3, 0, 1, 2, 3]
  | 2 => List.replicate 4 f
  | _ => List.replicate 8 f

/-- A layout 0..7 of PATCH. -/
def layoutOf (tables : Vector PatchLayout 8) (layout : Nat) : PatchLayout := tables[Fin.ofNat 8 layout]

/-- R148: starts the scan of a measure stop for the operation in flight. -/
def startScan (t : Stop) (m : MeasureStop) (opId : Nat) (patch : Vector PatchLayout 8) (s : State) :
    State :=
  let l := layoutOf patch m.layout
  let item := findItem s t.item
  let scan : Scan :=
    { item := t.item, itemId := t.itemId, job := (item.map Item.job).getD 0,
      edition := item.bind Item.edition, panel := t.panel.getD 0, strip := m.strip,
      layout := m.layout, position := t.position, stop := t.uid, opId := opId,
      integration := l.integration, deadline := some (s.now + scanMs),
      patches := (l.patches.toList.take l.count).map fun p =>
        { expected := scanSequence p, raws := [], mark := .opened },
      ended := none }
  (s.onColour fun c => { c with scan := some scan, measure := none }).send
    (.scan opId m.layout l.integration)

/-- R150: what a reading does to the patch it names. -/
def ScanPatch.take (f : Filter) (raw : Nat) (p : ScanPatch) : ScanPatch :=
  match p.mark with
  | .missed => p
  | .complete => { p with mark := .missed, raws := [] }
  | .opened =>
    if p.expected[p.raws.length]? = some f then
      { p with raws := p.raws ++ [raw],
               mark := if p.raws.length + 1 = p.expected.length then .complete else .opened }
    else { p with mark := .missed, raws := [] }

/-- R150: a reading taken while SCANNING; a patch at or beyond the count is ignored. -/
def takeReading (patch : Nat) (f : Filter) (raw : Nat) (s : State) : State :=
  match s.colour.scan with
  | some c =>
    if c.ended.isNone then
      s.onColour fun k => { k with scan := some { c with patches := c.patches.modify patch (ScanPatch.take f raw) } }
    else s
  | none => s

/-- R151: a patch still OPEN at the end of the scan is MISSED and its values discarded. -/
def ScanPatch.close (p : ScanPatch) : ScanPatch :=
  if p.mark = .opened then { p with mark := .missed, raws := [] } else p

/-- R151: the scan in SCANNING ends: the record is ENDED and the measure action has ended. The verdict
computation is a step of its own (log 1). -/
def endScan (cause : EndCause) (s : State) : State :=
  match s.colour.scan with
  | some c =>
    if c.ended.isNone then
      let ended : Scan :=
        { c with patches := c.patches.map ScanPatch.close, deadline := none, ended := some cause }
      actionEnded c.stop none (s.onColour fun k => { k with scan := some ended })
    else s
  | none => s

/-! ## The verdict computation (R153 to R160) -/

/-- R154: the mean of a filter's raw values on a patch. -/
def ScanPatch.mean (p : ScanPatch) (f : Filter) : Nat :=
  let values := ((p.expected.zip p.raws).filter fun x => x.1 == f).map Prod.snd
  roundHalfUp values.sum values.length

/-- R154: the calibration whose white and black values serve a computation: while the record is not valid, the
power-on values, also where a DARK or WHITE part alone has passed (DEDUCED: log 54). -/
def Calibration.used (cal : Calibration) : Calibration :=
  if cal.valid then cal else { cal with white := Calibration.reset.white, black := Calibration.reset.black }

/-- R154: the reflectance of a mean. -/
def reflectance (white black mean : Nat) : Nat :=
  min 4095 (roundHalfUp ((mean - black) * 4095) (white - black))

/-- R149: the filters measured on a patch, in filter order. -/
def ScanPatch.measured (p : ScanPatch) : List Filter := (List.finRange 4).filter fun f => p.expected.contains f

/-- R155: the baseline value that serves as reference, if one does. -/
def baselineFor (e : Option Edition) (layout patch : Nat) (f : Filter) : Option Nat :=
  match e with
  | some e => if e.layout = some layout then e.value patch f else none
  | none => none

/-- R154, R155: one measured filter of a COMPLETE patch. -/
def filterFigure (cal : Calibration) (e : Option Edition) (layout index : Nat) (d : PatchDef)
    (p : ScanPatch) (f : Filter) : FilterFigure :=
  let r := reflectance cal.used.white[f] cal.used.black[f] (p.mean f)
  let base := baselineFor e layout index f
  let reference := base.getD d.targets[f]
  { filter := f, reflectance := r, reference := reference, fromBaseline := base.isSome,
    deviation := (r : Int) - reference }

/-- R156: the score of a patch. -/
def patchScore (figures : List FilterFigure) : Nat :=
  figures.foldl (fun m g => max m g.deviation.natAbs) 0

/-- R156: the verdict of a score. -/
def scoreVerdict (l : Limits) (score : Nat) : Verdict :=
  if score ≤ l.warn then .pass else if score ≤ l.fail then .warn else .fail

/-- R153 to R156, R163: the entry of one patch. A patch at or beyond the count committed now is
MISSED. -/
def patchEntry (cal : Calibration) (e : Option Edition) (layout : Nat) (l : PatchLayout)
    (lim : Limits) (index : Nat) (p : ScanPatch) : PatchEntry :=
  match l.patches[index]? with
  | some d =>
    if p.mark = .complete ∧ index < l.count then
      let figures := p.measured.map (filterFigure cal e layout index d p)
      let score := patchScore figures
      { index := index, mark := .complete, figures := figures, score := some score,
        verdict := if cal.valid then some (scoreVerdict lim score) else none }
    else { index := index, mark := .missed, figures := [], score := none, verdict := none }
  | none => { index := index, mark := .missed, figures := [], score := none, verdict := none }

/-- R156: the strip verdict, in the order of the rule. -/
def stripVerdict (valid : Bool) (entries : List PatchEntry) : Verdict :=
  if valid = false then .uncalibrated
  else if entries.any fun e => e.verdict == some .fail then .fail
  else if entries.any fun e => e.mark == .missed then .incomplete
  else if entries.any fun e => e.verdict == some .warn then .warn
  else .pass

/-- R160: one figure fills its baseline value where that is absent; counts the fills. -/
def fillValue (patch : Nat) (acc : Edition × Nat) (g : FilterFigure) : Edition × Nat :=
  match acc.1.value patch g.filter with
  | some _ => acc
  | none =>
    let row (i : Fin 24) : Vector (Option Nat) 4 :=
      if i.val = patch then acc.1.values[i].set g.filter.val (some g.reflectance) else acc.1.values[i]
    ({ acc.1 with values := Vector.ofFn row }, acc.2 + 1)

/-- R160: the fill of an edition's baseline by a strip of a layout. -/
def fillBaseline (layout : Nat) (entries : List PatchEntry) (e : Edition) : Edition × Nat :=
  if e.layout = none ∨ e.layout = some layout then
    entries.foldl (fun acc p => p.figures.foldl (fillValue p.index) acc)
      ({ e with layout := some layout }, 0)
  else (e, 0)

/-- R160: does the fill of an edition's baseline apply? -/
def fillApplies (s : State) (c : Scan) : Bool :=
  s.colour.cal.valid && (match findItem s c.item with | some i => i.fate == .complete | none => false)

/-- R153: the verdict computation of an ENDED scan, whole. -/
def computeVerdict (c : Scan) (patch : Vector PatchLayout 8) (tolerance : Vector Limits 8) (s : State) :
    State :=
  let cal := s.colour.cal
  let item := findItem s c.item
  let lim := tolerance[Fin.ofNat 8 c.layout]
  let entries := c.patches.mapIdx
    (patchEntry cal (c.edition.bind (findEdition s)) c.layout (layoutOf patch c.layout) lim)
  let v := stripVerdict cal.valid entries
  let s := mergeVerdict c.item c.panel v s
  let s := touchEdition c.edition s
  let filled : Option (Edition × Nat) :=
    if fillApplies s c then (c.edition.bind (findEdition s)).map (fillBaseline c.layout entries) else none
  let s := match filled with
    | some (e, _) => mapEdition e.number (fun _ => e) s
    | none => s
  let entry := c.edition.bind (findEdition s)
  let s := raise (.checkVerdict
    { id := c.itemId, job := c.job, print := item.map Item.print, edition := c.edition,
      panel := c.panel, strip := c.strip, layout := c.layout, position := c.position,
      cause := c.ended, valid := cal.valid, stripVerdict := v,
      panelVerdict := panelVerdict s c.item c.panel, filled := (filled.map Prod.snd).getD 0,
      printsClosed := entry.map Edition.printsClosed, lastVerdict := entry.map Edition.last,
      patches := entries }) s
  s.onColour fun k => { k with scan := none }

/-! ## Sensor tests (R167 to R170) -/

/-- The parts of a test in order (10.2). -/
def testParts : Nat → List Part
  | 2 => [.white]
  | 3 => [.dark]
  | 4 => [.lamp]
  | _ => [.dark, .white, .lamp]

/-- R168: does a part read the filter? LAMP reads F3 alone. -/
def Part.reads : Part → Filter → Bool
  | .lamp, f => f == 3
  | _, _ => true

/-- R168: a reading during a VERIFY. -/
def Verify.take (p : Part) (f : Filter) (raw : Nat) (v : Verify) : Verify :=
  if p.reads f = true ∧ v.readings[f].length < 8 then
    { v with readings := v.readings.set f.val (v.readings[f] ++ [raw]) }
  else { v with malformed := true }

/-- Changes the verification state. -/
def onVerify (f : Verify → Verify) (s : State) : State :=
  s.onColour fun c => { c with verify := f c.verify }

/-- The mean of a filter's 8 values in a test (R169). -/
def partMean (v : Verify) (f : Filter) : Nat := roundHalfUp v.readings[f].sum 8

/-- R169: the part's own condition on the calibration and the readings. -/
def partPasses (cal : Calibration) (v : Verify) : Part → Bool
  | .white => (List.finRange 4).all fun f =>
      decide (20000 ≤ partMean v f) && decide (partMean v f ≤ 65000) &&
        decide (cal.black[f] + 4096 < partMean v f)
  | .dark => (List.finRange 4).all fun f => decide (partMean v f ≤ 8000)
  | .lamp => decide (v.readings[(3 : Filter)].foldl max 0 ≤
      v.readings[(3 : Filter)].foldl min 65535 + 512)

/-- R170: the figures a judged part reports. -/
def partFigures (v : Verify) : Part → List Nat
  | .lamp => [v.readings[(3 : Filter)].foldl min 65535, v.readings[(3 : Filter)].foldl max 0]
  | _ => (List.finRange 4).map (partMean v)

/-- R169: are the readings whole? -/
def partWhole (v : Verify) (p : Part) : Bool :=
  !v.malformed && (List.finRange 4).all fun f => !p.reads f || v.readings[f].length == 8

/-- R169: what a pass stores; valid is set once both white and dark have passed (R166). -/
def Calibration.store (v : Verify) (p : Part) (c : Calibration) : Calibration :=
  let c := match p with
    | .white => { c with white := Vector.ofFn (partMean v), whitePassed := true }
    | .dark => { c with black := Vector.ofFn (partMean v), darkPassed := true }
    | .lamp => c
  { c with valid := c.valid || (c.whitePassed && c.darkPassed) }

/-- The part of a test that follows one, in the test's order (R170). -/
def nextPart (code : Nat) (p : Part) : Option Part :=
  ((testParts code).dropWhile fun q => q != p).tail.head?

/-- R170: the end of a test: result, busy flag and VERIFY notice. -/
def endTest (t : TestRun) (ok : Bool) (s : State) : State :=
  let before := s.colour.verify.result
  let after := if ok then t.code else 15
  let cal := s.colour.cal
  let body : VerifyBody :=
    { code := t.code, before := before, after := after, outcomes := t.outcomes, white := cal.white,
      black := cal.black, whitePassed := cal.whitePassed, darkPassed := cal.darkPassed,
      valid := cal.valid }
  raise (if ok then .verifyPass body else .verifyFail body) <|
    onVerify (fun v => { v with busy := false, test := none, pending := none, result := after }) s

/-- R170: the outcome of a part. -/
def partEnded (o : PartOutcome) (s : State) : State :=
  match s.colour.verify.test with
  | none => s
  | some t =>
    let t := { t with outcomes := t.outcomes ++ [o] }
    match o.failure, nextPart t.code o.part with
    | none, some p =>
      onVerify (fun v => { v with test := some { t with current := p }, pending := some p }) s
    | none, none => endTest t true s
    | some _, _ => endTest t false s

/-- R169: judges the part in flight at its DONE. A part failed with READINGS has no figures (log 46). -/
def judgePart (p : Part) (s : State) : State :=
  let v := s.colour.verify
  if partWhole v p = false then partEnded { part := p, failure := some .readings, figures := [] } s
  else if partPasses s.colour.cal v p then
    partEnded { part := p, failure := none, figures := partFigures v p } <|
      s.onColour fun c => { c with cal := c.cal.store v p }
  else partEnded { part := p, failure := some .condition, figures := partFigures v p } s

/-- R169: a part fails unjudged at an ABORTED or a HEAD_FAULT; its readings are discarded and it has no figures
(log 46). -/
def failPart (p : Part) (cause : PartFailure) (s : State) : State :=
  partEnded { part := p, failure := some cause, figures := [] } <|
    onVerify (fun v => { v with readings := Vector.replicate 4 [], malformed := false }) s

end Sys2Proof.Machine
end

