-- ==== Sys2Proof/Machine/AbortOps.lean ====
section
/-! DEFINITION. Panels and aborts (03_jobs_items_and_panels.md): the panel close of R49, the discard of
a band (R67), the abort feed (R56) and the abort of an item (R55), with the not-before times of R135
and R136. -/

namespace Sys2Proof.Machine

/-! ## Panel close (R49) -/

/-- R121: inserts a CUT stop where the list has a place, and answers its position then. -/
def insertCut (i : Item) (panel : Option Nat) (position : Row) (c : CutStop) (s : State) :
    State × Option Row :=
  if s.media.stops.length < stopPlaces then
    (takeStopId (insertStop { uid := s.media.nextStop, position := position, item := i.uid,
                              itemId := i.id, panel := panel, kind := .cut c } s), some position)
  else (s, none)

/-- R136: the not-before time of an aborted item's cuts, or the band whose settlement will fix it: the
panel's last kept band in flight, else the item's dry mark if one of the panel's bands has settled,
else the time given. -/
def keptTime (s : State) (i : Item) (p : Panel) (fallback : Time) : Option Time × Option Nat :=
  let settled : Option Time × Option Nat :=
    match i.lastSettled with
    | some l => if p.firstBand ≤ l then (i.dryMark, none) else (some fallback, none)
    | none => (some fallback, none)
  match flightBand s with
  | some b => if p.firstBand ≤ b ∧ b ≤ p.lastBand then (none, some b) else settled
  | none => settled

/-- R135: the not-before time of a closing panel's cuts: the dry mark if its last band has settled, else
absent until that band settles. -/
def closeTime (s : State) (i : Item) (p : Panel) : Option Time × Option Nat :=
  if (findBand s p.lastBand).isSome then (none, some p.lastBand) else (i.dryMark, none)

/-- R50: a gutter arises at the panel close, bound to the panel's last band. -/
def addGutter (uid band rows : Nat) (s : State) : State :=
  s.onPath fun p => { p with
    waiting := p.waiting ++ [{ serial := p.nextArise, owner := some uid,
                               work := .feed (.gutter band) rows, rest := false }],
    nextArise := p.nextArise + 1 }

/-- The PANEL notice of a closed panel (R49). -/
def panelBody (i : Item) (p : Panel) : PanelBody :=
  { id := i.id, job := i.job, index := p.index, startRow := p.startRow, rows := p.rows,
    last := p.last, cutA := p.cutA, cutB := p.cutB }

/-- R49: the open panel of an item closes. At an abort (R56) `aborted` holds the time for cuts of a panel
none of whose bands is kept, and the gutter is left to the abort feed. -/
def closePanel (uid : Nat) (last : Bool) (aborted : Option Time) (s : State) : State :=
  match findItem s uid, s.tables.mediaProfile with
  | some i, some mp =>
    match i.panels.getLast? with
    | none => s
    | some p =>
      let e := s.items.planRow
      let g := mp.gutter
      let (nb, band) := match aborted with
        | none => closeTime s i p
        | some t => keptTime s i p t
      let s := if 0 < g then
          let s := movePlan g (mapItem uid (fun i => { i with gutterRows := i.gutterRows + g }) s)
          match aborted with
          | none => addGutter uid p.lastBand g s
          | some _ => s
        else s
      let cut (role : CutRole) (row : Row) (s : State) : State × Option Row :=
        if mp.cutterEnabled then
          insertCut i (some p.index) (row + mp.cutter)
            { role := role, cutRow := row, notBefore := nb, hold := false, lastBand := band } s
        else (s, none)
      let (s, a) := cut .a e s
      let (s, b) := if 0 < g then cut .b (e + g) s else (s, none)
      let closed := { p with rows := i.openRows, last := last, cutA := a, cutB := b }
      let s := mapItem uid (fun i => { i with panels := i.panels.dropLast ++ [closed], openRows := 0 }) s
      let s := s.onItems fun m => { m with cutRef := e + g }
      raise (.panelClosed (panelBody i closed)) s
  | _, _ => s

/-! ## The abort feed (R56) -/

/-- Is the operation an abort FEED of the item that has not had its first offer? -/
def Op.isAbortFeed (uid : Nat) (o : Op) : Bool :=
  o.owner == some uid && !o.rest && (match o.work with | .feed .abort _ => true | _ => false)

/-- Is the operation an abort FEED of the item, or a remainder of one? -/
def Op.ofAbortFeed (uid : Nat) (o : Op) : Bool :=
  o.owner == some uid && (match o.work with | .feed .abort _ => true | _ => false)

/-- Adds rows to a FEED. -/
def Op.addRows (n : Nat) (o : Op) : Op :=
  match o.work with
  | .feed src rows => { o with work := .feed src (rows + n) }
  | .clean _ _ _ => o

/-- Adds rows to the item's abort FEED among queue entries. -/
def QEntry.addAbortRows (uid n : Nat) : QEntry → QEntry
  | .op o => if o.isAbortFeed uid then .op (o.addRows n) else .op o
  | .band b => .band b

/-- R56: where the abort of an operation's owner stands in the order of aborts; 0 without a live owner. -/
def Op.abortOrder (s : State) (o : Op) : Nat := ((o.owner.bind (findItem s)).map Item.abortOrder).getD 0

/-- R56: a new abort goes behind those of all live items. -/
def nextAbort (s : State) : Nat := (s.items.live.map Item.abortOrder).foldl max 0 + 1

/-- R56: an abort feed joins those that wait for a place, which take places in the order of their aborts. -/
def insertAbort (s : State) (o : Op) : List Op → List Op
  | [] => [o]
  | w :: rest => if o.abortOrder s < w.abortOrder s then o :: w :: rest else w :: insertAbort s o rest

/-- R56: rows join an item's abort feed: the FEED of the item that has not been offered, or a further one,
which enters the queue if a general place is free and no abort feed waits for one. -/
def joinAbortFeed (uid rows : Nat) (s : State) : State :=
  if rows = 0 then s
  else
    let s := mapItem uid (fun i => { i with abortFeedRows := i.abortFeedRows + rows }) s
    if s.path.abortWait.any (Op.isAbortFeed uid) then
      s.onPath fun p => { p with abortWait := p.abortWait.map fun o => if o.isAbortFeed uid then o.addRows rows else o }
    else if (s.path.queue.filterMap QEntry.op?).any (Op.isAbortFeed uid) then
      s.onPath fun p => { p with queue := p.queue.map (QEntry.addAbortRows uid rows) }
    else
      let o : Op := { serial := s.path.nextArise, owner := some uid, work := .feed .abort rows, rest := false }
      let free := placeFree s && s.path.abortWait.isEmpty
      s.onPath fun p => { p with
        nextArise := p.nextArise + 1,
        queue := if free then p.queue ++ [.op o] else p.queue,
        abortWait := if free then p.abortWait else insertAbort s o p.abortWait }

/-! ## Discarding a band (R67) -/

/-- The reservation a band holds or asks for. -/
def Band.amounts (b : Band) : List (Chan × Nat) := b.channels.map fun c => (c.chan, c.reserve)

/-- Is the operation the gutter bound to a band? -/
def Op.isGutterOf (band : Nat) (o : Op) : Bool :=
  match o.work with
  | .feed (.gutter b) _ => b == band
  | _ => false

/-- The rows of a FEED. -/
def Op.rows (o : Op) : Nat :=
  match o.work with
  | .feed _ rows => rows
  | .clean _ _ _ => 0

/-- R67: frees a band's slot and takes its queue entry away. -/
def dropBand (serial : Nat) (s : State) : State :=
  s.onPath fun p => { p with
    store := p.store.filter fun b => b.serial != serial,
    queue := p.queue.filter fun q => q != .band serial }

/-- R50: the gutters a discard gives up: those bound to a band not yet queued. -/
def lostGutters (s : State) (b : Band) : List Op :=
  if b.state = .queued then [] else s.path.waiting.filter (Op.isGutterOf b.serial)

/-- R67, R50, R55: what a discard adds to the abort feed: the band's rows, and the rows of a gutter bound
to it and given up. -/
def discardRows (s : State) (b : Band) : Nat := b.rows + ((lostGutters s b).map Op.rows).sum

/-- R67, R50, R115, R147, R63: discards a band that is not in flight. -/
def discardBand (b : Band) (s : State) : State :=
  let lost := lostGutters s b
  let s := s.onPath fun p => { p with waiting := p.waiting.filter fun o => !lost.contains o }
  let s := dropBand b.serial s
  let s := if b.holdsInk then releaseInk b.amounts s else s
  let s := s.onLink fun l => { l with rx := match l.rx with
    | .filling n w len t => if n = b.serial then .dropping else .filling n w len t
    | r => r }
  let s := s.onColour fun c => { c with strips := c.strips.filter fun t => t.band != b.serial }
  let s := mapItem b.item (fun i => { i with gutterRows := i.gutterRows + b.rows }) s
  if s.ink.waitAsker = some b.serial then endWaits (.band b.itemId b.index) b.amounts s else s

/-- Discards bands in take order, and answers the rows they add to the abort feed. -/
def discardBands : List Band → State → State × Nat
  | [], s => (s, 0)
  | b :: rest, s =>
    let rows := discardRows s b
    let (s', more) := discardBands rest (discardBand b s)
    (s', rows + more)

/-! ## The abort of an item (R55) -/

/-- R55, R152: every measure stop of the item leaves the list; those not being scanned are recorded
unread in list order (log 26), and a waiting measure action of one of them ends at once (log 16). -/
def dropMeasures (uid : Nat) (s : State) : State :=
  let sel (t : Stop) : Bool := t.isMeasure && t.item == uid
  let gone := s.media.stops.filter sel
  let s := dropStops sel s
  let s := unreadStops gone s
  match s.colour.measure with
  | some m =>
    if gone.any fun t => t.uid == m then proceed m (s.onColour fun c => { c with measure := none })
    else s
  | none => s

/-- R136: fixes the not-before times still absent of an aborted item's A and B stops. -/
def fixStop (s : State) (i : Item) (fallback : Time) (t : Stop) : Stop :=
  match t.kind, t.panel with
  | .cut c, some n =>
    if t.item = i.uid ∧ c.notBefore = none then
      match i.panels.find? fun p => p.index == n with
      | some p =>
        let (nb, band) := keptTime s i p fallback
        { t with kind := .cut { c with notBefore := nb, lastBand := band } }
      | none => t
    else t
  | _, _ => t

/-- R136 over the stop list. -/
def fixAbortTimes (i : Item) (fallback : Time) (s : State) : State :=
  s.onMedia fun m => { m with stops := m.stops.map (fixStop s i fallback) }

/-- R56: the open panel of an aborted item closes now, or waits for the MEDIA_PROFILE lock; answers the
rows its gutter adds to the abort feed. -/
def closeAborted (uid : Nat) (fallback : Time) (s : State) : State × Nat :=
  match findItem s uid with
  | some i =>
    if i.openRows = 0 then (s, 0)
    else if locked s .mediaProfile then
      (mapItem uid (fun i => { i with pendingClose := some fallback }) s, 0)
    else
      (closePanel uid true (some fallback) s,
       match s.tables.mediaProfile with | some p => p.gutter | none => 0)
  | none => (s, 0)

/-- R55: the abort of an item. An item already aborted or in COSTING is left as it is. -/
def abortItem (uid : Nat) (cause : AbortCause) (s : State) : State :=
  match findItem s uid with
  | none => s
  | some i =>
    if i.fate = .aborted ∨ i.state = .costing then s
    else
      let fallback := s.now + dryTime s
      let s := mapItem uid (fun i => { i with fate := .aborted, abortOrder := nextAbort s }) s
      let s := clearHolds uid (dropMeasures uid s)
      let bands := s.path.store.filter fun b =>
        b.item == uid && b.state != .inFlight && b.state != .counting
      let (s, lost) := discardBands bands s
      let s := releaseReservation uid s
      let s := fixAbortTimes i fallback s
      let (s, gutter) := closeAborted uid fallback s
      let s := joinAbortFeed uid (lost + gutter) s
      let next : ItemState := if hasBand s uid then .closing else .settling
      let s := mapItem uid (fun i => { i with state := next, under := none }) s
      let s := raiseItem (.aborted cause) uid s
      let s := raiseItem (if next = .closing then .closing else .settling) uid s
      advanceItem uid s

/-- R56: an abort's panel close that waited on the MEDIA_PROFILE lock; its gutter joins the abort feed. -/
def closePending (uid : Nat) (fallback : Time) (s : State) : State :=
  let s := mapItem uid (fun i => { i with pendingClose := none }) s
  let (s, gutter) := closeAborted uid fallback s
  advanceItem uid (joinAbortFeed uid gutter s)

end Sys2Proof.Machine
end

