-- ==== Sys2Proof/Machine/PathOps.lean ====
section
/-! DEFINITION. The band path's operations (04_the_band_path.md) with the parts other blocks play in them:
settlements and spends, the end of an operation (R75 to R77, R124), the head fault, offers with their
pause plan (R126, R127), stop dispatch (R128), run-out feeds (R129), the count (R64, R65), requests for
ink (R66) and entry into the head operation queue (R68, R69). -/

namespace Sys2Proof.Machine

/-! ## Settlement of a band (R87 to R90, R135) -/

/-- The demand of a channel's first `q` quarters at the volumes read at the count's start (R65, R89). -/
def BandChannel.quarterDemand (c : BandChannel) (q : Nat) : Nat :=
  ((List.finRange 4).map fun k =>
    if k.val < q then ((List.finRange 3).map fun l => c.counts[k][l] * c.volumes[l]).sum else 0).sum

/-- How an operation in flight ends: DONE (R75), ABORTED with rows done (R76), or a HEAD_FAULT (R77). -/
inductive Ending where
  | done
  | aborted (rows : Nat)
  | fault
  deriving DecidableEq, Repr

/-- R76: the quarters an ABORTED spends, quarters begun counting whole. -/
def spentQuarters (rows d : Nat) : Nat := ceilDiv (min d rows) 8

/-- The demand an end settles a channel against (R88, R89, R90). -/
def settledDemand (b : Band) (e : Ending) (c : BandChannel) : Nat :=
  match e with
  | .aborted d => c.quarterDemand (spentQuarters b.rows d)
  | .done | .fault => c.demand

/-- The rows an end counts as printed (R75, R76, R77). -/
def spentRows (b : Band) (e : Ending) : Nat :=
  match e with
  | .aborted d => min b.rows (8 * spentQuarters b.rows d)
  | .done | .fault => b.rows

/-- Adds amounts to a volume per channel. -/
def addVolumes (v : Vector Nat 12) (amounts : List (Chan × Nat)) : Vector Nat 12 :=
  amounts.foldl (fun v a => v.set a.1.val (countOf 64 (v[a.1] + a.2))) v

/-- The channels on which a band holds a reservation (R88). -/
def Band.held (b : Band) : List BandChannel := b.channels.filter fun c => decide (0 < c.reserve)

/-- R87 on every held channel of a band. -/
def settleAccounts (b : Band) (e : Ending) (s : State) : State :=
  b.held.foldl (fun s c => mapAccount c.chan (Account.settle (settledDemand b e c) c.reserve) s) s

/-- R88, R89, R90: the item's charge of a settlement. -/
def Item.chargeInk (check : Bool) (amounts : List (Chan × Nat)) (i : Item) : Item :=
  if check then { i with checkDpl := addVolumes i.checkDpl amounts }
  else { i with imageDpl := addVolumes i.imageDpl amounts }

/-- R75, R76: the item's rows of a settlement, and its dry mark (R135). -/
def Item.chargeRows (b : Band) (rows : Nat) (mark : Time) (i : Item) : Item :=
  { i with rowsPrinted := i.rowsPrinted + rows,
           imageRows := if b.check then i.imageRows else i.imageRows + rows,
           checkRows := if b.check then i.checkRows + rows else i.checkRows,
           dryMark := some mark, lastSettled := some b.serial }

/-- R135: is this an A or B stop of the band's item whose time waits for this band? -/
def Stop.awaits (b : Band) (t : Stop) : Bool :=
  t.item == b.item &&
    match t.cut? with
    | some c => c.role != .lead && c.notBefore.isNone && c.lastBand == some b.serial
    | none => false

/-- R75, R76, R77, R88 to R90, R93, R135: a band in flight settles, its slot is freed, its item is
charged and told, and the cut stops that waited for it get their time. -/
def settleBand (b : Band) (e : Ending) (s : State) : State :=
  let amounts := b.held.map fun c => (c.chan, settledDemand b e c)
  let mark := s.now + dryTime s
  let s := settleAccounts b e s
  let s := mapItem b.item (fun i => (i.chargeInk b.check amounts).chargeRows b (spentRows b e) mark) s
  let s := forChannels (b.held.map BandChannel.chan) refill s
  let s := dropBand b.serial s
  mapCuts (Stop.awaits b) (fun c => { c with notBefore := some mark, lastBand := none }) s

/-! ## Spend of a CLEAN (R91, R92) -/

/-- R92: the flush goes to the open item, else to the OPEN job, else to no one. -/
def chargeFlush (amounts : List (Chan × Nat)) (s : State) : State :=
  match openItem s with
  | some i => mapItem i.uid (fun i => { i with flushNl := addVolumes i.flushNl amounts }) s
  | none =>
    match openJob s with
    | some j => mapJob j.number (fun j => { j with flush := addVolumes j.flush amounts }) s
    | none => s

/-- R91: the flush leaves the accounts. -/
def flushAccounts (amounts : List (Chan × Nat)) (s : State) : State :=
  amounts.foldl (fun s a => mapAccount a.1 (Account.flush a.2) s) s

/-- R91, R92, R93: a CLEAN ends. The refills after the spend go by channel number, the order of the mask's channels
(log 26). -/
def spendClean (flush : List (Chan × Nat)) (s : State) : State :=
  let used := flush.filter fun a => decide (0 < a.2)
  forChannels (flush.map Prod.fst) refill (chargeFlush used (flushAccounts used s))

/-! ## Run-out feeds (R129) -/

/-- R129: a run-out feed to the first stop, or as far as the roll goes, enters the queue. -/
def queueRunOut (s : State) : State :=
  match s.media.stops with
  | [] => s
  | t :: _ =>
    let rows := min (t.position - s.media.roll.position).toNat s.media.roll.remaining
    let s := s.onPath fun p => { p with
      queue := p.queue ++ [.op { serial := p.nextArise, owner := none, work := .feed .runOut rows, rest := false }],
      nextArise := p.nextArise + 1 }
    movePlan rows (s.onMedia fun m => { m with runOut := none })

/-- Is the work a run-out feed, or the remainder of one? -/
def FlightWork.isRunOut : FlightWork → Bool
  | .op { work := .feed .runOut _, .. } => true
  | _ => false

/-! ## The end of an operation (R75 to R77, R124, R127) -/

/-- The item an operation belongs to. -/
def workOwner (s : State) : FlightWork → Option Nat
  | .band b => (findBand s b).map Band.item
  | .op o => o.owner
  | .verify _ => none

/-- R75, R76, R77: what an end does according to the kind of the operation. -/
def completeWork (work : FlightWork) (e : Ending) (s : State) : State :=
  match work with
  | .band n =>
    match findBand s n with
    | some b => settleBand b e s
    | none => s
  | .op { work := .clean _ flush _, .. } => spendClean flush s
  | .op { work := .feed _ _, .. } => s
  | .verify p =>
    match e with
    | .done => judgePart p s
    | .aborted _ => failPart p .aborted s
    | .fault => failPart p .fault s

/-- R127: the remainder enters the queue in front of every entry. -/
def queueRemainder (s : State) : State :=
  match s.media.remainder with
  | some o =>
    (s.onPath fun p => { p with queue := .op o :: p.queue }).onMedia fun m => { m with remainder := none }
  | none => s

/-- R124: no comparison is made at an ABORTED. -/
def Ending.compares : Ending → Bool
  | .aborted _ => false
  | .done | .fault => true

/-- R124, R127, R46: the end of a media-moving operation: the plan row moves by the difference, a slip is
raised and pauses the engine, and the remainder is queued. -/
def endMove (f : Flight) (e : Ending) (s : State) : State :=
  if f.work.movesMedia then
    let moved := s.media.rowsMoved
    let diff : Int := (moved : Int) - f.commanded
    let s := (movePlan diff s).onMedia fun m => { m with rowsMoved := 0 }
    let s := if e.compares = true ∧ 2 < diff.natAbs then
        pauseEngine (raise (.feedSlip
          { op := some (f.opId, f.work.kind), commanded := some f.commanded, moved := moved, difference := diff,
            position := s.media.roll.position }) s)
      else s
    queueRemainder s
  else s

/-- R56: the abort feed rows go to 0 when the item's last abort FEED is done. -/
def endAbortFeed (work : FlightWork) (s : State) : State :=
  match work with
  | .op o =>
    match o.owner with
    | some uid =>
      if o.ofAbortFeed uid = true ∧ (liveOps s).any (Op.ofAbortFeed uid) = false then
        mapItem uid (fun i => { i with abortFeedRows := 0 }) s
      else s
    | none => s
  | _ => s

/-- The head link becomes IDLE. -/
def linkIdle (s : State) : State := s.onPath fun p => { p with flight := none }

/-- R75, R76, R77: an operation that was in flight ends; the link is already IDLE. -/
def endFlight (f : Flight) (e : Ending) (s : State) : State :=
  let owner := workOwner s f.work
  let s := endAbortFeed f.work (endMove f e (completeWork f.work e s))
  match owner with
  | some uid => advanceItem uid s
  | none => s

/-- R75: a DONE ends the operation in flight. A run-out feed is followed at once by the next (R129). -/
def finishDone (f : Flight) (s : State) : State :=
  let s := endFlight f .done (linkIdle s)
  if f.work.isRunOut = true ∧ runOutReady s = true then queueRunOut s else s

/-- R76: the rows done an ABORTED reports; a BAND's count at most its rows used. -/
def abortedRows (s : State) (f : Flight) (d : Nat) : Nat :=
  match f.work with
  | .band n =>
    match findBand s n with
    | some b => min d b.rows
    | none => d
  | _ => d

/-- R76, R148, R151: an ABORTED ends the operation in flight; a scan in progress ends and a waiting measure
action ends unread. -/
def finishAborted (f : Flight) (d : Nat) (s : State) : State :=
  let rows := abortedRows s f d
  let s := raise (.opAborted (flightRef s f) rows) (linkIdle s)
  endMeasureUnread (endScan .aborted (endFlight f (.aborted d) s))

/-- R77: a HEAD_FAULT (log 28 gives the order of its effects). -/
def headFault (cause : FaultCause) (s : State) : State :=
  let flight := s.path.flight
  let ref := flight.map (flightRef s)
  let s := s.onPath fun p => { p with flight := none, engine := .fault, readySeen := false }
  let s := match flight with
    | some f => endFlight f .fault s
    | none => s
  raise (.headFault cause ref) (endMeasureUnread (endScan .fault s))

/-! ## Offers (R72, R73, R126, R127) -/

/-- The parameters of an OFFER (4.5). -/
def offerBody (s : State) (f : Flight) : OfferBody :=
  match f.work with
  | .band n =>
    match findBand s n with
    | some b => .band b.rows b.columns f.commanded (b.channels.map fun c => (c.headRow, c.plane))
    | none => .band 0 0 f.commanded []
  | .op { work := .feed _ _, .. } => .feed f.commanded
  | .op { work := .clean strength flush _, .. } => .clean strength (flush.map Prod.fst)
  | .verify p => .verify p

/-- The OFFER of the operation in flight. -/
def offerOf (s : State) (f : Flight) : Output :=
  .offer f.opId (offerBody s f) (f.points.map PausePoint.offset)

/-- R73: operation ids go on from 65,535 to 1. -/
def nextId (n : Nat) : Nat := if n = 65535 then 1 else n + 1

/-- R73: an operation is handed to the head link. -/
def handOver (work : FlightWork) (commanded : Nat) (points : List PausePoint) (s : State) : State :=
  let f : Flight :=
    { opId := s.path.nextOpId, work := work, phase := .offering 1 (s.now + answerMs), elapsed := 0,
      commanded := commanded, points := points, reported := 0 }
  let s := s.onPath fun p => { p with flight := some f, nextOpId := nextId p.nextOpId }
  s.send (offerOf s f)

/-- R126, R127: the plan of a feed: pause points, commanded feed, rows of the remainder. -/
structure PausePlan where
  points : List PausePoint
  commanded : Nat
  rest : Nat
  deriving DecidableEq, Repr

/-- R126: the stops of a feed of `f` rows from position `p`. -/
def stopsWithin (stops : List Stop) (p : Row) (f : Nat) : List Stop :=
  stops.filter fun t => decide (p ≤ t.position) && decide (t.position ≤ p + f)

/-- R126, R127: plans a feed from a position. -/
def planFeed (stops : List Stop) (p : Row) (f : Nat) : PausePlan :=
  let within := stopsWithin stops p f
  let points := (within.take pausePlaces).map fun t => ({ stop := t.uid, offset := (t.position - p).toNat } : PausePoint)
  let commanded := if pausePlaces < within.length then
      match points.getLast? with
      | some q => q.offset
      | none => f
    else f
  { points := points, commanded := commanded, rest := f - commanded }

/-- R127: the remainder of an operation, if it has rows. -/
def remainderOf (serial : Nat) (owner : Option Nat) (source : FeedSource) (rows : Nat) : Option Op :=
  if 0 < rows then some { serial := serial, owner := owner, work := .feed source rows, rest := true } else none

/-- R125, R126, R127: the media controller at the first offer of a media-moving operation. -/
def startMove (rest : Option Op) (s : State) : State :=
  s.onMedia fun m => { m with rowsMoved := 0, strayRows := 0, remainder := rest }

/-- R72, R73, R126: the first offer of a band, which becomes IN_FLIGHT. -/
def offerBand (b : Band) (s : State) : State :=
  let plan := planFeed s.media.stops s.media.roll.position b.rows
  let s := startMove (remainderOf b.serial (some b.item) (.bandRest b.slot) plan.rest) s
  let s := mapBand b.serial (fun b => { b with state := .inFlight }) s
  handOver (.band b.serial) plan.commanded plan.points s

/-- R72, R73, R126: the first offer of a FEED or CLEAN. -/
def offerOp (o : Op) (s : State) : State :=
  match o.work with
  | .feed source rows =>
    let plan := planFeed s.media.stops s.media.roll.position rows
    let s := startMove (remainderOf o.serial o.owner source plan.rest) s
    handOver (.op o) plan.commanded plan.points s
  | .clean _ _ _ => handOver (.op o) 0 [] s

/-- R168: the verification state once its part is handed over: the readings emptied. -/
def Verify.handed (v : Verify) : Verify :=
  { v with pending := none, readings := Vector.replicate 4 [], malformed := false }

/-- R168: a pending VERIFY part is handed over. -/
def offerVerify (p : Part) (s : State) : State := handOver (.verify p) 0 [] (onVerify Verify.handed s)

/-- R72: a BAND of a HELD item is not handed over. -/
def itemHeld (s : State) (uid : Nat) : Bool :=
  match findItem s uid with
  | some i => i.state == .held
  | none => false

/-- R72, step 2: the oldest entry of the queue is handed over where every condition holds. -/
def offerQueued (s : State) : State :=
  match s.path.queue with
  | [] => s
  | q :: rest =>
    if s.path.engine = .running then
      let popped := s.onPath fun p => { p with queue := rest }
      match q with
      | .band n =>
        match findBand s n with
        | some b =>
          if itemHeld s b.item = false ∧ s.cutter.state ≠ .cutting then offerBand b popped else s
        | none => s
      | .op o =>
        match o.work with
        | .clean _ _ _ => offerOp o popped
        | .feed _ _ => if s.cutter.state ≠ .cutting then offerOp o popped else s
    else s

/-- R72: the arbiter's choice. -/
def arbitrate (s : State) : State :=
  if s.path.flight.isSome then s
  else
    match s.colour.verify.pending with
    | some p =>
      if s.path.engine = .running ∨ s.path.engine = .paused then offerVerify p s else offerQueued s
    | none => offerQueued s

/-- R73: a REFUSE or a passed answer deadline: a new OFFER below an offer count of 3, else NO_ACCEPT. -/
def offerAgain (f : Flight) (offers : Nat) (s : State) : State :=
  if offers < 3 then
    let f := { f with phase := .offering (offers + 1) (s.now + answerMs) }
    (s.onPath fun p => { p with flight := some f }).send (offerOf s f)
  else headFault .noAccept s

/-! ## Pauses (R74, R128) -/

/-- R128: the stop of a reached pause point is dispatched, or its action ends at once if it has gone. -/
def dispatchStop (uid : Nat) (s : State) : State :=
  match findStop s uid with
  | none => proceed uid s
  | some t =>
    match t.kind with
    | .cut _ => dispatchCut uid s
    | .measure _ => s.onColour fun c => { c with measure := some uid }

/-- R74: a PAUSED while RUNNING. -/
def pauseAt (f : Flight) (point : Nat) (s : State) : State :=
  if point = f.reported then
    match f.points[point]? with
    | some q =>
      let f := { f with phase := .pausedAt, elapsed := f.timer s.now, reported := f.reported + 1 }
      dispatchStop q.stop (s.onPath fun p => { p with flight := some f })
    | none => headFault .protocol s
  else headFault .protocol s

/-! ## The count (R64, R65, R147) -/

/-- R64: the band whose count may start: the oldest FILLED one with no older band FILLING. -/
def countNext (s : State) : Option Band :=
  match s.path.store.find? fun b => b.state == .filled with
  | some b =>
    if s.path.store.any fun a => a.state == .filling && decide (a.serial < b.serial) then none else some b
  | none => none

/-- R64, R65: one channel counted under a DROP content. -/
def BandChannel.counted (rows columns : Nat) (drop : Vector DropEntry 12) (c : BandChannel) : BandChannel :=
  let d := drop[c.chan]
  let plane := mapPlane d.levels columns rows c.plane
  let c := { c with plane := plane, counts := dropCounts rows columns plane, volumes := d.volumes }
  let demand := c.quarterDemand 4
  { c with demand := demand, reserve := ceilDiv demand dplPerNl }

/-- R147: the measure stop of a check strip. -/
def measureStop (s : State) (b : Band) (p : MediaProfile) : Stop :=
  { uid := s.media.nextStop, position := b.startRow + p.sensor, item := b.item, itemId := b.itemId,
    panel := some b.panel, kind := .measure { layout := b.layout, strip := b.index } }

/-- R147: the strip's stop is inserted and the band path is told. -/
def placeStrip (band : Nat) (t : Stop) (s : State) : State :=
  mapBand band (fun b => { b with stopPlaced := true }) (insertStop t s)

/-- R65, R147: a check strip is handed to the colour check unit. -/
def handStrip (b : Band) (s : State) : State :=
  match s.tables.mediaProfile with
  | some p =>
    let t := measureStop s b p
    let s := takeStopId s
    if s.media.stops.length < stopPlaces ∧ s.colour.strips = [] then placeStrip b.serial t s
    else s.onColour fun c => { c with strips := c.strips ++ [{ band := b.serial, stop := t }] }
  | none => s

/-- Is the band's item aborted (R65)? -/
def itemAborted (s : State) (uid : Nat) : Bool :=
  match findItem s uid with
  | some i => i.fate == .aborted
  | none => true

/-- R65: a count completion. -/
def completeCount (j : CountJob) (s : State) : State :=
  let s := s.onPath fun p => { p with count := none }
  match findBand s j.band with
  | none => s
  | some b =>
    if itemAborted s b.item then
      let rows := discardRows s b
      advanceItem b.item (joinAbortFeed b.item rows (discardBand b s))
    else
      let s := mapBand b.serial (fun b => { b with
        channels := b.channels.map (BandChannel.counted b.rows b.columns j.drop), state := .counted }) s
      if b.check then handStrip b s else s

/-! ## Requests for ink (R66) -/

/-- A request: who asks, for what, and whether it is ready. -/
structure Request where
  serial : Nat
  who : Asker
  amounts : List (Chan × Nat)
  ready : Bool
  deriving DecidableEq, Repr

/-- A band's request. -/
def Band.request (b : Band) : Request :=
  { serial := b.serial, who := .band b.itemId b.index, amounts := b.amounts,
    ready := (b.state == .counted || b.state == .waitInk) && (!b.check || b.stopPlaced) }

/-- A waiting CLEAN's request, if it holds no reservation. -/
def Op.request? (o : Op) : Option Request :=
  match o.work with
  | .clean _ flush false => some { serial := o.serial, who := .clean, amounts := flush, ready := true }
  | _ => none

/-- R66: the asker is the oldest taken band or CLEAN that holds no reservation. One taken before a commit disabled a
channel it names asks for that channel all the same, the enabled flag being read at the take alone (R36): the model's
choice, against R84 and R113 (log 51). -/
def asker (s : State) : Option Request :=
  let band := (s.path.store.find? fun b => !b.holdsInk).map Band.request
  let clean := (s.path.waiting.filterMap Op.request?).head?
  match band, clean with
  | some b, some c => if c.serial < b.serial then some c else some b
  | some b, none => some b
  | none, c => c

/-- Marks a waiting CLEAN as granted. -/
def Op.markGranted (serial : Nat) (o : Op) : Op :=
  match o.work with
  | .clean strength flush _ => if o.serial = serial then { o with work := .clean strength flush true } else o
  | .feed _ _ => o

/-- Puts the asker in the state its answer gives. -/
def settleAsker (r : Request) (granted : Bool) (s : State) : State :=
  match r.who with
  | .band _ _ => mapBand r.serial (fun b => { b with state := if granted then .reserved else .waitInk }) s
  | .clean =>
    if granted then s.onPath fun p => { p with waiting := p.waiting.map (Op.markGranted r.serial) } else s

/-- R66, R86, R115: the answer to a request. A WAIT_END at a grant shows what the grant leaves available (log 40). -/
def answerRequest (r : Request) (s : State) : State :=
  if grantable s r.amounts then
    endWaits r.who r.amounts (settleAsker r true (grantInk r.amounts s))
  else declineWaits r.serial r.who r.amounts (settleAsker r false s)

/-! ## Entry into the head operation queue (R68, R69) -/

/-- The item is CLOSING, or HELD with CLOSING as its state under hold (R69). -/
def Item.isClosing (i : Item) : Bool :=
  i.state == .closing || (i.state == .held && i.under == some .closing)

/-- R69: may an item's first band enter? -/
def depthAllows (s : State) (i : Item) (b : Band) : Bool :=
  let depth := match s.tables.mediaProfile with
    | some p => p.startDepth
    | none => 1
  decide (depth ≤ s.path.store.countP fun a => a.item == b.item && a.state == .reserved) ||
    i.isClosing || s.path.waiting.any fun o => decide (b.serial < o.serial)

/-- R127: does a remainder of a BAND, in the queue or still to enter it, hold the band place of a slot? A remainder
shortened again leaves the queue at its own offer, its own remainder following when it ends. -/
def placeOfBandHeld (s : State) (slot : Fin 4) : Bool :=
  (s.path.queue.filterMap QEntry.op? ++ s.media.remainder.toList).any fun o =>
    match o.work with
    | .feed (.bandRest n) _ => n == slot
    | _ => false

/-- R68, R69, R56, R127: is a band ready to enter the queue? -/
def bandReady (s : State) (b : Band) : Bool :=
  b.state == .reserved &&
  (match findItem s b.item with
   | some i => i.started || depthAllows s i b
   | none => true) &&
  (s.path.abortWait.all fun o => o.owner == some b.item) &&
  !placeOfBandHeld s b.slot

/-- R68: is a waiting FEED, gutter or CLEAN ready? -/
def Op.ready (o : Op) : Bool :=
  match o.work with
  | .feed _ _ => true
  | .clean _ _ granted => granted

/-- R68: the oldest operation that has not entered the queue enters it, if it is ready. -/
def enterQueue (s : State) : State :=
  let enterBand (b : Band) : State :=
    if bandReady s b then
      let s := mapBand b.serial (fun b => { b with state := .queued }) s
      let s := mapItem b.item (fun i => { i with started := true }) s
      s.onPath fun p => { p with queue := p.queue ++ [.band b.serial] }
    else s
  let enterOp (o : Op) : State :=
    if o.ready then
      s.onPath fun p => { p with waiting := p.waiting.filter fun w => w.serial != o.serial,
                                 queue := p.queue ++ [.op o] }
    else s
  match s.path.store.find? Band.waits, s.path.waiting.head? with
  | some b, some o => if o.serial < b.serial then enterOp o else enterBand b
  | some b, none => enterBand b
  | none, some o => enterOp o
  | none, none => s

/-- R56: the first abort feed that waits takes a free general place and enters the queue. -/
def enterAbortFeed (s : State) : State :=
  match s.path.abortWait with
  | [] => s
  | o :: rest =>
    if placeFree s then s.onPath fun p => { p with abortWait := rest, queue := p.queue ++ [.op o] } else s

end Sys2Proof.Machine
end

