-- ==== Sys2Proof/Machine/TableOps.lean ====
section
/-! DEFINITION. The table store's operations (02_table_sections.md): a commit with what follows it at once
(R30, R112, R113, R144), and the staged loads of R31 to R34. -/

namespace Sys2Proof.Machine

/-- A section's committed content becomes the given one; a PRICE commit advances the price version
(R30). -/
def setContent (c : Content) (t : TableStore) : TableStore :=
  match c with
  | .channelMap m => { t with channelMap := some m }
  | .drop d => { t with drop := some d }
  | .mediaProfile p => { t with mediaProfile := some p }
  | .price p => { t with price := some p, priceVersion := (t.priceVersion + 1) % 65536 }
  | .patch p => { t with patch := some p }
  | .tolerance l => { t with tolerance := some l }
  | .maintenance m => { t with maintenance := some m }
  | .notice n => { t with notice := some n }

/-- A commit: the content, then the re-check of a CHANNEL_MAP (R112, R113) or the removals of a
MEDIA_PROFILE that disables the cutter (R144). -/
def commitContent (c : Content) (s : State) : State :=
  let s := s.onTables (setContent c)
  match c with
  | .channelMap _ => recheckMap s
  | .mediaProfile p => if p.cutterEnabled then s else disableCutter s
  | _ => s

/-- R31: the staging area of a section, every byte unwritten. -/
def blankStaging (sec : Section) : List (Option Byte) := List.replicate sec.imageLength none

/-- R33, R34, R39: the staged load ends: the staging area, the deadline and the lock are dropped. -/
def TableStore.freed (t : TableStore) : TableStore := { t with lock := none, staging := [], expiry := none }

/-- R31: TABLE_BEGIN. -/
def tableBegin (body : List Byte) (s : State) : State × Status :=
  match sectionBody body with
  | none => (s, .badRecord)
  | some sec =>
    if s.tables.lock = none ∨ s.tables.lock = some sec then
      (s.onTables fun t => { t with lock := some sec, staging := blankStaging sec, expiry := some (s.now + lockMs) },
       .ok)
    else (s, .locked)

/-- Writes bytes into a staging area from an offset on (R32). -/
def writeStaging (offset : Nat) (data : List Byte) (staging : List (Option Byte)) : List (Option Byte) :=
  staging.take offset ++ data.map some ++ staging.drop (offset + data.length)

/-- R32: TABLE_PART. -/
def tablePart (body : List Byte) (s : State) : State × Status :=
  if s.tables.lock = none then (s, .refusedState)
  else if body.length < 5 ∨ s.tables.staging.length < u32 body 0 + (body.length - 4) then (s, .badRecord)
  else
    (s.onTables fun t => { t with staging := writeStaging (u32 body 0) (body.drop 4) t.staging, expiry := some (s.now + lockMs) },
     .ok)

/-- The staged image, once every byte is written (R33). -/
def stagedImage (staging : List (Option Byte)) : Option (List Byte) :=
  if staging.all Option.isSome then some (staging.map fun b => b.getD 0#8) else none

/-- R33: TABLE_COMMIT. The commit comes first, with the lock freed at the same moment. -/
def tableCommit (body : List Byte) (s : State) : State × Status :=
  match sectionBody body with
  | none => (s, .badRecord)
  | some sec =>
    if s.tables.lock = none then (s, .refusedState)
    else if s.tables.lock = some sec then
      let image := stagedImage s.tables.staging
      let s := s.onTables TableStore.freed
      match image.bind (judgeImage sec) with
      | some c => (commitContent c s, .ok)
      | none => (s, .badTable)
    else (s, .locked)

/-- R34: the expiry of a staged load. -/
def expireLock (s : State) : State :=
  match s.tables.lock, s.tables.expiry with
  | some sec, some t =>
    if passed s.now t then
      raise (.lockExpired sec (s.tables.staging.countP Option.isSome)) (s.onTables TableStore.freed)
    else s
  | _, _ => s

end Sys2Proof.Machine
end

