-- ==== Sys2Proof/Machine/TakeOps.lean ====
section
/-! DEFINITION. The takes of the intake (R9): when the oldest record may be taken, and what its owner does
with it: jobs and items (R40, R41, R43, R44, R51), bands (R47, R48, R62, R63), FEED and CLEAN records
(R70, R71) and table loads (R29). -/

namespace Sys2Proof.Machine

/-- R9: the intake takes its oldest entry if it has the kind, nothing holds the intake and the owner can
take it; `can` says whether the owner can, `act` what the take does once the entry has left. -/
def take (k : StreamKind) (can : IntakeEntry → State → Bool) (act : IntakeEntry → State → State) (s : State) :
    State :=
  match s.link.intake with
  | [] => s
  | e :: rest =>
    if e.kind = k ∧ intakeHeld s = false ∧ panelCloseDue s = false ∧ can e s = true then
      act e (s.onLink fun l => { l with intake := rest })
    else s

/-- R10, R14: the reply of a take whose owner answers with a status. -/
def answerTake (e : IntakeEntry) (r : State × Status) : State :=
  reply e.tag r.2 .empty (captureIf r.2 (goodWire e.kind.code 0#8 e.tag e.body) e.length r.1)

/-- An owner that can always take a record. -/
def always (_ : IntakeEntry) (_ : State) : Bool := true

/-! ## Jobs (R40, R41) -/

/-- R40: the owner can take a JOB_OPEN. -/
def canOpenJob (_ : IntakeEntry) (s : State) : Bool := decide (s.items.jobs.length < jobPlaces)

/-- A job just opened (R40). -/
def newJob (number : Nat) : Job :=
  { number := number, state := .opened, itemsClosed := 0, total := 0, flush := Vector.replicate 12 0,
    fate := .complete }

/-- R40: JOB_OPEN. -/
def judgeJobOpen (body : List Byte) (s : State) : State × Status :=
  match numberBody body with
  | none => (s, .badRecord)
  | some n =>
    if (openJob s).isSome ∨ (findJob s n).isSome then (s, .refusedState)
    else (s.onItems fun m => { m with jobs := m.jobs ++ [newJob n] }, .ok)

/-- R41: JOB_CLOSE, and R42 at its take. -/
def judgeJobClose (body : List Byte) (s : State) : State × Status :=
  match numberBody body with
  | none => (s, .badRecord)
  | some n =>
    match findJob s n with
    | none => (s, .unknownRef)
    | some j =>
      if j.state ≠ .opened ∨ (s.items.live.any fun i => i.job == n && i.isOpen) = true then (s, .refusedState)
      else (settleJob n (mapJob n (fun j => { j with state := .closing }) s), .ok)

/-! ## Items (R43, R44, R51) -/

/-- R43: the owner can take an ITEM_OPEN. -/
def canOpenItem (_ : IntakeEntry) (s : State) : Bool :=
  decide (s.items.live.length < itemPlaces) && !locked s .mediaProfile

/-- R44: the media reservation asked by an ITEM_OPEN. -/
def reservationOf (p : MediaProfile) (declared : Nat) (blank : Row) : Int :=
  declared + ceilDiv declared p.maxPanel * p.gutter + p.cutter + blank

/-- R44, R174: the item an ITEM_OPEN admits. -/
def newItem (s : State) (b : ItemOpenBody) (reservation : Int) : Item :=
  { uid := s.items.nextUid, id := b.id, job := b.job, edition := b.edition, print := b.print,
    policy := b.policy, declared := b.declared, allowance := b.declared, state := .opened,
    under := none, fate := .complete, rowsReceived := 0, rowsPrinted := 0,
    imageDpl := Vector.replicate 12 0, checkDpl := Vector.replicate 12 0,
    flushNl := Vector.replicate 12 0, imageRows := 0, checkRows := 0, gutterRows := 0, leadRows := 0,
    reservation := rowCount reservation, panels := [], openRows := 0, firstRow := none, cutCount := 0,
    abortFeedRows := 0, started := false, pendingClose := none, lastSettled := none, abortOrder := 0,
    dryMark := none, noteKind := s.media.roll.kind, noteWidth := s.media.roll.width }

/-- R44: admits an item; the roll record's media reserved rows gain its reservation. -/
def admitItem (i : Item) (s : State) : State :=
  (s.onItems fun m => { m with live := m.live ++ [i], nextUid := m.nextUid + 1 }).onMedia fun m =>
    { m with roll := { m.roll with reserved := m.roll.reserved + i.reservation } }

/-- R43, checks 3 and 4. -/
def jobAdmits (s : State) (b : ItemOpenBody) : Option Status :=
  match findJob s b.job with
  | none => some .unknownRef
  | some j =>
    if j.state ≠ .opened ∨ (itemById s b.id).isSome ∨ (openItem s).isSome then some .refusedState else none

/-- R43, R44, R159: ITEM_OPEN. -/
def judgeItemOpen (body : List Byte) (s : State) : State × Status :=
  match itemOpenBody body with
  | none => (s, .badRecord)
  | some b =>
    match s.tables.mediaProfile, s.tables.price with
    | some p, some _ =>
      match jobAdmits s b with
      | some status => (s, status)
      | none =>
        let r := reservationOf p b.declared (blankRun s)
        if s.media.roll.loaded = false ∨ (freeRows s : Int) < r then (s, .noMedia)
        else
          match b.edition with
          | none => (admitItem (newItem s b r) s, .ok)
          | some n =>
            match takeEdition s n with
            | none => (s, .noRoom)
            | some l => ((admitItem (newItem s b r) s).onColour fun c => { c with editions := l }, .ok)
    | _, _ => (s, .noTable)

/-- R47, R51: is there room for what the close of a panel creates? -/
def closeRoom (s : State) : Bool :=
  match s.tables.mediaProfile with
  | some p => decide (panelStops p ≤ stopRoom s) && (p.gutter == 0 || placeFreeForIntake s) && !locked s .mediaProfile
  | none => !locked s .mediaProfile

/-- R51: the owner can take an ITEM_CLOSE. One whose body is malformed names no item, and is taken at once (log 49). -/
def canCloseItem (e : IntakeEntry) (s : State) : Bool :=
  !locked s .mediaProfile &&
    match (byteBody e.body).bind (itemById s) with
    | some i => i.openRows == 0 || closeRoom s
    | none => true

/-- R51, steps 1 to 3. -/
def closeItemTake (i : Item) (s : State) : State :=
  let s := if 0 < i.openRows then closePanel i.uid true none s else s
  let s := if i.state = .held then mapItem i.uid (fun i => { i with under := some .closing }) s
    else raiseItem .closing i.uid (mapItem i.uid (fun i => { i with state := .closing }) s)
  advanceItem i.uid s

/-- R51: ITEM_CLOSE. -/
def judgeItemClose (body : List Byte) (s : State) : State × Status :=
  match byteBody body with
  | none => (s, .badRecord)
  | some id =>
    match itemById s id with
    | none => (s, .unknownRef)
    | some i => if i.isOpen then (closeItemTake i s, .ok) else (s, .refusedState)

/-! ## Bands (R47, R48, R62, R63) -/

/-- R48: a first band of the item needs a lead cut stop. -/
def needsLead (s : State) (i : Item) : Bool :=
  i.firstRow.isNone && decide (blankRun s ≠ 0) &&
    match s.tables.mediaProfile with
    | some p => p.cutterEnabled
    | none => false

/-- R47: a further band of the item closes its open panel. -/
def closesPanel (s : State) (i : Item) : Bool :=
  match s.tables.mediaProfile with
  | some p => i.openRows != 0 && i.openRows == p.maxPanel
  | none => false

/-- R9, R47: the owner can take a BAND. The waits apply to every BAND whose item shows the conditions. -/
def canTakeBand (e : IntakeEntry) (s : State) : Bool :=
  decide (s.path.store.length < 4) &&
    match itemById s (u8 e.body 0) with
    | some i => (!needsLead s i || decide (0 < stopRoom s)) && (!closesPanel s i || closeRoom s)
    | none => true

/-- R62: the tables a band needs are present (R28). -/
def bandTables (s : State) (check : Bool) : Option (Vector MapEntry 12) :=
  if s.tables.drop.isSome ∧ (check = false ∨ (s.tables.patch.isSome ∧ s.tables.tolerance.isSome)) then
    s.tables.channelMap
  else none

/-- R62, check 3: a channel that is not enabled, or a band index of the item still in the store. -/
def bandClashes (s : State) (b : BandBody) (m : Vector MapEntry 12) : Bool :=
  ((channelsOf b.mask).any fun c => !m[c].enabled) ||
    s.path.store.any fun a => a.itemId == b.itemId && a.index == b.index

/-- R47, check 2: a band may not straddle a panel boundary. -/
def straddles (s : State) (i : Item) (rows : Nat) : Bool :=
  match s.tables.mediaProfile with
  | some p => decide (i.openRows < p.maxPanel) && decide (p.maxPanel < i.openRows + rows)
  | none => false

/-- R47, step 3: the reservation and the allowance grow by 32 rows. -/
def extendReservation (uid : Nat) (s : State) : State :=
  (mapItem uid (fun i => { i with reservation := i.reservation + 32, allowance := i.allowance + 32 }) s).onMedia
    fun m => { m with roll := { m.roll with reserved := m.roll.reserved + 32 } }

/-- R48: the lead cut of an item's first accepted band. -/
def planLead (i : Item) (s : State) : State :=
  let first := s.items.planRow
  let lead := blankRun s
  let s := mapItem i.uid (fun i => { i with firstRow := some first, leadRows := rowCount lead }) s
  let s := match s.tables.mediaProfile with
    | some p =>
      if lead ≠ 0 ∧ p.cutterEnabled = true then
        (insertCut i none (first + p.cutter)
          { role := .lead, cutRow := first, notBefore := some s.now, hold := false, lastBand := none } s).1
      else s
    | none => s
  s.onItems fun m => { m with cutRef := first }

/-- R47, step 3 of the effects: a panel just begun. -/
def newPanel (index : Nat) (start : Row) (band : Nat) : Panel :=
  { index := index, startRow := start, rows := 0, last := false, cutA := none, cutB := none,
    verdict := .none, firstBand := band, lastBand := band }

/-- R47, steps 3 and 4: the band is counted into the open panel, a new one where none is open. -/
def Item.countBand (start : Row) (serial rows : Nat) (i : Item) : Item :=
  let panels := if i.openRows = 0 then i.panels ++ [newPanel (i.panels.length + 1) start serial]
    else i.panels.dropLast ++ (i.panels.getLast?.map fun p => { p with lastBand := serial }).toList
  { i with panels := panels, openRows := i.openRows + rows, rowsReceived := i.rowsReceived + rows }

/-- The lowest free slot of the band store (log 11). -/
def freeSlot (s : State) : Fin 4 :=
  ((List.finRange 4).find? fun n => s.path.store.all fun b => b.slot != n).getD 0

/-- R63: a present channel of a band just accepted, with its copy of the head row. -/
def newChannel (m : Vector MapEntry 12) (c : Chan) : BandChannel :=
  { chan := c, headRow := m[c].headRow, plane := [], counts := Vector.replicate 4 (Vector.replicate 3 0),
    volumes := Vector.replicate 3 0, demand := 0, reserve := 0 }

/-- R63: the record of a band just accepted. -/
def newBand (s : State) (b : BandBody) (m : Vector MapEntry 12) (i : Item) (panel : Nat) : Band :=
  { serial := s.path.nextArise, slot := freeSlot s, item := i.uid, itemId := i.id, index := b.index,
    startRow := s.items.planRow, rows := b.rows, columns := b.columns,
    channels := (channelsOf b.mask).map (newChannel m), check := b.check, layout := b.layout,
    panel := panel, stopPlaced := false, state := .filling }

/-- The index of an item's newest panel record. -/
def panelIndex (s : State) (uid : Nat) : Nat :=
  match findItem s uid with
  | some i => i.panels.length
  | none => 0

/-- R47, R48, R49, R63: the effects of an accepted BAND, in order. -/
def acceptBand (e : IntakeEntry) (b : BandBody) (m : Vector MapEntry 12) (i : Item) (s : State) : State :=
  let closes := closesPanel s i
  let s := if i.firstRow.isNone then planLead i s else s
  let s := if closes then closePanel i.uid false none s else s
  let serial := s.path.nextArise
  let s := mapItem i.uid (Item.countBand s.items.planRow serial b.rows) s
  let band := newBand s b m i (panelIndex s i.uid)
  let s := s.onPath fun p => { p with store := p.store ++ [band], nextArise := p.nextArise + 1 }
  let s := movePlan b.rows s
  s.onLink fun l => { l with rx := .filling serial (bandWire e.tag e.length e.body) e.length e.tag }

/-- R8, R10, R14: a BAND is refused at its take; its planes will be dropped. -/
def refuseBand (e : IntakeEntry) (status : Status) (s : State) : State :=
  let s := if status = .badRecord then capture (bandWire e.tag e.length e.body) e.length true s else s
  let s := s.onLink fun l => { l with rx := .dropping }
  reply e.tag status .empty s

/-- R47: the item manager's part of a BAND's take. -/
def judgeBandItem (e : IntakeEntry) (b : BandBody) (m : Vector MapEntry 12) (s : State) : State :=
  match itemById s b.itemId with
  | none => refuseBand e .unknownRef s
  | some i =>
    if i.isOpen = false then refuseBand e .unknownRef s
    else if straddles s i b.rows then refuseBand e .badRecord s
    else if i.rowsReceived + b.rows ≤ i.allowance then acceptBand e b m i s
    else if 32 ≤ freeRows s then acceptBand e b m i (extendReservation i.uid s)
    else abortItem i.uid .noMedia (refuseBand e .noMedia s)

/-- R62, R47: a BAND's take. -/
def judgeBand (e : IntakeEntry) (s : State) : State :=
  match bandBody e.body e.length with
  | none => refuseBand e .badRecord s
  | some b =>
    match bandTables s b.check with
    | none => refuseBand e .noTable s
    | some m => if bandClashes s b m then refuseBand e .badRecord s else judgeBandItem e b m s

/-! ## FEED and CLEAN records (R70, R71) -/

/-- R9: a general place is free for the record. -/
def canTakeOp (_ : IntakeEntry) (s : State) : Bool := placeFreeForIntake s

/-- R68: an operation arises and waits to enter the queue. -/
def ariseOp (work : Work) (s : State) : State :=
  s.onPath fun p => { p with
    waiting := p.waiting ++ [{ serial := p.nextArise, owner := none, work := work, rest := false }],
    nextArise := p.nextArise + 1 }

/-- R70: a FEED's take; an accepted FEED gets no reply. -/
def judgeFeed (e : IntakeEntry) (s : State) : State :=
  match feedBody e.body with
  | none => answerTake e (s, .badRecord)
  | some rows =>
    if s.tables.mediaProfile.isNone then answerTake e (s, .noTable)
    else if s.media.roll.loaded = false ∨ freeRows s < rows then answerTake e (s, .noMedia)
    else movePlan rows (ariseOp (.feed .record rows) s)

/-- R71: the flush volume of a strength 1..3 on a channel. -/
def flushVolume (m : Vector (Vector Nat 3) 12) (strength : Nat) (c : Chan) : Nat :=
  m[c][Fin.ofNat 3 (strength - 1)]

/-- R71: a CLEAN. -/
def judgeClean (body : List Byte) (s : State) : State × Status :=
  match cleanBody body with
  | none => (s, .badRecord)
  | some (strength, mask) =>
    match s.tables.channelMap, s.tables.maintenance with
    | some map, some m =>
      if (channelsOf mask).any fun c => !map[c].enabled then (s, .badRecord)
      else
        (ariseOp (.clean strength ((channelsOf mask).map fun c => (c, flushVolume m strength c)) false) s, .ok)
    | _, _ => (s, .noTable)

/-! ## TABLE_LOAD (R29) -/

/-- R29: the owner can take a TABLE_LOAD. -/
def canLoadTable (e : IntakeEntry) (s : State) : Bool :=
  match tableLoadSection e.body with
  | none => true
  | some sec => !locked s sec && !(sec == .drop && s.path.store.any fun b => b.state == .filled)

/-- R29, R21: TABLE_LOAD. -/
def judgeTableLoad (body : List Byte) (s : State) : State × Status :=
  match tableLoadBody body with
  | none => (s, .badRecord)
  | some (sec, image) =>
    match judgeImage sec image with
    | none => (s, .badTable)
    | some c => (commitContent c s, .ok)

end Sys2Proof.Machine
end

