-- ==== Sys2Proof/Machine/ResetOps.lean ====
section
/-! DEFINITION. The four starting points (00_scope.md, Resets): the power-on values with the lines as they
stand (R18, R38, R60, R83, R96, R117, R133, R146, R164, R172, R182) and the link reset (R19, R39, R61,
R82). -/

namespace Sys2Proof.Machine

/-! ## Power-on and ENGINE_RESET ALL -/

/-- R117: a slot at a reset at a moment: its lines as they stand, its cartridge record cleared. -/
def Slot.restart (now : Time) (t : Slot) : Slot :=
  { t with bothSince := none, levelSince := now, sensed := .ok, cart := Cartridge.cleared }

/-- R100: an assertion of a detect line as the lines stand then; ABSENT to SEATING carries the cause SEATED (log 45). -/
def assertSeat (c : Chan) (s : State) : State :=
  let t := slot s c
  let s := if t.d1 = true ∧ t.d2 = true then mapSlot c (fun t => { t with bothSince := some s.now }) s else s
  if t.cart.state = .absent then moveCart c .seating .seated s else s

/-- R117: detect lines found asserted at the reset are taken as asserted at that moment. -/
def assertFound (c : Chan) (s : State) : State :=
  if (slot s c).d1 || (slot s c).d2 then assertSeat c s else s

/-- Every block at its power-on values, at a moment of the run-time counter; the lines and the commands
that wait are outside the part and stay (log 7). -/
def restart (now : Time) (s : State) : State :=
  let r := State.reset
  { r with
    now := now, pending := s.pending, out := s.out,
    ink := { r.ink with slots := Vector.ofFn fun c => (slot s c).restart now },
    media := { r.media with rollEndLine := s.media.rollEndLine, rollEndArmed := !s.media.rollEndLine },
    cutter := { r.cutter with lastEdge := now } }

/-- R18 and each block's rule: the restart, then the seats found, by slot number (log 26). -/
def restartAll (now : Time) (s : State) : State := forChannels (List.finRange 12) assertFound (restart now s)

/-- R17, R19: a BAND still coming on the link has the rest dropped. -/
def Rx.dropped : Rx → Rx
  | .idle => .idle
  | _ => .dropping

/-- R17, R18: ENGINE_RESET ALL. The hold keeps what arrived after it, a BAND still coming is dropped, and the
head link sends RESET (R78). -/
def resetAll (s : State) : State :=
  let after := restartAll s.now s
  (after.onLink fun l => { l with hold := s.link.hold, rx := s.link.rx.dropped }).send .headReset

/-! ## Link reset and ENGINE_RESET STREAM -/

/-- R19: the link port; `stream` says that the reset is an ENGINE_RESET STREAM. -/
def Link.flushed (stream : Bool) (l : Link) : Link :=
  { intake := [], rx := if stream then l.rx.dropped else .idle, hold := if stream then l.hold else [],
    ret := [], displaced := l.displaced || l.ret.any fun e => !e.isReply, capture := Capture.fresh }

/-- R61: the OPEN job becomes CLOSING with status ABORTED, and R42 is applied to it. -/
def abortOpenJob (s : State) : State :=
  match openJob s with
  | some j => settleJob j.number (mapJob j.number (fun j => { j with state := .closing, fate := .aborted }) s)
  | none => s

/-- R61: the open item is aborted with cause LINK_RESET. -/
def abortOpenItem (s : State) : State :=
  match openItem s with
  | some i => abortItem i.uid .linkReset s
  | none => s

/-- R19, R39, R61, R82: a link reset, or an ENGINE_RESET STREAM; the blocks in the order of log 21. -/
def linkReset (stream : Bool) (s : State) : State :=
  abortOpenJob (abortOpenItem ((s.onLink (Link.flushed stream)).onTables TableStore.freed))

end Sys2Proof.Machine
end

