-- ==== Sys2Proof/Machine/ExpressOps.lean ====
section
/-! DEFINITION. What the owners of the express records do (1.2 and each owner's rule): the effect, the status
and the body of the reply. -/

namespace Sys2Proof.Machine

/-- What an owner answers to an express record: the state, the status and the reply's body (R6, R10). -/
structure Answer where
  state : State
  status : Status
  body : ReplyBody
  deriving DecidableEq, Repr

/-- An answer with an empty body. -/
def answer (r : State × Status) : Answer := { state := r.1, status := r.2, body := .empty }

/-! ## Link port (R15, R16) -/

/-- R16: the status body. -/
def statusBody (s : State) : StatusBody :=
  { engine := s.path.engine, loaded := s.media.roll.loaded, rollKind := s.media.roll.kind,
    width := s.media.roll.width, remaining := s.media.roll.remaining,
    reserved := s.media.roll.reserved, position := s.media.roll.position,
    lastCutRow := s.media.roll.lastCutRow,
    channels := Vector.ofFn fun c => ((slot s c).cart.state, (account s c).available),
    slots := s.path.store.length, stops := s.media.stops.length,
    present := allSections.filter (sectionPresent s), lock := s.tables.lock,
    valid := s.colour.cal.valid, priceVersion := s.tables.priceVersion,
    displaced := s.link.displaced }

/-- R16: STATUS_QUERY. -/
def statusQuery (body : List Byte) (s : State) : Answer :=
  if body = [] then
    { state := s.onLink fun l => { l with displaced := false }, status := .ok, body := .status (statusBody s) }
  else answer (s, .badRecord)

/-- R15: FAULT_DUMP. -/
def faultDump (body : List Byte) (s : State) : Answer :=
  if body = [] then
    { state := s.onLink fun l => { l with capture := Capture.fresh }, status := .ok,
      body := .capture (BitVec.ofNat 8 s.link.capture.length :: s.link.capture.bytes) }
  else answer (s, .badRecord)

/-- R17: ENGINE_RESET. -/
def engineReset (body : List Byte) (s : State) : Answer :=
  match engineResetBody body with
  | none => answer (s, .badRecord)
  | some true => answer (resetAll s, .ok)
  | some false => answer (linkReset true s, .ok)

/-! ## Band path (R79, R80) -/

/-- R79: HALT. -/
def halt (body : List Byte) (s : State) : State × Status :=
  if body ≠ [] then (s, .badRecord)
  else
    match s.path.engine with
    | .running => (s.onPath fun p => { p with engine := .paused }, .ok)
    | .paused => (s, .ok)
    | .waitingEngine | .fault => (s, .refusedState)

/-- R80: RESUME. -/
def resume (body : List Byte) (s : State) : State × Status :=
  if body ≠ [] then (s, .badRecord)
  else if s.path.engine = .paused ∨ (s.path.engine = .fault ∧ s.path.readySeen = true) then
    (s.onPath fun p => { p with engine := .running }, .ok)
  else (s, .refusedState)

/-! ## Item manager (R54, R57) -/

/-- R57: ITEM_ABORT. -/
def itemAbort (body : List Byte) (s : State) : State × Status :=
  match byteBody body with
  | none => (s, .badRecord)
  | some id =>
    match itemById s id with
    | none => (s, .unknownRef)
    | some i =>
      if i.state = .costing ∨ i.fate = .aborted then (s, .refusedState)
      else (abortItem i.uid .itemAbort s, .ok)

/-- R54: does the item own a cut stop whose hold flag is set? -/
def ownsHeldCut (s : State) (uid : Nat) : Bool :=
  s.media.stops.any fun t => t.item == uid &&
    match t.cut? with
    | some c => c.hold
    | none => false

/-- R54: a HELD item takes its state under hold. -/
def Item.released (i : Item) : Item :=
  if i.state = .held then { i with state := i.under.getD .opened, under := none } else i

/-- R54: CONTINUE. The RELEASED notice stands before the moves of R52 (log 15) and is the only notice of the state
taken back (log 38). -/
def releaseHoldOf (uid : Nat) (s : State) : State :=
  advanceItem uid (raiseItem .released uid (mapItem uid Item.released (clearHolds uid s)))

/-- R54: HOLD_RELEASE. -/
def holdRelease (body : List Byte) (s : State) : State × Status :=
  match holdReleaseBody body with
  | none => (s, .badRecord)
  | some (id, abort) =>
    match itemById s id with
    | none => (s, .unknownRef)
    | some i =>
      if i.state ≠ .held ∧ ownsHeldCut s i.uid = false then (s, .refusedState)
      else if abort then (abortItem i.uid .holdAbort (clearHolds i.uid s), .ok)
      else (releaseHoldOf i.uid s, .ok)

/-! ## Media controller (R119) -/

/-- Is the operation a FEED? -/
def Op.isFeed (o : Op) : Bool :=
  match o.work with
  | .feed _ _ => true
  | .clean _ _ _ => false

/-- R119, check 3. Every band of the store counts, also one that will never be queued, since it is to be discarded at
its count completion (log 52). -/
def rollBusy (s : State) : Bool :=
  decide (0 < s.media.roll.reserved) || mediaMoving s || !s.path.store.isEmpty ||
    (liveOps s).any Op.isFeed || s.cutter.held.isSome

/-- R119, step 1, and R122, R152: every stop is removed and each MEASURE is recorded unread; the order of the
notices is log 26's. -/
def dropEveryStop (s : State) : State :=
  let gone := s.media.stops
  let s := dropStops (fun _ => true) s
  let s := unreadStops gone s
  let s := if gone.isEmpty then s
    else raise (.stopsDropped (gone.countP fun t => !t.isMeasure) (gone.countP Stop.isMeasure) (ownerIds gone)) s
  advanceItems ((gone.map Stop.item).dedup) s

/-- R119, steps 2 to 5. -/
def Roll.replaced (p : MediaProfile) (rows : Nat) (r : Roll) : Roll :=
  { loaded := decide (1 ≤ rows), kind := p.rollKind, width := p.width, remaining := rows,
    reserved := r.reserved, position := 0, lastCutRow := 0, edges := 0 }

/-- R119: an accepted ROLL_LOAD. -/
def replaceRoll (p : MediaProfile) (rows : Nat) (s : State) : State :=
  let s := dropEveryStop s
  let s := s.onMedia fun m => { m with
    roll := m.roll.replaced p rows, overrun := 0, strayRows := 0, runOut := none, rollEndArmed := !m.rollEndLine }
  s.onItems fun m => { m with planRow := 0, cutRef := 0 }

/-- R119: ROLL_LOAD. -/
def rollLoad (body : List Byte) (s : State) : State × Status :=
  match rollLoadBody body with
  | none => (s, .badRecord)
  | some rows =>
    match s.tables.mediaProfile with
    | none => (s, .noTable)
    | some p => if rollBusy s then (s, .refusedState) else (replaceRoll p rows s, .ok)

/-! ## Colour check unit (R161, R167, R171) -/

/-- R167: SENSOR_VERIFY. -/
def sensorVerify (body : List Byte) (s : State) : State × Status :=
  match verifyBody body with
  | none => (s, .badRecord)
  | some code =>
    if s.colour.verify.busy then (s, .busy)
    else
      let first := (testParts code).headD .lamp
      (onVerify (fun v => { v with busy := true, test := some { code := code, current := first, outcomes := [] }, pending := some first }) s,
       .ok)

/-- R171: VERIFY_CLEAR. -/
def verifyClear (body : List Byte) (s : State) : State × Status :=
  if body ≠ [] then (s, .badRecord)
  else if s.colour.verify.busy then (s, .busy)
  else (raise (.verifyCleared s.colour.verify.result) (onVerify (fun v => { v with result := 0 }) s), .ok)

/-- R161: a baseline cleared. -/
def Edition.blank (e : Edition) : Edition :=
  { e with layout := none, values := Vector.replicate 24 (Vector.replicate 4 none) }

/-- R161: EDITION_RESET. -/
def editionReset (body : List Byte) (s : State) : State × Status :=
  match numberBody body with
  | none => (s, .badRecord)
  | some n => if (findEdition s n).isSome then (mapEdition n Edition.blank s, .ok) else (s, .unknownRef)

/-! ## Cutter controller (R141) -/

/-- R141: CUTTER_CLEAR; the retry is a step of its own (log 1). -/
def cutterClear (body : List Byte) (s : State) : State × Status :=
  if body ≠ [] then (s, .badRecord)
  else if s.cutter.state ≠ .fault then (s, .refusedState)
  else
    let held := heldStop s
    let s := s.onCutter fun k => { k with state := .idle, cause := none, retryPending := true }
    match held with
    | some (t, c) => (raise (.cutCleared c.role t.itemId t.panel (s.path.engine == .running)) s, .ok)
    | none => (s, .ok)

/-! ## Costing unit (R180, R181) -/

/-- R180: the requested record numbers. -/
def dumpNumbers : Nat → Nat → List Nat
  | _, 0 => []
  | n, k + 1 => n :: dumpNumbers (nextNumber n) k

/-- R180: the record of a number, if the log holds it. -/
def logged (s : State) (n : Nat) : Option CostRecord := s.costing.log.find? fun r => r.number == n

/-- R180: raises the DUMP notice of a held record. -/
def dumpRecord (s : State) (n : Nat) : State :=
  match logged s n with
  | some r => raise (.costDump r) s
  | none => s

/-- R180: COST_DUMP. -/
def costDump (body : List Byte) (s : State) : State × Status :=
  match costDumpBody body with
  | none => (s, .badRecord)
  | some (first, count) =>
    let numbers := dumpNumbers first count
    (numbers.foldl dumpRecord s, if numbers.all fun n => (logged s n).isSome then .ok else .notHeld)

/-- R181: the counter dump body. -/
def counterBody (s : State) : CounterBody :=
  { channels := Vector.ofFn fun c => ((account s c).consumed, (account s c).flushed, (account s c).refilled),
    rowsFed := s.media.lifetimeRows, cuts := s.cutter.bladeCount }

/-- R181: an account's lifetime counters set to 0. -/
def Account.cleared (a : Account) : Account := { a with consumed := 0, flushed := 0, refilled := 0 }

/-- R181: every counter becomes 0. -/
def clearCounters (s : State) : State :=
  ((s.onInk fun k => { k with accounts := k.accounts.map Account.cleared }).onMedia fun m =>
    { m with lifetimeRows := 0 }).onCutter fun k => { k with bladeCount := 0 }

/-- R181: COUNTER_DUMP. -/
def counterDump (body : List Byte) (s : State) : Answer :=
  match counterDumpBody body with
  | none => answer (s, .badRecord)
  | some clear =>
    { state := if clear then clearCounters s else s, status := .ok, body := .counters (counterBody s) }

/-! ## Acting on an express record (R6) -/

/-- The owner of an express record acts on it. -/
def ownerAnswer (k : ExpressKind) (body : List Byte) (s : State) : Answer :=
  match k with
  | .statusQuery => statusQuery body s
  | .faultDump => faultDump body s
  | .engineReset => engineReset body s
  | .halt => answer (halt body s)
  | .resume => answer (resume body s)
  | .itemAbort => answer (itemAbort body s)
  | .holdRelease => answer (holdRelease body s)
  | .tableBegin => answer (tableBegin body s)
  | .tablePart => answer (tablePart body s)
  | .tableCommit => answer (tableCommit body s)
  | .rollLoad => answer (rollLoad body s)
  | .sensorVerify => answer (sensorVerify body s)
  | .verifyClear => answer (verifyClear body s)
  | .editionReset => answer (editionReset body s)
  | .cutterClear => answer (cutterClear body s)
  | .costDump => answer (costDump body s)
  | .counterDump => counterDump body s

/-- R6, R10, R14: an express record is acted on and its reply is queued. -/
def actExpress (k : ExpressKind) (tag : Byte) (body : List Byte) (s : State) : State :=
  let a := ownerAnswer k body s
  reply tag a.status a.body (captureIf a.status (goodWire k.code 1#8 tag body) body.length a.state)

/-- R6: an express record that arrives: withheld while the hold has 8 entries, acted on at once, or joined
to the hold. -/
def express (k : ExpressKind) (tag : Byte) (body : List Byte) (s : State) : State :=
  if deliveryWithheld s then s
  else if actsAtOnce s then actExpress k tag body s
  else s.onLink fun l => { l with hold := l.hold ++ [.express k tag body] }

/-- R6: an arrival reply is queued at once or joins the hold. -/
def arrivalReply (tag : Byte) (status : Status) (s : State) : State :=
  if actsAtOnce s then reply tag status .empty s
  else s.onLink fun l => { l with hold := l.hold ++ [.reply tag status] }

/-- R6: an entry that leaves the hold is acted on. -/
def actHeld (h : HoldEntry) (s : State) : State :=
  match h with
  | .express k tag body => actExpress k tag body s
  | .reply tag status => reply tag status .empty s

/-- R6: the oldest entries of the hold are acted on while fewer than 4 replies are queued; at most as many as
the hold has. Each is acted on by itself, so the run-out wait is looked at after each (R129, log 48). -/
def releaseHold : Nat → State → State
  | 0, s => s
  | n + 1, s =>
    match s.link.hold with
    | [] => s
    | h :: rest =>
      if replies s < replyPlaces then releaseHold n (keepRunOut (actHeld h (s.onLink fun l => { l with hold := rest })))
      else s

end Sys2Proof.Machine
end

