-- ==== Sys2Proof/Machine/LinkOps.lean ====
section
/-! DEFINITION. Arrivals on the job link and the return lane (01_the_job_link.md): R3, R4, R7, R8, R12. -/

namespace Sys2Proof.Machine

/-- R4: checks 1 to 5 on a whole record. -/
def headerKind (r : Record) : Option Kind :=
  match checkHeader r.kind r.flags r.reserved r.length.toNat with
  | some k => if r.length.toNat = r.body.length then some k else none
  | none => none

/-- R7: a stream record enters the intake queue, or waits on the link for room. -/
def enterIntake (k : StreamKind) (r : Record) (s : State) : State :=
  let e : IntakeEntry := { kind := k, tag := r.tag, length := r.body.length, body := r.body }
  if intakeFill s + e.occupancy ≤ intakeBytes then s.onLink fun l => { l with intake := l.intake ++ [e] } else s

/-- R3 to R7: a whole record that is not a BAND has been delivered. A stream record that fails R4 is refused at once,
whatever the free space of the intake queue (log 12). -/
def receive (r : Record) (s : State) : State :=
  if crcGood r = false then arrivalReply r.tag .linkError s
  else
    match headerKind r with
    | none => arrivalReply r.tag .badRecord (capture (recordWire r) r.length.toNat false s)
    | some (.express k) => express k r.tag r.body s
    | some (.stream k) => enterIntake k r s

/-- Is the kind byte that of a stream record (R5)? -/
def streamKind (kind : Byte) : Bool := streamKinds.any fun k => k.code == kind

/-- R3 to R8: is a whole record's delivery withheld? While the hold is full every record is. While a BAND is
coming the stream records are, as their kind says (R5); neither the kind nor the express flag of a record whose
CRC fails is used (R3). A good record of kind BAND arrives by its own rows (log 12). -/
def withheld (r : Record) (s : State) : Bool :=
  deliveryWithheld s ||
    (crcGood r && (r.kind == StreamKind.band.code || (streamBlocked s && streamKind r.kind)))

/-- R4, R8: a BAND's header has arrived; a bad one is refused at once, whatever the free space (log 12). A good one
enters the intake queue with the fixed bytes the command brings, 16 in every well-formed command (log 53). -/
def receiveBandHeader (flags tag reserved : Byte) (length : BitVec 32) (fixed : List Byte) (s : State) : State :=
  if checkHeader 0x14#8 flags reserved length.toNat = none then
    let wire := headerBytes 0x14#8 flags tag reserved length.toNat ++ fixed
    let s := s.onLink fun l => { l with rx := .dropping }
    arrivalReply tag .badRecord (capture wire length.toNat true s)
  else
    let e : IntakeEntry := { kind := .band, tag := tag, length := length.toNat, body := fixed }
    if intakeFill s + e.occupancy ≤ intakeBytes then
      s.onLink fun l => { l with intake := l.intake ++ [e], rx := .waiting }
    else s

/-- R63: a band's planes are complete. -/
def fillBand (planes : List Byte) (b : Band) : Band :=
  { b with channels := splitPlanes (b.rows * rowBytes b.columns) b.channels planes, state := .filled }

/-- R8, R58, R63: a FILLING band fails at its last byte. -/
def loseBand (band : Nat) (tag : Byte) (s : State) : State :=
  let s := arrivalReply tag .linkError s
  match findBand s band with
  | some b => abortItem b.item .bandLost s
  | none => s

/-- R8: the last byte of a BAND whose planes have been written. The fixed part counts as 16 delivered bytes, though
an ill-formed BAND_HEADER_ARRIVAL may have brought fewer (log 53). -/
def finishBand (planes : List Byte) (crc : BitVec 32) (s : State) : State :=
  match s.link.rx with
  | .filling band wire length tag =>
    let s := s.onLink fun l => { l with rx := .idle }
    if length = 16 + planes.length ∧ crc32 (wire ++ planes) = crc then mapBand band (fillBand planes) s
    else loseBand band tag s
  | _ => s

/-- R8, R14: the last byte of a BAND that was dropped. -/
def finishDropped (bytes : List Byte) (s : State) : State :=
  if s.link.rx = .dropping then captureRest bytes (s.onLink fun l => { l with rx := .idle }) else s

/-- R12: the entry that is sent next: the oldest of the highest level. -/
def nextEntry (ret : List Entry) : Option Entry :=
  let top := ret.foldl (fun m e => max m e.level) 0
  ret.find? fun e => e.level == top

/-- R12: removes the oldest entry of a level. -/
def dropEntry (level : Nat) (ret : List Entry) : List Entry := ret.eraseP fun e => e.level == level

/-- R12, R6: one entry begins to be sent; a departing reply lets held entries be acted on. -/
def sendEntry (s : State) : State :=
  match nextEntry s.link.ret with
  | none => s
  | some e =>
    let s := (s.onLink fun l => { l with ret := dropEntry e.level l.ret }).send (.upstream e)
    if e.isReply then releaseHold s.link.hold.length s else s

end Sys2Proof.Machine
end

