-- ==== Sys2Proof/Machine/MediaOps.lean ====
section
/-! DEFINITION. The media controller's own events (07_media_position_and_the_stop_list.md): rows fed (R123,
R125, R45, R132), the roll end (R120) and the run-out wait (R129). -/

namespace Sys2Proof.Machine

/-- R123: a row moves the position, or the overrun where the position stands at the first stop. -/
def Media.moveRow (m : Media) : Media :=
  let atStop := match m.stops with
    | [] => false
    | t :: _ => t.position == m.roll.position
  if atStop then { m with overrun := m.overrun + 1 }
  else { m with roll := { m.roll with position := m.roll.position + 1 } }

/-- R123: a row leaves the remaining rows; at 0 a loaded roll is out. -/
def spendRow (s : State) : State :=
  if 0 < s.media.roll.remaining then
    let s := s.onMedia fun m => { m with roll := { m.roll with remaining := m.roll.remaining - 1 } }
    if s.media.roll.remaining = 0 ∧ s.media.roll.loaded = true then
      raise (.rollOut s.media.roll.position s.media.overrun) s
    else s
  else s

/-- R45: a row is taken from the reservation of the oldest live item that has one. -/
def spendReservation (s : State) : State :=
  match s.items.live.find? fun i => decide (0 < i.reservation) with
  | some i =>
    (mapItem i.uid (fun i => { i with reservation := i.reservation - 1 }) s).onMedia fun m =>
      { m with roll := { m.roll with reserved := m.roll.reserved - 1 } }
  | none => s

/-- R125: a stray row; the third raises FEED_SLIP and pauses the engine. -/
def strayRow (s : State) : State :=
  let s := movePlan 1 (s.onMedia fun m => { m with strayRows := m.strayRows + 1 })
  if s.media.strayRows = 3 then
    pauseEngine (raise (.feedSlip
      { op := none, commanded := none, moved := 3, difference := 3, position := s.media.roll.position }) s)
  else s

/-- R123: the effects of one row fed, in the order of the rule. -/
def feedRow (s : State) : State :=
  let s := s.onMedia Media.moveRow
  let s := spendReservation (spendRow s)
  let s := s.onMedia fun m => { m with lifetimeRows := countOf 64 (m.lifetimeRows + 1) }
  if mediaMoving s then s.onMedia fun m => { m with rowsMoved := m.rowsMoved + 1 } else strayRow s

/-- R123: several rows fed, one after another. -/
def feedRows : Nat → State → State
  | 0, s => s
  | n + 1, s => feedRows n (feedRow s)

/-- R123, R137: an encoder edge. -/
def takeEdge (s : State) : State :=
  let edges := s.media.roll.edges + 1
  let d := divisor s
  let s := s.onCutter fun k => { k with lastEdge := s.now }
  let s := s.onMedia fun m => { m with roll := { m.roll with edges := edges % d } }
  feedRows (edges / d) s

/-- R120, step 2: every item in COSTING releases its media reservation. -/
def releaseCosting (s : State) : State :=
  (s.items.live.filter fun i => i.state == .costing).foldl (fun s i => releaseReservation i.uid s) s

/-- R120, step 3: the youngest live items with a reservation are aborted until the rest fits; at most as many
as are live. Answers the ids aborted, youngest first. -/
def abortYoungest : Nat → State → State × List Nat
  | 0, s => (s, [])
  | n + 1, s =>
    if s.media.roll.remaining < s.media.roll.reserved then
      match s.items.live.reverse.find? fun i => decide (0 < i.reservation) with
      | some i =>
        let more := abortYoungest n (abortItem i.uid .rollEnd s)
        (more.1, i.id :: more.2)
      | none => (s, [])
    else (s, [])

/-- R120: the roll end. -/
def rollEnd (s : State) : State :=
  let s := s.onMedia fun m => { m with
    rollEndArmed := false, roll := { m.roll with remaining := min m.roll.remaining rollEndRows } }
  let s := if s.media.roll.remaining < s.media.roll.reserved then releaseCosting s else s
  let (s, ids) := abortYoungest s.items.live.length s
  raise (.rollEnd s.media.roll.position s.media.roll.remaining s.media.roll.reserved ids) s

/-- R120: the roll-end sensor asserts. -/
def assertRollEnd (s : State) : State :=
  let s := s.onMedia fun m => { m with rollEndLine := true }
  if s.media.roll.loaded = true ∧ s.media.rollEndArmed = true then rollEnd s else s

/-- R120: the roll-end sensor is released. -/
def releaseRollEnd (s : State) : State :=
  s.onMedia fun m => { m with rollEndLine := false, rollEndArmed := true }

/-- R129: the run-out wait starts where every condition holds and it is idle. -/
def startRunOut (s : State) : State :=
  match s.media.runOut, s.tables.mediaProfile with
  | none, some p =>
    if runOutReady s then s.onMedia fun m => { m with runOut := some (s.now + BitVec.ofNat 32 p.runOutDelay) } else s
  | _, _ => s

/-- R129: the not-before time passes with the wait still running. -/
def endRunOut (s : State) : State :=
  match s.media.runOut with
  | some t => if runOutReady s = true ∧ passed s.now t = true then queueRunOut s else s
  | none => s

end Sys2Proof.Machine
end

