-- ==== Sys2Proof/Machine/SlotOps.lean ====
section
/-! DEFINITION. The slot lines and tag exchanges (06_the_ink_station.md): seating and removal (R100, R101),
level sense (R98, R108), tag reads (R99, R102), the kind check (R103) and tag writes (R110). -/

namespace Sys2Proof.Machine

/-- Sets a detect line of a slot (R98). -/
def setDetect (line : DetectLine) (v : Bool) (t : Slot) : Slot :=
  match line with
  | .d1 => { t with d1 := v }
  | .d2 => { t with d2 := v }

/-- The level of a detect line of a slot. -/
def Slot.detect (line : DetectLine) (t : Slot) : Bool :=
  match line with
  | .d1 => t.d1
  | .d2 => t.d2

/-- A cartridge that is in the slot and past its seating (R101). -/
def Cartridge.inSlot (k : Cartridge) : Bool := k.state != .absent && k.state != .seating

/-- R100, R101: a released detect line asserts. With both asserted a pending removal is cancelled, and the seating
debounce runs from the moment both came to be. -/
def assertDetect (c : Chan) (line : DetectLine) (s : State) : State :=
  if (slot s c).detect line then s
  else
    let s := mapSlot c (setDetect line true) s
    let t := slot s c
    let s := if t.d1 = true ∧ t.d2 = true then mapCart c (fun k => { k with removal := none }) s else s
    assertSeat c s

/-- R100, R101: an asserted detect line is released. -/
def releaseDetect (c : Chan) (line : DetectLine) (s : State) : State :=
  if (slot s c).detect line = false then s
  else
    let s := mapSlot c (fun t => { setDetect line false t with bothSince := none }) s
    let k := (slot s c).cart
    if k.state = .seating then moveCart c .absent .unseated s
    else if k.inSlot = true ∧ k.removal = none then mapCart c (fun k => { k with removal := some s.now }) s
    else s

/-- R100, R102: both lines have been held for 250 ms; SEATING to READING carries the cause SEATED (log 45). -/
def seatDebounced (c : Chan) (s : State) : State :=
  match (slot s c).bothSince with
  | some t =>
    if (slot s c).cart.state = .seating ∧ passed s.now (t + seatMs) = true then
      sendRead c (moveCart c .reading .seated s)
    else s
  | none => s

/-- R101: the removal is taken. -/
def removeCart (c : Chan) (s : State) : State :=
  let t := slot s c
  match t.cart.removal with
  | some r =>
    if t.cart.inSlot = true ∧ (t.d1 && t.d2) = false ∧ passed s.now (r + seatMs) = true then
      let s := if t.cart.placed then listCart c s else s
      raiseCart c t.cart.state .removed (mapCart c (fun _ => Cartridge.cleared) s)
    else s
  | none => s

/-- R98: the level lines of a slot change; another combination starts its filter anew. -/
def changeLevel (c : Chan) (l1 l2 : Bool) (s : State) : State :=
  let t := slot s c
  if t.l1 = l1 ∧ t.l2 = l2 then s
  else mapSlot c (fun t => { t with l1 := l1, l2 := l2, levelSince := s.now }) s

/-- R98, R108: a combination that has held for 100 ms becomes the sensed level. -/
def senseLevel (c : Chan) (s : State) : State :=
  let t := slot s c
  let level := sensedOf t.l1 t.l2
  if passed s.now (t.levelSince + levelMs) = true ∧ t.sensed ≠ level then
    applySensed c (mapSlot c (fun t => { t with sensed := level }) s)
  else s

/-- R102: an attempt fails: a new request below 3 attempts, else TAG_FAULT. -/
def failRead (c : Chan) (s : State) : State :=
  let s := mapCart c (fun k => { k with readSince := none }) s
  if (slot s c).cart.readAttempts < 3 then sendRead c s else rejectCart c .tagFault .readFailed s

/-- R102: an attempt succeeds. The kind check is a step of its own (log 1). A remaining volume above the fill is refused
with the cause READ (log 39). -/
def acceptRead (c : Chan) (t : TagContents) (s : State) : State :=
  let s := mapCart c (fun k => { k with contents := some t, readSince := none }) s
  if t.fill.toNat < t.remaining.toNat then rejectCart c .tagFault .read s else s

/-- R99, R102: the whole answer of a tag read arrives. It counts as that of the request in progress: the tag line tells
no attempt from another, so an answer to an attempt that has failed, or was abandoned at a removal, counts as the newer
one's where it comes while that is in progress (log 50). -/
def answerRead (c : Chan) (t : TagContents) (crcGood : Bool) (s : State) : State :=
  let k := (slot s c).cart
  match k.readSince with
  | some since =>
    if k.state = .reading ∧ elapsedMs since s.now ≤ tagReadMs.toNat then
      if crcGood then acceptRead c t s else failRead c s
    else s
  | none => s

/-- R99, R102: a tag read is incomplete at 100 ms. -/
def timeoutRead (c : Chan) (s : State) : State :=
  let k := (slot s c).cart
  match k.readSince with
  | some since => if k.state = .reading ∧ passed s.now (since + tagReadMs) = true then failRead c s else s
  | none => s

/-- R103, R104: the kind check of a read cartridge, with the size key as the lines stand. -/
def kindCheck (c : Chan) (k1 k2 : Bool) (s : State) : State :=
  let k := (slot s c).cart
  match k.contents with
  | some t =>
    if k.state = .reading ∧ k.readSince = none ∧ mapReadable s = true then checkKind c (keyClass k1 k2) t s else s
  | none => s

/-- R112: the end of a write that a cartridge back in READING waited for; its outcome changes nothing else. -/
def endOldWrite (c : Chan) (s : State) : State := sendRead c (mapCart c (fun k => { k with write := none }) s)

/-- R110: what a success leaves in the record. -/
def Cartridge.wrote (value : Nat) (k : Cartridge) : Cartridge :=
  { k with write := none, lastMl := ceilDiv value nlPerMl, writeFailures := 0, writeDue := false }

/-- R110: what a failure leaves in the record. -/
def Cartridge.missedWrite (k : Cartridge) : Cartridge :=
  { k with write := none, writeFailures := k.writeFailures + 1, writeDue := false }

/-- R110: a confirmation within 50 ms. It counts as that of the write in progress, though an earlier write that has
failed may have called it forth (log 50). -/
def confirmWrite (c : Chan) (s : State) : State :=
  let k := (slot s c).cart
  match k.write with
  | some w =>
    if elapsedMs w.since s.now ≤ tagWriteMs.toNat then
      if k.state = .reading then endOldWrite c s else writeTest c (mapCart c (Cartridge.wrote w.value) s)
    else s
  | none => s

/-- R110: a write is unconfirmed at 50 ms; the third failure in a row stops the writing. -/
def timeoutWrite (c : Chan) (s : State) : State :=
  let k := (slot s c).cart
  match k.write with
  | some w =>
    if passed s.now (w.since + tagWriteMs) then
      if k.state = .reading then endOldWrite c s
      else
        let s := mapCart c Cartridge.missedWrite s
        if (slot s c).cart.writeFailures = 3 then raise (.tagWriteFailed c) s else writeTest c s
    else s
  | none => s

end Sys2Proof.Machine
end

