-- ==== Sys2Proof/Machine/Starts.lean ====
section
/-! DEFINITION. The meanings of the starting points (00_scope.md, Resets): POWER_ON, LINK_RESET, ENGINE_RESET_ALL and
ENGINE_RESET_STREAM. -/

namespace Sys2Proof.Machine

/-- POWER_ON (R18): every block takes its power-on values, the run-time counter starting at 0. -/
def execPowerOn (s : State) : Host.Outcome State Fault Refusal := command (restartAll 0#32) s

/-- LINK_RESET (R19). -/
def execLinkReset (s : State) : Host.Outcome State Fault Refusal := command (linkReset false) s

/-- ENGINE_RESET_ALL (R17, R18): an express ENGINE_RESET whose first body byte is 2. -/
def execEngineResetAll (tag : Byte) (rest : List Byte) (s : State) : Host.Outcome State Fault Refusal :=
  command (express .engineReset tag (2#8 :: rest)) s

/-- ENGINE_RESET_STREAM (R17, R19): an express ENGINE_RESET whose first body byte is 1. -/
def execEngineResetStream (tag : Byte) (rest : List Byte) (s : State) : Host.Outcome State Fault Refusal :=
  command (express .engineReset tag (1#8 :: rest)) s

end Sys2Proof.Machine
end

