-- ==== Sys2Proof/Machine/Links.lean ====
section
/-! DEFINITION. The meanings of the job link events (01_the_job_link.md): RECORD_ARRIVAL, BAND_HEADER_ARRIVAL,
BAND_LAST_BYTE, DROPPED_BAND_LAST_BYTE and RETURN_ENTRY_SEND. A delivery that is withheld waits on the
link: it changes nothing and may be sent again (log 12). -/

namespace Sys2Proof.Machine

/-- RECORD_ARRIVAL (R3 to R7): a whole record other than a BAND is delivered. -/
def execRecordArrival (r : Record) (s : State) : Host.Outcome State Fault Refusal :=
  command (fun s => if withheld r s then s else receive r s) s

/-- BAND_HEADER_ARRIVAL (R4, R8): a BAND's header and fixed part are delivered. -/
def execBandHeaderArrival (flags tag reserved : Byte) (length : BitVec 32) (fixed : List Byte) (s : State) :
    Host.Outcome State Fault Refusal :=
  command (fun s => if deliveryWithheld s || streamBlocked s then s
    else receiveBandHeader flags tag reserved length fixed s) s

/-- BAND_LAST_BYTE (R8, R63): the planes and the CRC of an accepted BAND have arrived (log 13). -/
def execBandLastByte (planes : List Byte) (crc : BitVec 32) (s : State) : Host.Outcome State Fault Refusal :=
  command (fun s => if deliveryWithheld s then s else finishBand planes crc s) s

/-- DROPPED_BAND_LAST_BYTE (R4, R8, R14): the rest of a BAND that is dropped has arrived. -/
def execDroppedBandLastByte (rest : List Byte) (s : State) : Host.Outcome State Fault Refusal :=
  command (fun s => if deliveryWithheld s then s else finishDropped rest s) s

/-- RETURN_ENTRY_SEND (R12, R6): the return lane is free. -/
def execReturnEntrySend (s : State) : Host.Outcome State Fault Refusal := command sendEntry s

end Sys2Proof.Machine
end

