-- ==== Sys2Proof/Machine/Takes.lean ====
section
/-! DEFINITION. The meanings of the takes of the intake (R9), one per stream kind. -/

namespace Sys2Proof.Machine

/-- JOB_OPEN (R40). -/
def execJobOpen (s : State) : Host.Outcome State Fault Refusal :=
  command (take .jobOpen canOpenJob fun e s => answerTake e (judgeJobOpen e.body s)) s

/-- JOB_CLOSE (R41, R42). -/
def execJobClose (s : State) : Host.Outcome State Fault Refusal :=
  command (take .jobClose always fun e s => answerTake e (judgeJobClose e.body s)) s

/-- ITEM_OPEN (R43, R44, R159, R174). -/
def execItemOpen (s : State) : Host.Outcome State Fault Refusal :=
  command (take .itemOpen canOpenItem fun e s => answerTake e (judgeItemOpen e.body s)) s

/-- ITEM_CLOSE (R51). -/
def execItemClose (s : State) : Host.Outcome State Fault Refusal :=
  command (take .itemClose canCloseItem fun e s => answerTake e (judgeItemClose e.body s)) s

/-- BAND (R62, R47, R48, R49, R63). -/
def execBand (s : State) : Host.Outcome State Fault Refusal := command (take .band canTakeBand judgeBand) s

/-- FEED (R70). -/
def execFeed (s : State) : Host.Outcome State Fault Refusal := command (take .feed canTakeOp judgeFeed) s

/-- CLEAN (R71). -/
def execClean (s : State) : Host.Outcome State Fault Refusal :=
  command (take .clean canTakeOp fun e s => answerTake e (judgeClean e.body s)) s

/-- TABLE_LOAD (R29). -/
def execTableLoad (s : State) : Host.Outcome State Fault Refusal :=
  command (take .tableLoad canLoadTable fun e s => answerTake e (judgeTableLoad e.body s)) s

end Sys2Proof.Machine
end

