-- ==== Sys2Proof/Machine/Express.lean ====
section
/-! DEFINITION. The meanings of the express records (R6 and each owner's rule), and the expiry of a staged load.
The operand is the record's body, less a byte the row fixes (log 14). -/

namespace Sys2Proof.Machine

/-- STATUS_QUERY (R16). -/
def execStatusQuery (tag : Byte) (body : List Byte) (s : State) : Host.Outcome State Fault Refusal :=
  command (express .statusQuery tag body) s

/-- FAULT_DUMP (R15). -/
def execFaultDump (tag : Byte) (body : List Byte) (s : State) : Host.Outcome State Fault Refusal :=
  command (express .faultDump tag body) s

/-- HALT (R79). -/
def execHalt (tag : Byte) (body : List Byte) (s : State) : Host.Outcome State Fault Refusal :=
  command (express .halt tag body) s

/-- RESUME (R80). -/
def execResume (tag : Byte) (body : List Byte) (s : State) : Host.Outcome State Fault Refusal :=
  command (express .resume tag body) s

/-- ITEM_ABORT (R57). -/
def execItemAbort (tag : Byte) (body : List Byte) (s : State) : Host.Outcome State Fault Refusal :=
  command (express .itemAbort tag body) s

/-- TABLE_BEGIN (R31). -/
def execTableBegin (tag : Byte) (body : List Byte) (s : State) : Host.Outcome State Fault Refusal :=
  command (express .tableBegin tag body) s

/-- TABLE_PART (R32). -/
def execTablePart (tag : Byte) (body : List Byte) (s : State) : Host.Outcome State Fault Refusal :=
  command (express .tablePart tag body) s

/-- TABLE_COMMIT (R33). -/
def execTableCommit (tag : Byte) (body : List Byte) (s : State) : Host.Outcome State Fault Refusal :=
  command (express .tableCommit tag body) s

/-- ROLL_LOAD (R119). -/
def execRollLoad (tag : Byte) (body : List Byte) (s : State) : Host.Outcome State Fault Refusal :=
  command (express .rollLoad tag body) s

/-- VERIFY_CLEAR (R171). -/
def execVerifyClear (tag : Byte) (body : List Byte) (s : State) : Host.Outcome State Fault Refusal :=
  command (express .verifyClear tag body) s

/-- EDITION_RESET (R161). -/
def execEditionReset (tag : Byte) (body : List Byte) (s : State) : Host.Outcome State Fault Refusal :=
  command (express .editionReset tag body) s

/-- CUTTER_CLEAR (R141). -/
def execCutterClear (tag : Byte) (body : List Byte) (s : State) : Host.Outcome State Fault Refusal :=
  command (express .cutterClear tag body) s

/-- COST_DUMP (R180). -/
def execCostDump (tag : Byte) (body : List Byte) (s : State) : Host.Outcome State Fault Refusal :=
  command (express .costDump tag body) s

/-- SENSOR_VERIFY_WHITE (R167): test code 0x2. -/
def execSensorVerifyWhite (tag : Byte) (rest : List Byte) (s : State) : Host.Outcome State Fault Refusal :=
  command (express .sensorVerify tag (2#8 :: rest)) s

/-- SENSOR_VERIFY_DARK (R167): test code 0x3. -/
def execSensorVerifyDark (tag : Byte) (rest : List Byte) (s : State) : Host.Outcome State Fault Refusal :=
  command (express .sensorVerify tag (3#8 :: rest)) s

/-- SENSOR_VERIFY_LAMP (R167): test code 0x4. -/
def execSensorVerifyLamp (tag : Byte) (rest : List Byte) (s : State) : Host.Outcome State Fault Refusal :=
  command (express .sensorVerify tag (4#8 :: rest)) s

/-- SENSOR_VERIFY_FULL (R167): test code 0x5. -/
def execSensorVerifyFull (tag : Byte) (rest : List Byte) (s : State) : Host.Outcome State Fault Refusal :=
  command (express .sensorVerify tag (5#8 :: rest)) s

/-- COUNTER_DUMP_READ (R181): clear flag 0. -/
def execCounterDumpRead (tag : Byte) (rest : List Byte) (s : State) : Host.Outcome State Fault Refusal :=
  command (express .counterDump tag (0#8 :: rest)) s

/-- COUNTER_DUMP_CLEAR (R181): clear flag 1. -/
def execCounterDumpClear (tag : Byte) (rest : List Byte) (s : State) : Host.Outcome State Fault Refusal :=
  command (express .counterDump tag (1#8 :: rest)) s

/-- HOLD_RELEASE_CONTINUE (R54): action byte 0. -/
def execHoldReleaseContinue (tag item : Byte) (rest : List Byte) (s : State) : Host.Outcome State Fault Refusal :=
  command (express .holdRelease tag (item :: 0#8 :: rest)) s

/-- HOLD_RELEASE_ABORT (R54): action byte 1. -/
def execHoldReleaseAbort (tag item : Byte) (rest : List Byte) (s : State) : Host.Outcome State Fault Refusal :=
  command (express .holdRelease tag (item :: 1#8 :: rest)) s

/-- LOCK_EXPIRED (R34). -/
def execLockExpired (s : State) : Host.Outcome State Fault Refusal := command expireLock s

end Sys2Proof.Machine
end

