-- ==== Sys2Proof/Machine/Paths.lean ====
section
/-! DEFINITION. The meanings of the band path's own steps (04_the_band_path.md, R56): counts, ink requests, entry into the
head operation queue and the arbiter's choice. -/

namespace Sys2Proof.Machine

/-- COUNT_START (R64): the count unit starts the count of the next FILLED band. -/
def execCountStart (s : State) : Host.Outcome State Fault Refusal :=
  command (fun s =>
    match s.path.count, countNext s, s.tables.drop with
    | none, some b, some drop =>
      if locked s .drop then s
      else (mapBand b.serial (fun b => { b with state := .counting }) s).onPath fun p =>
        { p with count := some { band := b.serial, drop := drop } }
    | _, _, _ => s) s

/-- COUNT_COMPLETION (R65, R147): the count in progress ends. -/
def execCountCompletion (s : State) : Host.Outcome State Fault Refusal :=
  command (fun s =>
    match s.path.count with
    | some j => completeCount j s
    | none => s) s

/-- INK_REQUEST (R66, R86, R115): the asker asks, where it is ready and CHANNEL_MAP is not locked (R35). -/
def execInkRequest (s : State) : Host.Outcome State Fault Refusal :=
  command (fun s =>
    match asker s with
    | some r => if r.ready = true ∧ locked s .channelMap = false then answerRequest r s else s
    | none => s) s

/-- QUEUE_ENTRY (R68, R69): one operation enters the head operation queue (log 29). -/
def execQueueEntry (s : State) : Host.Outcome State Fault Refusal := command enterQueue s

/-- ABORT_FEED_ENTRY (R56): an abort FEED that waits obtains a general place. -/
def execAbortFeedEntry (s : State) : Host.Outcome State Fault Refusal := command enterAbortFeed s

/-- ABORT_PANEL_CLOSE (R56, R37): the panel close of an abort that waited on a MEDIA_PROFILE lock. -/
def execAbortPanelClose (s : State) : Host.Outcome State Fault Refusal :=
  command (fun s =>
    match s.items.live.find? fun i => i.pendingClose.isSome with
    | some i =>
      match i.pendingClose with
      | some t => if locked s .mediaProfile then s else closePending i.uid t s
      | none => s
    | none => s) s

/-- OFFER (R72, R73, R126, R168): the arbiter's choice while the head link is IDLE. -/
def execOffer (s : State) : Host.Outcome State Fault Refusal := command arbitrate s

end Sys2Proof.Machine
end

