-- ==== Sys2Proof/Machine/Heads.lean ====
section
/-! DEFINITION. The meanings of the head link's messages and deadlines (4.5, 4.6). A message that carries another
operation id, or that finds the link IDLE, is ignored. -/

namespace Sys2Proof.Machine

/-- What a message of the operation in flight does. -/
def onFlight (opId : Nat) (f : Flight → State → State) (s : State) : State :=
  match s.path.flight with
  | some k => if k.opId = opId then f k s else s
  | none => s

/-- ACCEPT (R73): an OFFERING link becomes RUNNING with the running timer at 0. -/
def execAccept (opId : Nat) (s : State) : Host.Outcome State Fault Refusal :=
  command (onFlight opId fun f s =>
    match f.phase with
    | .offering _ _ =>
      s.onPath fun p => { p with flight := some { f with phase := .running s.now, elapsed := 0 } }
    | .running _ | .pausedAt => s) s

/-- REFUSE (R73). -/
def execRefuse (opId : Nat) (s : State) : Host.Outcome State Fault Refusal :=
  command (onFlight opId fun f s =>
    match f.phase with
    | .offering n _ => offerAgain f n s
    | .running _ | .pausedAt => s) s

/-- ANSWER_DEADLINE (R73): the answer deadline of an OFFER has passed. -/
def execAnswerDeadline (s : State) : Host.Outcome State Fault Refusal :=
  command (fun s =>
    match s.path.flight with
    | some f =>
      match f.phase with
      | .offering n t => if passed s.now t then offerAgain f n s else s
      | .running _ | .pausedAt => s
    | none => s) s

/-- RUNNING_TIMER_LIMIT (R74, R77): the running timer has reached its limit (log 5). -/
def execRunningTimerLimit (s : State) : Host.Outcome State Fault Refusal :=
  command (fun s =>
    match s.path.flight with
    | some f =>
      match f.phase with
      | .running _ => if runLimit f.work.kind ≤ f.timer s.now then headFault .timeout s else s
      | .offering _ _ | .pausedAt => s
    | none => s) s

/-- PAUSED (R74, R128). -/
def execPaused (opId point : Nat) (s : State) : Host.Outcome State Fault Refusal :=
  command (onFlight opId fun f s =>
    match f.phase with
    | .running _ => pauseAt f point s
    | .offering _ _ | .pausedAt => headFault .protocol s) s

/-- READING (R74, R150, R168): handed to the colour check unit at a pause, and while a VERIFY runs. -/
def execReading (opId patch : Nat) (filter : Filter) (raw : BitVec 16) (s : State) : Host.Outcome State Fault Refusal :=
  command (onFlight opId fun f s =>
    match f.phase with
    | .offering _ _ => headFault .protocol s
    | .running _ =>
      match f.work with
      | .verify p => onVerify (Verify.take p filter raw.toNat) s
      | .band _ | .op _ => s
    | .pausedAt => takeReading patch filter raw.toNat s) s

/-- SCAN_DONE (R74, R151): ends a scan in progress at a pause; it has no effect on a VERIFY (R168). -/
def execScanDone (opId : Nat) (s : State) : Host.Outcome State Fault Refusal :=
  command (onFlight opId fun f s =>
    match f.phase with
    | .offering _ _ => headFault .protocol s
    | .running _ => s
    | .pausedAt => endScan .done s) s

/-- DONE (R75): ends the operation in flight once every pause point has been reported. -/
def execDone (opId : Nat) (s : State) : Host.Outcome State Fault Refusal :=
  command (onFlight opId fun f s =>
    match f.phase with
    | .running _ => if f.reported = f.points.length then finishDone f s else headFault .protocol s
    | .offering _ _ | .pausedAt => headFault .protocol s) s

/-- ABORTED (R76). -/
def execAborted (opId rows : Nat) (s : State) : Host.Outcome State Fault Refusal :=
  command (onFlight opId fun f s =>
    match f.phase with
    | .offering _ _ => headFault .protocol s
    | .running _ | .pausedAt => finishAborted f rows s) s

/-- ENGINE_FAULT (R78), by print engine state. -/
def execEngineFault (s : State) : Host.Outcome State Fault Refusal :=
  command (fun s =>
    match s.path.engine with
    | .waitingEngine =>
      raise (.headFault .engineFault none)
        (s.onPath fun p => { p with engine := .fault, readySeen := false })
    | .running | .paused => headFault .engineFault s
    | .fault => s.onPath fun p => { p with readySeen := false }) s

/-- ENGINE_READY (R78), by print engine state. -/
def execEngineReady (s : State) : Host.Outcome State Fault Refusal :=
  command (fun s =>
    match s.path.engine with
    | .waitingEngine => raise .headReady (s.onPath fun p => { p with engine := .running })
    | .fault => raise .headReady (s.onPath fun p => { p with readySeen := true })
    | .running | .paused => s) s

end Sys2Proof.Machine
end

