-- ==== Sys2Proof/Machine/Colours.lean ====
section
/-! DEFINITION. The meanings of the colour check unit's own steps (09_colour_checks.md): stops for waiting strips, the
start and deadline of a scan, and the verdict computation. -/

namespace Sys2Proof.Machine

/-- MEASURE_STOP_PLACEMENT (R147): the stop of the oldest waiting strip finds a place. -/
def execMeasureStopPlacement (s : State) : Host.Outcome State Fault Refusal :=
  command (fun s =>
    match s.colour.strips with
    | t :: rest =>
      if s.media.stops.length < stopPlaces then
        placeStrip t.band t.stop (s.onColour fun c => { c with strips := rest })
      else s
    | [] => s) s

/-- SCAN_START (R148): the scan of a dispatched measure stop starts while the scan record is FREE. -/
def execScanStart (s : State) : Host.Outcome State Fault Refusal :=
  command (fun s =>
    match s.colour.measure, s.colour.scan, s.tables.patch, s.path.flight with
    | some uid, none, some patch, some f =>
      match findStop s uid with
      | some t =>
        match t.kind with
        | .measure m => if pausedStop s = some uid then startScan t m f.opId patch s else s
        | .cut _ => s
      | none => s
    | _, _, _, _ => s) s

/-- SCAN_DEADLINE (R151): the scan deadline has passed. -/
def execScanDeadline (s : State) : Host.Outcome State Fault Refusal :=
  command (fun s =>
    match s.colour.scan with
    | some c =>
      match c.deadline with
      | some t => if passed s.now t then endScan .timeout s else s
      | none => s
    | none => s) s

/-- VERDICT_COMPUTATION (R153 to R160): an ENDED scan is judged while neither PATCH nor TOLERANCE is
locked. -/
def execVerdictComputation (s : State) : Host.Outcome State Fault Refusal :=
  command (fun s =>
    match s.colour.scan, s.tables.patch, s.tables.tolerance with
    | some c, some patch, some tolerance =>
      if c.ended.isSome = true ∧ locked s .patch = false ∧ locked s .tolerance = false then
        computeVerdict c patch tolerance s
      else s
    | _, _, _ => s) s

end Sys2Proof.Machine
end

