-- ==== Sys2Proof/Machine/Medias.lean ====
section
/-! DEFINITION. The meanings of the feed encoder, the roll-end sensor and the run-out wait
(07_media_position_and_the_stop_list.md). -/

namespace Sys2Proof.Machine

/-- ENCODER_EDGE (R123, R125, R45). -/
def execEncoderEdge (s : State) : Host.Outcome State Fault Refusal := command takeEdge s

/-- ROLL_END_ASSERT (R120). -/
def execRollEndAssert (s : State) : Host.Outcome State Fault Refusal := command assertRollEnd s

/-- ROLL_END_RELEASE (R120). -/
def execRollEndRelease (s : State) : Host.Outcome State Fault Refusal := command releaseRollEnd s

/-- RUN_OUT_WAIT_START (R129). -/
def execRunOutWaitStart (s : State) : Host.Outcome State Fault Refusal := command startRunOut s

/-- RUN_OUT_FEED (R129). -/
def execRunOutFeed (s : State) : Host.Outcome State Fault Refusal := command endRunOut s

end Sys2Proof.Machine
end

