-- ==== Sys2Proof/Machine/Cutters.lean ====
section
/-! DEFINITION. The meanings of the cutter controller's steps (08_the_cutter.md). -/

namespace Sys2Proof.Machine

/-- CUT_START (R137, R139): WAITING with every condition of R137. -/
def execCutStart (s : State) : Host.Outcome State Fault Refusal :=
  command (fun s =>
    match heldStop s with
    | some (t, c) => if s.cutter.state = .waiting ∧ cutAllowed s t c = true then startCut s else s
    | none => s) s

/-- CUT_DONE (R139, R143): completes the cut before its deadline has passed; ignored otherwise. -/
def execCutDone (s : State) : Host.Outcome State Fault Refusal :=
  command (fun s =>
    match heldStop s, s.cutter.deadline with
    | some (t, c), some d =>
      if s.cutter.state = .cutting ∧ passed s.now d = false then completeCut t c s else s
    | _, _ => s) s

/-- CUT_JAM (R140). -/
def execCutJam (s : State) : Host.Outcome State Fault Refusal :=
  command (fun s => if s.cutter.state = .cutting then failCut .jam s else s) s

/-- CUT_DEADLINE (R140). -/
def execCutDeadline (s : State) : Host.Outcome State Fault Refusal :=
  command (fun s =>
    match s.cutter.deadline with
    | some d => if s.cutter.state = .cutting ∧ passed s.now d = true then failCut .timeout s else s
    | none => s) s

/-- CUTTER_RETRY (R141, R144): a pending retry begins while the print engine is RUNNING. -/
def execCutterRetry (s : State) : Host.Outcome State Fault Refusal :=
  command (fun s =>
    match s.cutter.held with
    | some uid =>
      if s.cutter.state = .idle ∧ s.cutter.retryPending = true ∧ s.path.engine = .running then beginRetry uid s
      else s
    | none => s) s

end Sys2Proof.Machine
end

