-- ==== Sys2Proof/Machine/Slots.lean ====
section
/-! DEFINITION. The meanings of the slot lines and the tag exchanges (06_the_ink_station.md). -/

namespace Sys2Proof.Machine

/-- DETECT_LINE_ASSERT (R100, R101). -/
def execDetectLineAssert (c : Chan) (line : DetectLine) (s : State) : Host.Outcome State Fault Refusal :=
  command (assertDetect c line) s

/-- DETECT_LINE_RELEASE (R100, R101). -/
def execDetectLineRelease (c : Chan) (line : DetectLine) (s : State) : Host.Outcome State Fault Refusal :=
  command (releaseDetect c line) s

/-- SEATING_DEBOUNCE (R100, R102). -/
def execSeatingDebounce (c : Chan) (s : State) : Host.Outcome State Fault Refusal := command (seatDebounced c) s

/-- REMOVAL (R101, R111). -/
def execRemoval (c : Chan) (s : State) : Host.Outcome State Fault Refusal := command (removeCart c) s

/-- LEVEL_SENSE_LINE_CHANGE (R98). -/
def execLevelSenseLineChange (c : Chan) (l1 l2 : Bool) (s : State) : Host.Outcome State Fault Refusal :=
  command (changeLevel c l1 l2) s

/-- SENSED_LEVEL_CHANGE (R98, R108). -/
def execSensedLevelChange (c : Chan) (s : State) : Host.Outcome State Fault Refusal := command (senseLevel c) s

/-- TAG_READ_ANSWER (R99, R102). -/
def execTagReadAnswer (c : Chan) (t : TagContents) (crcGood : Bool) (s : State) : Host.Outcome State Fault Refusal :=
  command (answerRead c t crcGood) s

/-- TAG_READ_TIMEOUT (R99, R102). -/
def execTagReadTimeout (c : Chan) (s : State) : Host.Outcome State Fault Refusal := command (timeoutRead c) s

/-- KIND_CHECK (R103 to R106), with the size key lines as they stand (R98). -/
def execKindCheck (c : Chan) (k1 k2 : Bool) (s : State) : Host.Outcome State Fault Refusal := command (kindCheck c k1 k2) s

/-- TAG_WRITE_CONFIRM (R110). -/
def execTagWriteConfirm (c : Chan) (s : State) : Host.Outcome State Fault Refusal := command (confirmWrite c) s

/-- TAG_WRITE_TIMEOUT (R110). -/
def execTagWriteTimeout (c : Chan) (s : State) : Host.Outcome State Fault Refusal := command (timeoutWrite c) s

end Sys2Proof.Machine
end

