-- ==== Sys2Proof/Machine/Costs.lean ====
section
/-! DEFINITION. The meanings of the costing unit's steps (11_costing.md). -/

namespace Sys2Proof.Machine

/-- ITEM_PRICING (R173, R178): the oldest item of the costing queue is priced. -/
def execItemPricing (s : State) : Host.Outcome State Fault Refusal :=
  command (fun s =>
    match s.costing.queue with
    | uid :: _ => if priceReadable s then priceItem uid s else s
    | [] => s) s

/-- JOB_PRICING (R179): the oldest job of the job pricing queue is priced. -/
def execJobPricing (s : State) : Host.Outcome State Fault Refusal :=
  command (fun s =>
    match s.costing.jobQueue with
    | n :: _ => if priceReadable s = true ∧ s.costing.queue = [] then priceJob n s else s
    | [] => s) s

end Sys2Proof.Machine
end

