-- ==== Sys2Proof/Machine/Dispatch.lean ====
section
/-! DEFINITION. The dispatch: one arm per command of the opcode table, each one direct call of its meaning. -/

namespace Sys2Proof.Machine

/-- The effect of a command on everything but the queue. -/
def exec (i : Instr) (s : State) : Host.Outcome State Fault Refusal :=
  match i with
  | .powerOn => Sys2Proof.Machine.execPowerOn s
  | .linkReset => Sys2Proof.Machine.execLinkReset s
  | .recordArrival r => Sys2Proof.Machine.execRecordArrival r s
  | .bandHeaderArrival flags tag reserved length fixed => Sys2Proof.Machine.execBandHeaderArrival flags tag reserved length fixed s
  | .bandLastByte planes crc => Sys2Proof.Machine.execBandLastByte planes crc s
  | .returnEntrySend => Sys2Proof.Machine.execReturnEntrySend s
  | .jobOpen => Sys2Proof.Machine.execJobOpen s
  | .jobClose => Sys2Proof.Machine.execJobClose s
  | .itemOpen => Sys2Proof.Machine.execItemOpen s
  | .itemClose => Sys2Proof.Machine.execItemClose s
  | .band => Sys2Proof.Machine.execBand s
  | .feed => Sys2Proof.Machine.execFeed s
  | .clean => Sys2Proof.Machine.execClean s
  | .tableLoad => Sys2Proof.Machine.execTableLoad s
  | .statusQuery tag body => Sys2Proof.Machine.execStatusQuery tag body s
  | .faultDump tag body => Sys2Proof.Machine.execFaultDump tag body s
  | .engineResetAll tag rest => Sys2Proof.Machine.execEngineResetAll tag rest s
  | .engineResetStream tag rest => Sys2Proof.Machine.execEngineResetStream tag rest s
  | .halt tag body => Sys2Proof.Machine.execHalt tag body s
  | .resume tag body => Sys2Proof.Machine.execResume tag body s
  | .itemAbort tag body => Sys2Proof.Machine.execItemAbort tag body s
  | .holdReleaseContinue tag item rest => Sys2Proof.Machine.execHoldReleaseContinue tag item rest s
  | .holdReleaseAbort tag item rest => Sys2Proof.Machine.execHoldReleaseAbort tag item rest s
  | .tableBegin tag body => Sys2Proof.Machine.execTableBegin tag body s
  | .tablePart tag body => Sys2Proof.Machine.execTablePart tag body s
  | .tableCommit tag body => Sys2Proof.Machine.execTableCommit tag body s
  | .lockExpired => Sys2Proof.Machine.execLockExpired s
  | .rollLoad tag body => Sys2Proof.Machine.execRollLoad tag body s
  | .sensorVerifyWhite tag rest => Sys2Proof.Machine.execSensorVerifyWhite tag rest s
  | .sensorVerifyDark tag rest => Sys2Proof.Machine.execSensorVerifyDark tag rest s
  | .sensorVerifyLamp tag rest => Sys2Proof.Machine.execSensorVerifyLamp tag rest s
  | .sensorVerifyFull tag rest => Sys2Proof.Machine.execSensorVerifyFull tag rest s
  | .verifyClear tag body => Sys2Proof.Machine.execVerifyClear tag body s
  | .editionReset tag body => Sys2Proof.Machine.execEditionReset tag body s
  | .cutterClear tag body => Sys2Proof.Machine.execCutterClear tag body s
  | .costDump tag body => Sys2Proof.Machine.execCostDump tag body s
  | .counterDumpRead tag rest => Sys2Proof.Machine.execCounterDumpRead tag rest s
  | .counterDumpClear tag rest => Sys2Proof.Machine.execCounterDumpClear tag rest s
  | .countStart => Sys2Proof.Machine.execCountStart s
  | .countCompletion => Sys2Proof.Machine.execCountCompletion s
  | .measureStopPlacement => Sys2Proof.Machine.execMeasureStopPlacement s
  | .inkRequest => Sys2Proof.Machine.execInkRequest s
  | .queueEntry => Sys2Proof.Machine.execQueueEntry s
  | .abortFeedEntry => Sys2Proof.Machine.execAbortFeedEntry s
  | .abortPanelClose => Sys2Proof.Machine.execAbortPanelClose s
  | .offer => Sys2Proof.Machine.execOffer s
  | .accept opId => Sys2Proof.Machine.execAccept opId s
  | .refuse opId => Sys2Proof.Machine.execRefuse opId s
  | .answerDeadline => Sys2Proof.Machine.execAnswerDeadline s
  | .runningTimerLimit => Sys2Proof.Machine.execRunningTimerLimit s
  | .paused opId point => Sys2Proof.Machine.execPaused opId point s
  | .reading opId patch filter raw => Sys2Proof.Machine.execReading opId patch filter raw s
  | .scanDone opId => Sys2Proof.Machine.execScanDone opId s
  | .done opId => Sys2Proof.Machine.execDone opId s
  | .aborted opId rows => Sys2Proof.Machine.execAborted opId rows s
  | .engineFault => Sys2Proof.Machine.execEngineFault s
  | .engineReady => Sys2Proof.Machine.execEngineReady s
  | .scanStart => Sys2Proof.Machine.execScanStart s
  | .scanDeadline => Sys2Proof.Machine.execScanDeadline s
  | .verdictComputation => Sys2Proof.Machine.execVerdictComputation s
  | .encoderEdge => Sys2Proof.Machine.execEncoderEdge s
  | .rollEndAssert => Sys2Proof.Machine.execRollEndAssert s
  | .rollEndRelease => Sys2Proof.Machine.execRollEndRelease s
  | .runOutWaitStart => Sys2Proof.Machine.execRunOutWaitStart s
  | .runOutFeed => Sys2Proof.Machine.execRunOutFeed s
  | .cutStart => Sys2Proof.Machine.execCutStart s
  | .cutDone => Sys2Proof.Machine.execCutDone s
  | .cutJam => Sys2Proof.Machine.execCutJam s
  | .cutDeadline => Sys2Proof.Machine.execCutDeadline s
  | .cutterRetry => Sys2Proof.Machine.execCutterRetry s
  | .detectLineAssert slot line => Sys2Proof.Machine.execDetectLineAssert slot line s
  | .detectLineRelease slot line => Sys2Proof.Machine.execDetectLineRelease slot line s
  | .seatingDebounce slot => Sys2Proof.Machine.execSeatingDebounce slot s
  | .removal slot => Sys2Proof.Machine.execRemoval slot s
  | .levelSenseLineChange slot l1 l2 => Sys2Proof.Machine.execLevelSenseLineChange slot l1 l2 s
  | .sensedLevelChange slot => Sys2Proof.Machine.execSensedLevelChange slot s
  | .tagReadAnswer slot contents crcGood => Sys2Proof.Machine.execTagReadAnswer slot contents crcGood s
  | .tagReadTimeout slot => Sys2Proof.Machine.execTagReadTimeout slot s
  | .kindCheck slot k1 k2 => Sys2Proof.Machine.execKindCheck slot k1 k2 s
  | .tagWriteConfirm slot => Sys2Proof.Machine.execTagWriteConfirm slot s
  | .tagWriteTimeout slot => Sys2Proof.Machine.execTagWriteTimeout slot s
  | .itemPricing => Sys2Proof.Machine.execItemPricing s
  | .jobPricing => Sys2Proof.Machine.execJobPricing s
  | .droppedBandLastByte rest => Sys2Proof.Machine.execDroppedBandLastByte rest s

end Sys2Proof.Machine
end

