-- ==== Sys2Proof/Machine/Step.lean ====
section
/-! DEFINITION. One step: the command at the front of the queue, or 1 ms of the run-time counter. -/

namespace Sys2Proof.Machine

/-- One step. With a command waiting it is that command's effect on the state with the rest of the queue; with
none waiting the run-time counter goes on by 1 ms and nothing is sent (00_scope.md, Time; log 3). -/
def step (s : State) : Host.Outcome State Fault Refusal :=
  match s.pending with
  | [] => .next { s with now := s.now + 1#32, out := [] }
  | c :: rest => exec c { s with pending := rest }

/-- `s` with the command that a word spells put at the front of its queue; no word spells one, so `s` itself.
A command comes to run from State.reset only when it is put into the queue from outside (log 36). -/
def State.withFetchWord (s : State) (nbits w : Nat) : State :=
  match decodeTableWord nbits w with
  | some c => { s with pending := c :: s.pending }
  | none => s

end Sys2Proof.Machine
end

