-- ==== Sys2Proof/Safety.lean ====
section
/-! DEFINITION. The terms claims about the part are stated in: which blocks a command may change, what a
waiting or answered command leaves, and the invariants of the blocks. -/

namespace Sys2Proof.Machine

/-! ## Frames -/

/-- The nine blocks of 00_scope.md. -/
inductive Block where
  | link | tables | items | path | ink | media | cutter | colour | costing
  deriving DecidableEq, Repr

/-- A block is the same in two states. -/
def SameBlock (b : Block) (s t : State) : Prop :=
  match b with
  | .link => t.link = s.link
  | .tables => t.tables = s.tables
  | .items => t.items = s.items
  | .path => t.path = s.path
  | .ink => t.ink = s.ink
  | .media => t.media = s.media
  | .cutter => t.cutter = s.cutter
  | .colour => t.colour = s.colour
  | .costing => t.costing = s.costing

/-- Only the blocks named may differ; the run-time counter and the queue of commands are the same. -/
def OnlyChanges (bs : List Block) (s t : State) : Prop :=
  t.now = s.now ∧ t.pending = s.pending ∧ ∀ b, b ∉ bs → SameBlock b s t

/-! ## Outcomes of a command -/

/-- The command does nothing now: what it stands for is not due, or must wait. -/
def Waits (c : Instr) (s : State) : Prop := exec c s = .next (keepRunOut s.clearOut)

/-- The command leaves the state `t`, and the run-out wait is then looked at (R129). -/
def Leaves (c : Instr) (s t : State) : Prop := exec c s = .next (keepRunOut t)

/-- The command leaves the state `t` with one reply queued after it. -/
def Replies (c : Instr) (s : State) (tag : Byte) (status : Status) (body : ReplyBody) (t : State) : Prop :=
  Leaves c s (reply tag status body t)

/-- The command is refused with BAD_RECORD: only the reply, and the offer to the fault capture (R10, R14). -/
def Refuses (c : Instr) (s : State) (k : ExpressKind) (tag : Byte) (body : List Byte) : Prop :=
  Replies c s tag .badRecord .empty (capture (goodWire k.code 1#8 tag body) body.length false s.clearOut)

/-- An entry is the oldest of the intake queue and nothing holds the intake: fewer than 4 replies are queued, the
express hold is empty (R9), and no abort's panel close is due, which comes before a take (R56, R37). -/
def TakeReady (s : State) (e : IntakeEntry) (rest : List IntakeEntry) : Prop :=
  s.link.intake = e :: rest ∧ replies s < 4 ∧ s.link.hold = [] ∧
    (s.tables.lock = some .mediaProfile ∨ ∀ i ∈ s.items.live, i.pendingClose = none)

/-- The state once the oldest entry has left the intake queue. -/
def afterTake (s : State) (rest : List IntakeEntry) : State :=
  s.clearOut.onLink fun l => { l with intake := rest }

/-- What a take answered with BAD_RECORD leaves: the entry is gone, the record is offered to the fault capture
and the reply is queued (R10, R14). -/
def takeBad (s : State) (e : IntakeEntry) (rest : List IntakeEntry) : State :=
  reply e.tag .badRecord .empty
    (capture (goodWire e.kind.code 0#8 e.tag e.body) e.length false (afterTake s rest))

/-- What a take refused with another status leaves: the entry is gone and the reply is queued (R10). -/
def takeRefused (s : State) (e : IntakeEntry) (rest : List IntakeEntry) (status : Status) : State :=
  reply e.tag status .empty (afterTake s rest)

/-- R18 and each block's rule: `t` has the power-on values at a moment of the run-time counter, the lines as
they stand in `s`; a slot with a detect line asserted is SEATING (R117). The return queue is the caller's. -/
def AtPowerOn (now : Time) (s t : State) : Prop :=
  t.now = now ∧ t.pending = s.pending ∧ t.link.intake = [] ∧ t.link.hold = [] ∧
    t.link.displaced = false ∧ t.link.capture = Link.reset.capture ∧ t.tables = TableStore.reset ∧
    t.items = ItemManager.reset ∧ t.path = BandPath.reset ∧ t.colour = Colour.reset ∧
    t.costing = Costing.reset ∧ t.cutter = { Cutter.reset with lastEdge := now } ∧
    t.media = { Media.reset with rollEndLine := s.media.rollEndLine, rollEndArmed := !s.media.rollEndLine } ∧
    t.ink = { InkStation.reset with slots := t.ink.slots } ∧
    ∀ c : Chan, t.ink.slots[c] =
      { s.ink.slots[c] with
        bothSince := if s.ink.slots[c].d1 && s.ink.slots[c].d2 then some now else none,
        levelSince := now, sensed := .ok,
        cart := { Cartridge.cleared with
          state := if s.ink.slots[c].d1 || s.ink.slots[c].d2 then .seating else .absent } }

/-- Is the operation an abort FEED of the item that no offer has reached (R56)? -/
def WaitingAbortFeed (uid : Nat) (o : Op) : Prop :=
  o.owner = some uid ∧ o.rest = false ∧ ∃ rows, o.work = .feed .abort rows

/-- R55, R50: the rows that an abort of the item gathers for its abort feed: those of its bands not in flight and
not being counted, of the gutters bound to such a band not yet queued, and of the open panel's gutter, `g`. -/
def abortRows (uid g : Nat) (s : State) : Nat :=
  g + ((s.path.store.filter fun b => b.item == uid && b.state != .inFlight && b.state != .counting).map fun b =>
    b.rows + (if b.state = .queued then 0 else
      (s.path.waiting.map fun o => match o.work with
        | .feed (.gutter n) rows => if n = b.serial then rows else 0
        | _ => 0).sum)).sum

/-- R56: the owner of the operation `o` was aborted before that of `w`; an operation without a live owner, which no run
has among the abort feeds, counts as the first. -/
def AbortedBefore (s : State) (o w : Op) : Prop :=
  ∃ i, w.owner.bind (findItem s) = some i ∧
    ((o.owner.bind (findItem s) = none ∧ 0 < i.abortOrder) ∨
      ∃ k, o.owner.bind (findItem s) = some k ∧ k.abortOrder < i.abortOrder)

/-- R56, R68: a new abort FEED of `rows` rows has entered the end of the queue, where a general place was free and no
abort feed waited, or else waits for a place behind those that wait, whose aborts were earlier. -/
def AbortFeedArose (uid rows : Nat) (s t : State) : Prop :=
  ∃ o : Op, o.owner = some uid ∧ o.rest = false ∧ o.work = .feed .abort rows ∧
    ((s.path.abortWait = [] ∧ placesHeld t ≤ 4 ∧ t.path.abortWait = [] ∧ t.path.queue.getLast? = some (.op o)) ∨
      ((s.path.abortWait ≠ [] ∨ 4 ≤ placesHeld t) ∧ t.path.abortWait = s.path.abortWait ++ [o]))

/-- R136: the not-before time `nb` of a cut of the panel `p` of the aborted item `i`, or the band `band` whose
settlement will fix it: the panel's last kept band is in flight; or it has settled; or none of its bands is kept, and
the time is `fallback`. -/
def KeptTime (s : State) (i : Item) (p : Panel) (fallback : Time) (nb : Option Time) (band : Option Nat) : Prop :=
  (∀ f b, s.path.flight = some f → f.work = .band b → p.firstBand ≤ b → b ≤ p.lastBand → nb = none ∧ band = some b) ∧
  ((∀ f b, s.path.flight = some f → f.work = .band b → ¬(p.firstBand ≤ b ∧ b ≤ p.lastBand)) →
    (∀ l, i.lastSettled = some l → p.firstBand ≤ l → nb = i.dryMark ∧ band = none) ∧
    ((∀ l, i.lastSettled = some l → l < p.firstBand) → nb = some fallback ∧ band = none))

/-- R55, R45, R56: what the abort of the live item `uid` has done once its command ends: its status, reservation
and open panel, the rows of the roll it gives back and those of its abort feed; its abort the last of the live items'; its measure stops gone and its cut
stops kept with their holds cleared and the times of R136 where they had none; of its bands only one in flight or being counted left; every other item,
every section and every cartridge as before. -/
def AbortedBy (uid : Nat) (s t : State) : Prop :=
  (∀ k ∈ t.items.live, k.uid = uid → k.fate = .aborted ∧ k.reservation = 0 ∧ k.under = none ∧
    (k.state = .closing ∨ k.state = .settling ∨ k.state = .costing) ∧
    ∀ j ∈ t.items.live, j.uid ≠ uid → j.abortOrder < k.abortOrder) ∧
  (∀ u ∈ t.media.stops, u.item = uid → ∃ c, u.kind = .cut c ∧ c.hold = false) ∧
  (∀ u ∈ s.media.stops, u.isMeasure = false → ∃ v ∈ t.media.stops, v.uid = u.uid ∧ v.position = u.position) ∧
  (∀ i, findItem s uid = some i → ∀ u ∈ s.media.stops, u.item = uid → ∀ c n, u.kind = .cut c → u.panel = some n →
    ∃ v ∈ t.media.stops, ∃ d, v.uid = u.uid ∧ v.position = u.position ∧ v.panel = u.panel ∧ v.kind = .cut d ∧
      d.role = c.role ∧ d.cutRow = c.cutRow ∧ d.hold = false ∧
      (c.notBefore ≠ none → d.notBefore = c.notBefore ∧ d.lastBand = c.lastBand) ∧
      ∀ p, c.notBefore = none → (i.panels.find? fun q => q.index == n) = some p →
        KeptTime s i p (s.now + dryTime s) d.notBefore d.lastBand) ∧
  (∀ b ∈ t.path.store, b.item = uid → b.state = .inFlight ∨ b.state = .counting) ∧
  (∀ k ∈ s.items.live, k.uid ≠ uid → k ∈ t.items.live) ∧
  (∀ i, findItem s uid = some i → t.media.roll.reserved = s.media.roll.reserved - i.reservation ∧
    ∀ g rows, (s.path.store.map Band.serial).Nodup → (s.items.live.map Item.uid).Nodup →
      g = (if i.openRows ≠ 0 ∧ s.tables.lock ≠ some .mediaProfile then
        (match s.tables.mediaProfile with | some p => p.gutter | none => 0) else 0) →
      rows = abortRows uid g s →
      (∀ o ∈ s.path.abortWait ++ s.path.queue.filterMap QEntry.op?, ¬WaitingAbortFeed uid o) →
      (rows = 0 → t.path.abortWait = s.path.abortWait) ∧
      (0 < rows → AbortFeedArose uid rows s t) ∧
      ∀ k ∈ t.items.live, k.uid = uid → k.abortFeedRows = i.abortFeedRows + rows) ∧
  t.now = s.now ∧ t.pending = s.pending ∧ t.tables = s.tables ∧ t.ink.slots = s.ink.slots ∧
  t.ink.recent = s.ink.recent ∧ t.colour.cal = s.colour.cal ∧ t.colour.verify = s.colour.verify

/-- R93, R107, R109: what the refill of a channel has done after a settlement or spend that left `before` nL in its
sub-tank: a READY or LOW cartridge has given what fits, its estimate, state and write-back following; any other has
given nothing. -/
def Refilled (c : Chan) (before : Nat) (s t : State) : Prop :=
  ∃ (old new : Cartridge) (a b : Account), old = s.ink.slots[c].cart ∧ new = t.ink.slots[c].cart ∧
    a = s.ink.accounts[c] ∧ b = t.ink.accounts[c] ∧
    (old.state ≠ .ready → old.state ≠ .low → b.subTank = before ∧ b.refilled = a.refilled ∧ new = old) ∧
    ∀ (e drawn : Nat) (due : Bool), old.state = .ready ∨ old.state = .low → old.estimate = some e →
      drawn = min (2000000 - before) e →
      due = (decide ((e - drawn + 999999) / 1000000 < old.lastMl) && decide (old.writeFailures < 3)) →
      b.subTank = before + drawn ∧ (a.refilled + drawn < 2 ^ 64 → b.refilled = a.refilled + drawn) ∧
      (drawn = 0 → new = old) ∧
      (0 < drawn → new = { old with
        estimate := some (e - drawn),
        state := if e - drawn = 0 then .empty
          else if old.state = .ready ∧ lowMark s c < e - drawn then .ready else .low,
        write := if due = true ∧ old.write = none then some { value := e - drawn, since := s.now } else old.write,
        writeDue := if due then old.write.isSome else old.writeDue })

/-- No strip is being scanned and no measure action waits (R148, R151). -/
def NoStripAtSensor (s : State) : Prop :=
  (∀ c, s.colour.scan = some c → c.ended ≠ none) ∧ s.colour.measure = none

/-- R135: the stop list once the band `b` has settled: each A and B stop of its item that waited for it has its
not-before time, now plus the dry time; every other stop is as it was. -/
def driedStops (b : Band) (s : State) : List Stop :=
  s.media.stops.map fun u => match u.kind with
    | .cut c =>
      if u.item = b.item ∧ c.role ≠ .lead ∧ c.notBefore = none ∧ c.lastBand = some b.serial then
        { u with kind := .cut { c with notBefore := some (s.now + dryTime s), lastBand := none } }
      else u
    | .measure _ => u

/-- R75, R76, R88 to R90, R135: the live items once the band `b` has settled with `rows` rows printed: its item counts
them in its printed rows and in its image or check rows, has now plus the dry time as dry mark, the band as the last
settled, and the volumes `image` and `check`; every other item is as it was. -/
def chargedItems (b : Band) (rows : Nat) (image check : Item → Vector Nat 12) (s : State) : List Item :=
  s.items.live.map fun k => if k.uid = b.item then
    { k with rowsPrinted := k.rowsPrinted + rows, imageDpl := image k, checkDpl := check k,
             imageRows := k.imageRows + (if b.check then 0 else rows),
             checkRows := k.checkRows + (if b.check then rows else 0),
             dryMark := some (s.now + dryTime s), lastSettled := some b.serial }
    else k

/-- R76: the rows that an ABORTED with `d` rows done counts as printed: whole quarters, at most the band's. -/
def abortedPrints (b : Band) (d : Nat) : Nat := min b.rows (8 * ((min d b.rows + 7) / 8))

/-- R75 to R77, R87 to R90, R124, R135: what the end of the band `b` of item `i` in flight has done, where it counts
`rows` rows as printed and settles each channel against `demand`. -/
def BandEnded (f : Flight) (b : Band) (i : Item) (rows : Nat) (demand : BandChannel → Nat) (s t : State) : Prop :=
  t.path.flight = none ∧ (∀ a ∈ t.path.store, a.serial ≠ b.serial) ∧
  (∀ a ∈ s.path.store, a.serial ≠ b.serial → a ∈ t.path.store) ∧
  (∀ c ∈ b.channels, 0 < c.reserve →
    ∃ old new x, old = s.ink.accounts[c.chan] ∧ new = t.ink.accounts[c.chan] ∧ x = demand c + old.residue ∧
      new.residue = x % 10000 ∧ new.reserved = old.reserved - c.reserve ∧ new.flushed = old.flushed ∧
      (old.consumed + x / 10000 < 2 ^ 64 → new.consumed = old.consumed + x / 10000) ∧
      Refilled c.chan (old.subTank - x / 10000) s t) ∧
  (∀ c : Chan, (∀ k ∈ b.channels, k.chan = c → k.reserve = 0) →
    t.ink.accounts[c] = s.ink.accounts[c] ∧ t.ink.slots[c] = s.ink.slots[c]) ∧
  t.ink.recent = s.ink.recent ∧ t.ink.waits = s.ink.waits ∧ t.ink.waitAsker = s.ink.waitAsker ∧
  (∀ k ∈ t.items.live, k.uid = b.item →
    k.dryMark = some (s.now + dryTime s) ∧ k.lastSettled = some b.serial ∧ k.rowsPrinted = i.rowsPrinted + rows ∧
    k.imageRows = i.imageRows + (if b.check then 0 else rows) ∧
    k.checkRows = i.checkRows + (if b.check then rows else 0) ∧
    ∀ c ∈ b.channels, 0 < c.reserve →
      (b.check = false → i.imageDpl[c.chan] + demand c < 2 ^ 64 →
        k.imageDpl[c.chan] = i.imageDpl[c.chan] + demand c) ∧
      (b.check = true → i.checkDpl[c.chan] + demand c < 2 ^ 64 →
        k.checkDpl[c.chan] = i.checkDpl[c.chan] + demand c)) ∧
  t.items.planRow = s.items.planRow + ((s.media.rowsMoved : Int) - f.commanded) ∧
  (∀ u ∈ s.media.stops, u.item = b.item → (∀ c, s.colour.scan = some c → c.stop ≠ u.uid) →
    s.colour.measure ≠ some u.uid →
    ∀ c, u.kind = .cut c → c.role ≠ .lead → c.notBefore = none → c.lastBand = some b.serial →
      ∃ v ∈ t.media.stops, v.uid = u.uid ∧ v.position = u.position ∧
        ∃ d, v.kind = .cut d ∧ d.notBefore = some (s.now + dryTime s)) ∧
  (NoStripAtSensor s → t.media.stops = driedStops b s ∧
    (∀ k ∈ s.items.live, k.uid ≠ b.item → k ∈ t.items.live) ∧
    ∀ k ∈ t.items.live, k.uid ≠ b.item → k ∈ s.items.live) ∧
  OnlyChanges [.link, .items, .path, .ink, .media, .cutter, .colour, .costing] s t

/-- R124: the slip notice of a media-moving operation that ends by DONE or HEAD_FAULT, if it slipped. -/
def slipNotices (f : Flight) (s : State) : List Notice :=
  if 2 < ((s.media.rowsMoved : Int) - f.commanded).natAbs then
    [.feedSlip { op := some (f.opId, f.work.kind), commanded := some f.commanded, moved := s.media.rowsMoved,
                 difference := (s.media.rowsMoved : Int) - f.commanded, position := s.media.roll.position }]
  else []

/-- R46, R75 to R77, R124, R127: what the end of the media-moving operation `f` leaves of the state `u` in which its
own effect has been taken: some notices raised, the link IDLE, the plan row moved by the difference, the remainder in
front of the queue. -/
def moveEnded (f : Flight) (notes : List Notice) (engine : Engine) (seen : Bool) (u : State) : State :=
  { notes.foldl (fun v n => raise n v) u with
    items := { u.items with planRow := u.items.planRow + ((u.media.rowsMoved : Int) - f.commanded) },
    path := { u.path with
      flight := none, queue := u.media.remainder.toList.map QEntry.op ++ u.path.queue, engine := engine,
      readySeen := seen },
    media := { u.media with remainder := none, rowsMoved := 0 } }

/-- What the end of a FEED leaves before its owner is looked at; `live` are the live items (R56). -/
def feedLeft (f : Flight) (notes : List Notice) (engine : Engine) (seen : Bool) (live : List Item) (s : State) :
    State :=
  moveEnded f notes engine seen (s.clearOut.onItems fun m => { m with live := live })

/-- R67, R75 to R77, R87 to R90, R135: what the settlement of the band `b`, with `rows` rows printed, leaves before the
end of its move (`moveEnded`); the volumes and accounts of the channels that it settles are `BandEnded`'s. `first` are
the notices raised before it, and it raises none itself where no cartridge of the band gives ink. -/
def BandGone (b : Band) (rows : Nat) (first : List Notice) (s u : State) : Prop :=
  u.now = s.now ∧ u.pending = s.pending ∧ u.tables = s.tables ∧ u.cutter = s.cutter ∧ u.colour = s.colour ∧
  u.costing = s.costing ∧
  u.path = { s.path with
    flight := none, engine := u.path.engine, readySeen := u.path.readySeen,
    store := s.path.store.filter fun a => a.serial != b.serial,
    queue := s.path.queue.filter fun q => q != .band b.serial } ∧
  u.media = { s.media with stops := driedStops b s } ∧
  (∃ image check : Item → Vector Nat 12, u.items = { s.items with live := chargedItems b rows image check s } ∧
    ∀ k, (b.check = true → image k = k.imageDpl) ∧ (b.check = false → check k = k.checkDpl) ∧
      ∀ c : Chan, (∀ x ∈ b.channels, x.chan = c → x.reserve = 0) →
        (image k)[c] = k.imageDpl[c] ∧ (check k)[c] = k.checkDpl[c]) ∧
  u.ink = { s.ink with accounts := u.ink.accounts, slots := u.ink.slots } ∧
  (∀ c : Chan, (∀ x ∈ b.channels, x.chan = c → x.reserve = 0) →
    u.ink.accounts[c] = s.ink.accounts[c] ∧ u.ink.slots[c] = s.ink.slots[c]) ∧
  ((∀ c ∈ b.channels, 0 < c.reserve → s.ink.slots[c.chan].cart.supplies = false) →
    u.link = (first.foldl (fun v n => raise n v) s).link ∧ u.out = [])

/-- R52: the transitions of the item that owns an operation, if one does. -/
def afterOwner (o : Op) (s : State) : State :=
  match o.owner with
  | some uid => advanceItem uid s
  | none => s

/-- R56: the live items once a FEED has ended: an abort FEED that leaves none of its item behind it sets the abort
feed rows of that item to 0; nothing else changes them. -/
def LiveAfterFeed (o : Op) (s : State) (live : List Item) : Prop :=
  ∃ others, others = s.path.waiting ++ s.path.abortWait ++ s.path.queue.filterMap QEntry.op? ++
      s.media.remainder.toList ∧
    (∀ uid n, o.owner = some uid → o.work = .feed .abort n →
      (∀ w ∈ others, w.owner = some uid → ∀ k, w.work ≠ .feed .abort k) →
      live = s.items.live.map fun i => if i.uid = uid then { i with abortFeedRows := 0 } else i) ∧
    (o.owner = none ∨ (∀ n, o.work ≠ .feed .abort n) ∨
        (∃ w ∈ others, w.owner = o.owner ∧ ∃ k, w.work = .feed .abort k) →
      live = s.items.live)

/-- R75 to R77, R124: the state `w` that the operation `f` in flight leaves where it ends by an ABORTED with rows done
(`aborted`) or by a HEAD_FAULT (none), before what stands at the sensor is looked at. -/
def FlightOver (f : Flight) (aborted : Option Nat) (s w : State) : Prop :=
  w.path.flight = none ∧ w.now = s.now ∧ w.colour.scan = s.colour.scan ∧ w.colour.measure = s.colour.measure ∧
  match aborted with
  | some d =>
    (∀ o source rows live, f.work = .op o → o.work = .feed source rows → LiveAfterFeed o s live →
      w = afterOwner o (feedLeft f [.opAborted (flightRef s f) d] s.path.engine s.path.readySeen live s)) ∧
    ∀ b, f.work = .band b.serial → findBand s b.serial = some b →
      ∃ u, BandGone b (abortedPrints b d) [.opAborted (flightRef s f) (min d b.rows)] s u ∧
        w = advanceItem b.item (moveEnded f [] s.path.engine s.path.readySeen u)
  | none =>
    (∀ o source rows live, f.work = .op o → o.work = .feed source rows → LiveAfterFeed o s live →
      w = afterOwner o (feedLeft f (slipNotices f s) .fault false live s)) ∧
    ∀ b, f.work = .band b.serial → findBand s b.serial = some b →
      ∃ u, BandGone b b.rows [] s u ∧ w = advanceItem b.item (moveEnded f (slipNotices f s) .fault false u)

/-- R76, R77, R148, R151: what stands at the sensor ends with the operation in flight, by an ABORTED and by a HEAD_FAULT
of any cause: `atSensor` is what its end does to the state that the operation leaves. -/
def EndsWithFlight (f : Flight) (atSensor : EndCause → State → State → Prop) (s : State) : Prop :=
  (∀ d, (∀ n t, f.phase ≠ .offering n t) →
    ∃ w v, Leaves (.aborted f.opId d) s v ∧ FlightOver f (some d) s w ∧ atSensor .aborted w v) ∧
  ∀ cause, ∃ w v, headFault cause s.clearOut = raise (.headFault cause (some (flightRef s f))) v ∧
    FlightOver f none s w ∧ atSensor .fault w v

/-! ## The CRC-32 (R3) -/

/-- R3: one bit enters the CRC register, whose generator is 0x04C11DB7. -/
def crcShift (r : BitVec 32) (bit : Bool) : BitVec 32 :=
  (r <<< 1) ^^^ (if r.msb = bit then 0#32 else 0x04C11DB7#32)

/-- R3: the CRC register after some bytes, each least significant bit first, from all ones. -/
def crcRegister (bytes : List Byte) : BitVec 32 :=
  bytes.foldl (fun r b => (List.range 8).foldl (fun r k => crcShift r (b.getLsbD k)) r) 0xFFFFFFFF#32

/-! ## Section images (R20 to R27) -/

/-- R20: field `k` of an image, 4 bytes, least significant first. -/
def imageField (image : List Byte) (k : Nat) : Nat :=
  (image.getD (4 * k) 0#8).toNat + 256 * (image.getD (4 * k + 1) 0#8).toNat +
    65536 * (image.getD (4 * k + 2) 0#8).toNat + 16777216 * (image.getD (4 * k + 3) 0#8).toNat

/-- R26: does the patch whose fields start at `k` pass its checks? -/
def PatchValid (f : Nat → Nat) (k : Nat) : Prop :=
  256 ≤ f (k + 1) ∧ f k + f (k + 1) ≤ 38400 ∧ f (k + 2) ≤ 3 ∧ f (k + 3) ≤ 3 ∧ ∀ g : Fin 4, f (k + 4 + g.val) ≤ 4095

/-- R22 to R27: do the fields `f` of an image pass the refusal checks of the section? -/
def ImageValid (f : Nat → Nat) : Section → Prop
  | .channelMap =>
    (∀ c : Fin 12, f (4 * c.val) ≤ 1 ∧ 1 ≤ f (4 * c.val + 1) ∧ f (4 * c.val + 1) ≤ 250 ∧ f (4 * c.val + 2) ≤ 11 ∧
      f (4 * c.val + 3) ≤ 1000000000) ∧
    ∀ c d : Fin 12, c ≠ d → f (4 * c.val) = 1 → f (4 * d.val) = 1 → f (4 * c.val + 2) ≠ f (4 * d.val + 2)
  | .drop => ∀ (c : Fin 12) (l : Fin 3), f (7 * c.val + (1 + l.val)) ≤ 3 ∧ f (7 * c.val + (4 + l.val)) ≤ 255
  | .mediaProfile =>
    f 0 ≤ 7 ∧ (203 ≤ f 1 ∧ f 1 ≤ 1626) ∧ (64 ≤ f 2 ∧ f 2 ≤ 12000) ∧ (f 2 + 32 ≤ f 3 ∧ f 3 ≤ 24000) ∧ f 4 ≤ 24000 ∧
    (1024 ≤ 32 * (f 5 / 32) ∧ 32 * (f 5 / 32) ≤ 480000) ∧ (1 ≤ f 6 ∧ f 6 ≤ 4) ∧ (1 ≤ f 7 ∧ f 7 ≤ 16) ∧ f 10 ≤ 1
  | .price => (∀ c : Fin 12, f c.val ≤ 65535) ∧ (∀ k : Fin 8, f (12 + k.val) ≤ 16777215) ∧ f 20 ≤ 65535
  | .patch => ∀ l : Fin 8,
    (1 ≤ f (194 * l.val) ∧ f (194 * l.val) ≤ 24) ∧
    (f (194 * l.val + 1) = 2 ∨ f (194 * l.val + 1) = 4 ∨ f (194 * l.val + 1) = 8 ∨ f (194 * l.val + 1) = 16) ∧
    ∀ p : Fin 24, p.val < f (194 * l.val) → PatchValid f (194 * l.val + 2 + 8 * p.val)
  | .tolerance => ∀ l : Fin 8, f (2 * l.val) ≤ 4095 ∧ f (2 * l.val + 1) ≤ 4095
  | .maintenance => ∀ (c : Fin 12) (k : Fin 3), f (3 * c.val + k.val) ≤ 500000
  | .notice => ∀ n : Fin 11, f n.val ≤ 7

/-- R20, R22 to R27: the content that a valid image with the fields `f` commits, clamped. -/
def imageContent (f : Nat → Nat) : Section → Content
  | .channelMap => .channelMap (.ofFn fun c =>
    { enabled := decide (f (4 * c.val) = 1), inkKind := f (4 * c.val + 1), headRow := f (4 * c.val + 2),
      lowMark := f (4 * c.val + 3) })
  | .drop => .drop (.ofFn fun c =>
    { levels := #v[0, f (7 * c.val + 1), f (7 * c.val + 2), f (7 * c.val + 3)],
      volumes := #v[f (7 * c.val + 4), f (7 * c.val + 5), f (7 * c.val + 6)] })
  | .mediaProfile => .mediaProfile
    { rollKind := f 0, width := f 1, sensor := f 2, cutter := f 3,
      gutter := if 1 ≤ f 4 ∧ f 4 < 32 then 32 else f 4, maxPanel := 32 * (f 5 / 32), startDepth := f 6,
      divisor := f 7, runOutDelay := if 60000 < f 8 then 60000 else f 8,
      dryTime := if 3600000 < f 9 then 3600000 else f 9, cutterEnabled := decide (f 10 = 1) }
  | .price => .price { perMl := .ofFn fun c => f c.val, perM2 := .ofFn fun k => f (12 + k.val), cutCharge := f 20 }
  | .patch => .patch (.ofFn fun l =>
    { count := f (194 * l.val), integration := f (194 * l.val + 1),
      patches := .ofFn fun p =>
        let at_ := 194 * l.val + 2 + 8 * p.val
        { start := f at_, width := f (at_ + 1), mode := f (at_ + 2), filter := f (at_ + 3),
          targets := #v[f (at_ + 4), f (at_ + 5), f (at_ + 6), f (at_ + 7)] } })
  | .tolerance => .tolerance (.ofFn fun l =>
    { warn := if f (2 * l.val + 1) < f (2 * l.val) then f (2 * l.val + 1) else f (2 * l.val),
      fail := f (2 * l.val + 1) })
  | .maintenance => .maintenance (.ofFn fun c => #v[f (3 * c.val), f (3 * c.val + 1), f (3 * c.val + 2)])
  | .notice => .notice (.ofFn fun n => f n.val)

/-! ## Pixels, discards and waits for ink -/

/-- 1.8, R62: the level of pixel `x` of row `r` of a plane whose rows have `columns` pixels, four to a byte from bits
1..0 up. -/
def levelAt (columns : Nat) (plane : List Byte) (r x : Nat) : Nat :=
  (plane.getD (r * ((columns + 3) / 4) + x / 4) 0#8).toNat / 4 ^ (x % 4) % 4

/-- R115: the body of a wait notice of a channel whose available ink is then `available`. -/
def waitOf (who : Asker) (amounts : List (Chan × Nat)) (available : Nat) (s : State) (c : Chan) : WaitBody :=
  { channel := c, asker := who, amount := amountOn amounts c, available := available,
    cartridge := s.ink.slots[c].cart.state }

/-- R115: the WAIT_END notices of the set wait flags, in channel order (log 26), the accounts being `accounts`. -/
def waitEnds (who : Asker) (amounts : List (Chan × Nat)) (accounts : Vector Account 12) (s : State) : List Notice :=
  (List.finRange 12).filterMap fun c =>
    if s.ink.waits[c] then
      some (.waitEnd (waitOf who amounts (accounts[c].subTank - (150000 + accounts[c].reserved)) s c))
    else none

/-- R115: the notices of a decline, in channel order (log 26): WAIT_START where the amount exceeds the available ink and
the flag was clear, WAIT_END where it does not and the flag was set. -/
def declineNotices (who : Asker) (amounts : List (Chan × Nat)) (s : State) : List Notice :=
  (List.finRange 12).filterMap fun c =>
    let available := s.ink.accounts[c].subTank - (150000 + s.ink.accounts[c].reserved)
    if available < amountOn amounts c then
      (if s.ink.waits[c] then none else some (.waitStart (waitOf who amounts available s c)))
    else if s.ink.waits[c] then some (.waitEnd (waitOf who amounts available s c))
    else none

/-- R50: is a waiting FEED the gutter bound to the band? -/
def GutterOf (b : Band) (o : Op) : Prop := ∃ n, o.work = .feed (.gutter b.serial) n

/-- R67, R50, R55, R63, R147: what the discard of a band not in flight leaves before the wait flags are looked at:
`waiting` are the operations that still wait, `accounts` the accounts. -/
def discarded (b : Band) (waiting : List Op) (accounts : Vector Account 12) (s : State) : State :=
  { s with
    path := { s.path with
      waiting := waiting,
      store := s.path.store.filter fun a => a.serial != b.serial,
      queue := s.path.queue.filter fun q => q != .band b.serial },
    ink := { s.ink with accounts := accounts },
    link := { s.link with rx := match s.link.rx with
      | .filling n wire length tag => if n = b.serial then .dropping else .filling n wire length tag
      | r => r },
    colour := { s.colour with strips := s.colour.strips.filter fun w => w.band != b.serial },
    items := { s.items with live := s.items.live.map fun k =>
      if k.uid = b.item then { k with gutterRows := k.gutterRows + b.rows } else k } }

/-! ## The parts of a sensor test -/

/-- R169: the readings of a part are whole: unmarked, and 8 values for each filter it reads. -/
def ReadingsWhole (p : Part) (v : Verify) : Prop :=
  v.malformed = false ∧ ∀ g : Filter, (p = .lamp → g = 3) → (v.readings[g]).length = 8

/-- R169: the condition of a part on the means of its filters, or on the spread of the F3 values. -/
def PartMeets (p : Part) (cal : Calibration) (v : Verify) (mean : Filter → Nat) : Prop :=
  match p with
  | .white => ∀ g : Filter, 20000 ≤ mean g ∧ mean g ≤ 65000 ∧ cal.black[g] + 4096 < mean g
  | .dark => ∀ g : Filter, mean g ≤ 8000
  | .lamp => ∀ a ∈ v.readings[(3 : Filter)], ∀ b ∈ v.readings[(3 : Filter)], b ≤ a + 512

/-- R170: the figures of a judged part: the four means, or the smallest and largest F3 value. -/
def FiguresOf (p : Part) (v : Verify) (mean : Filter → Nat) (figures : List Nat) : Prop :=
  match p with
  | .white | .dark => figures = [mean 0, mean 1, mean 2, mean 3]
  | .lamp => ∃ lo hi, figures = [lo, hi] ∧ lo ∈ v.readings[(3 : Filter)] ∧ hi ∈ v.readings[(3 : Filter)] ∧
      ∀ a ∈ v.readings[(3 : Filter)], lo ≤ a ∧ a ≤ hi

/-- R169, R166: the calibration record after a part has passed. -/
def calibrated (p : Part) (mean : Filter → Nat) (c : Calibration) : Calibration :=
  match p with
  | .white => { c with white := #v[mean 0, mean 1, mean 2, mean 3], whitePassed := true,
                       valid := c.valid || c.darkPassed }
  | .dark => { c with black := #v[mean 0, mean 1, mean 2, mean 3], darkPassed := true,
                      valid := c.valid || c.whitePassed }
  | .lamp => { c with valid := c.valid || (c.whitePassed && c.darkPassed) }

/-- R170: the body of the VERIFY notice of a test that ends with the outcome `o`. -/
def testBody (run : TestRun) (o : PartOutcome) (before after : Nat) (cal : Calibration) : VerifyBody :=
  { code := run.code, before := before, after := after, outcomes := run.outcomes ++ [o], white := cal.white,
    black := cal.black, whitePassed := cal.whitePassed, darkPassed := cal.darkPassed, valid := cal.valid }

/-- R170, R168: what the outcome `o` of a part of the test `run` leaves of `s`, the calibration record being `cal`:
the next part of a full test pending, or else the test ended, with its result and notice. -/
def partLeft (run : TestRun) (o : PartOutcome) (cal : Calibration) (s : State) : State :=
  let going (q : Part) : State := s.onColour fun k => { k with
    cal := cal,
    verify := { k.verify with
      test := some { run with outcomes := run.outcomes ++ [o], current := q }, pending := some q } }
  let ended (result : Nat) : State := s.onColour fun k => { k with
    cal := cal, verify := { k.verify with busy := false, test := none, pending := none, result := result } }
  match o.failure, run.code, o.part with
  | none, 5, .dark => going .white
  | none, 5, .white => going .lamp
  | none, code, _ => raise (.verifyPass (testBody run o s.colour.verify.result code cal)) (ended code)
  | some _, _, _ => raise (.verifyFail (testBody run o s.colour.verify.result 15 cal)) (ended 15)

/-- R91, R92: what the end of a CLEAN in flight has done. -/
def CleanEnded (flush : List (Chan × Nat)) (s t : State) : Prop :=
  t.path.flight = none ∧
  (∀ a ∈ flush,
    ∃ old new, old = s.ink.accounts[a.1] ∧ new = t.ink.accounts[a.1] ∧
      new.reserved = old.reserved - a.2 ∧ new.residue = old.residue ∧ new.consumed = old.consumed ∧
      (old.flushed + a.2 < 2 ^ 64 → new.flushed = old.flushed + a.2) ∧
      Refilled a.1 (old.subTank - a.2) s t) ∧
  (∀ c : Chan, c ∉ flush.map Prod.fst → t.ink.accounts[c] = s.ink.accounts[c]) ∧
  (∀ i, openItem s = some i → t.items = { s.items with live := s.items.live.map fun k =>
    if k.uid = i.uid then { k with flushNl := addVolumes k.flushNl (flush.filter fun a => decide (0 < a.2)) }
    else k }) ∧
  (∀ j, openItem s = none → openJob s = some j → t.items = { s.items with jobs := s.items.jobs.map fun k =>
    if k.number = j.number then { k with flush := addVolumes k.flush (flush.filter fun a => decide (0 < a.2)) }
    else k }) ∧
  (openItem s = none → openJob s = none → t.items = s.items) ∧
  OnlyChanges [.link, .items, .path, .ink, .media] s t

/-- R123: the overrun rows that move into the position once the list holds the stops `left`: all of them where it is
empty, else as many as the way to its first stop allows. -/
def rowsLetIn (left : List Stop) (s : State) : Nat :=
  match left with
  | [] => s.media.overrun
  | u :: _ => min s.media.overrun (u.position - s.media.roll.position).toNat

/-- R122, R123, R128: what the end of the action of the stop `uid` has done to the stop list and the head link:
the stop has left, overrun rows have moved into the position, and a link paused at that stop has had PROCEED. -/
def ActionOver (uid : Nat) (s t : State) : Prop :=
  t.media.stops = s.media.stops.filter (fun u => u.uid != uid) ∧
  (∀ n, n = (if (findStop s uid).isSome then rowsLetIn t.media.stops s else 0) →
    t.media.roll.position = s.media.roll.position + n ∧ t.media.overrun = s.media.overrun - n) ∧
  t.media.roll.remaining = s.media.roll.remaining ∧
  (∀ f, s.path.flight = some f → pausedStop s = some uid →
    t.path = { s.path with flight := some { f with phase := .running s.now } } ∧ t.out = s.out ++ [.proceed f.opId]) ∧
  (pausedStop s ≠ some uid → t.path = s.path ∧ t.out = s.out)

/-- R122, R52: what the removal of the stop `uid` has done beyond the stop list and the head link: the transitions of its
owner, looked at once the list has lost the stop; without such a stop, nothing. -/
def OwnerMoved (uid : Nat) (s t : State) : Prop :=
  (findStop s uid = none →
    t.items = s.items ∧ t.link = s.link ∧ t.costing = s.costing ∧ t.colour.editions = s.colour.editions) ∧
  ∀ u w, findStop s uid = some u →
    w = advanceItem u.item (s.onMedia fun m => { m with stops := m.stops.filter fun v => v.uid != uid }) →
    t.items = w.items ∧ t.link = w.link ∧ t.costing = w.costing ∧ t.colour.editions = w.colour.editions ∧
      t.media.roll.reserved = w.media.roll.reserved

/-- R152, R157, R162, R163: what the recording of the strip of the measure stop `u` as unread has done: INCOMPLETE is
merged into the verdict of its panel, which is its edition's last one, the edition in front of its table; the notice
UNREAD stands in the return queue, its valid flag as it stands now (the model's choice, log 43). -/
def StripUnread (u : Stop) (m : MeasureStop) (s t : State) : Prop :=
  OnlyChanges [.link, .items, .colour] s t ∧ t.out = s.out ∧
  ∀ i n p, findItem s u.item = some i → u.panel = some n → (i.panels.find? fun q => q.index == n) = some p →
    ∃ v body, v = (if Verdict.incomplete.rank ≤ p.verdict.rank then p.verdict else .incomplete) ∧
      t.items = { s.items with live := s.items.live.map fun k => if k.uid = u.item then
        { k with panels := k.panels.map fun q => if q.index = n then { q with verdict := v } else q } else k } ∧
      (i.edition = none → t.colour = s.colour ∧ body.printsClosed = none ∧ body.lastVerdict = none) ∧
      (∀ before e after, i.edition = some e.number → s.colour.editions = before ++ e :: after →
        (s.colour.editions.map Edition.number).Nodup →
        t.colour = { s.colour with editions := { e with last := v } :: (before ++ after) } ∧
        body.printsClosed = some e.printsClosed ∧ body.lastVerdict = some v) ∧
      body = { id := u.itemId, job := i.job, print := some i.print, edition := i.edition, panel := n,
               strip := m.strip, layout := m.layout, position := u.position, cause := none,
               valid := s.colour.cal.valid, stripVerdict := .incomplete, panelVerdict := some v, filled := 0,
               printsClosed := body.printsClosed, lastVerdict := body.lastVerdict, patches := [] } ∧
      t.link = (raise (.checkUnread body) s).link

/-- R55, R56, R123: what the abort of the live item `uid`, the `n`th in the order of aborts, leaves of `s` before its strips
are recorded unread: its status and order, the measure stops `gone` out of the list, and the overrun rows that this
lets into the position. -/
def measuresDropped (uid n : Nat) (gone : List Stop) (s : State) : State :=
  let left := s.media.stops.filter fun u => !gone.contains u
  { s with
    items := { s.items with live := s.items.live.map fun k =>
      if k.uid = uid then { k with fate := .aborted, abortOrder := n } else k },
    media := { s.media with
      stops := left,
      overrun := s.media.overrun - rowsLetIn left s,
      roll := { s.media.roll with position := s.media.roll.position + rowsLetIn left s } } }

/-- R152, R74: what becomes of a waiting measure action whose stop is among those `gone`: it ends at once, and a link
paused at that stop has PROCEED (log 16). -/
def measureReleased (gone : List Stop) (x : State) : State :=
  match x.colour.measure with
  | none => x
  | some q =>
    if gone.any (fun u => u.uid == q) then
      let y := x.onColour fun k => { k with measure := none }
      match x.path.flight with
      | some f =>
        if pausedStop x = some q then
          (y.onPath fun p => { p with flight := some { f with phase := .running x.now } }).send (.proceed f.opId)
        else y
      | none => y
    else x

/-- R152: what the recording of the strips of stops that have left the list has done, in list order (log 26); a CUT,
and the MEASURE that is being scanned, record nothing. -/
def StripsUnread : List Stop → State → State → Prop
  | [], s, t => t = s
  | u :: more, s, t => ∃ w, StripsUnread more w t ∧
      ((∃ c, u.kind = .cut c) ∨ (∃ c, s.colour.scan = some c ∧ c.ended = none ∧ c.stop = u.uid) → w = s) ∧
      ∀ m, u.kind = .measure m → (∀ c, s.colour.scan = some c → c.ended = none → c.stop ≠ u.uid) →
        StripUnread u m s w

/-- R151: what the end of the scan `c` has done: patches still open are missed and hold no values, the deadline is
dropped, the record is ENDED with its cause, and the measure action has ended. -/
def ScanEnded (cause : EndCause) (c : Scan) (s t : State) : Prop :=
  t.colour.scan = some { c with
    patches := c.patches.map fun p => if p.mark = .opened then { p with mark := .missed, raws := [] } else p,
    deadline := none, ended := some cause } ∧
  t.colour.measure = s.colour.measure ∧ t.colour.cal = s.colour.cal ∧ t.media.roll.lastCutRow = s.media.roll.lastCutRow ∧
  ActionOver c.stop s t ∧ OwnerMoved c.stop s t ∧ OnlyChanges [.link, .items, .path, .media, .colour, .costing] s t

/-- R148, R152: what the end of the waiting measure action of the stop `u` without a scan has done: the strip is
recorded unread and the stop's action has ended. -/
def MeasureUnread (u : Stop) (m : MeasureStop) (s t : State) : Prop :=
  ∃ w, StripUnread u m (s.onColour fun k => { k with measure := none }) w ∧ ActionOver u.uid w t ∧ OwnerMoved u.uid w t ∧
    t.colour.measure = none ∧ t.colour.scan = s.colour.scan ∧
    OnlyChanges [.link, .items, .path, .media, .colour, .costing] s t

/-- R154: round half up of the mean of some raw values, and of a reflectance (R2). -/
def HalfUp (num den q : Nat) : Prop := 2 * den * q ≤ 2 * num + den ∧ 2 * num + den < 2 * den * (q + 1)

/-- R144: the cutter controller with no stop held and IDLE. -/
def CutterFreed (s t : State) : Prop :=
  t.cutter.state = .idle ∧ t.cutter.held = none ∧ t.cutter.cause = none ∧ t.cutter.retryPending = false ∧
  t.cutter.deadline = none ∧ t.cutter.lastEdge = s.cutter.lastEdge

/-- The last entry of the return queue is a reply queued now (R10, R11). -/
def RepliedLast (t : State) (tag : Byte) (status : Status) : Prop :=
  ∃ older, t.link.ret = older ++ [{ level := 8, tag := tag, time := t.now, payload := .reply status .empty }]

/-! ## Invariants -/

/-- R87: every channel's residue lies between 0 and 9,999 dpL. -/
def ResiduesBelow (s : State) : Prop := ∀ c : Chan, s.ink.accounts[c].residue < 10000

/-- R166: what keeps white_f above black_f. -/
def CalibrationApart (s : State) : Prop :=
  ∀ f : Filter, 20000 ≤ s.colour.cal.white[f] ∧ s.colour.cal.black[f] ≤ 8000

/-- R6, R11, R12: the return queue and the hold keep to their places, queued notices have levels 1 to 7, and
while the hold has an entry 4 replies are queued. -/
def ReturnBounded (s : State) : Prop :=
  replies s ≤ 4 ∧ notices s ≤ 28 ∧ s.link.hold.length ≤ 8 ∧ (s.link.hold ≠ [] → replies s = 4) ∧
    (∀ e ∈ s.link.ret, e.isReply = false → 1 ≤ e.level ∧ e.level ≤ 7) ∧
    ∀ levels, s.tables.notice = some levels → ∀ k : Fin 11, levels[k] ≤ 7

/-- R121: the stop list is in non-decreasing position order. -/
def StopsOrdered (s : State) : Prop := s.media.stops.Pairwise fun a b => a.position ≤ b.position

/-- The capacities of 3.1, 3.2, 4.1, R14, R30, R73, R111, R121, R159 and R178. -/
def CapacitiesKept (s : State) : Prop :=
  s.items.jobs.length ≤ 4 ∧ s.items.live.length ≤ 16 ∧ s.path.store.length ≤ 4 ∧
    s.media.stops.length ≤ 32 ∧ s.ink.recent.length ≤ 12 ∧ s.colour.editions.length ≤ 8 ∧
    s.costing.log.length ≤ 64 ∧ s.link.capture.bytes.length ≤ 64 ∧ s.tables.priceVersion < 65536 ∧
    1 ≤ s.path.nextOpId ∧ s.path.nextOpId ≤ 65535

/-- R31, R32: while a section holds the lock the staging area has its image length. -/
def StagingFits (s : State) : Prop := ∀ sec, s.tables.lock = some sec → s.tables.staging.length = sec.imageLength

/-- R121: the position has not passed a stop of the list. -/
def PositionBehind (s : State) : Prop := ∀ u ∈ s.media.stops, s.media.roll.position ≤ u.position

/-- R129: a run-out wait runs only while every condition of it holds (log 48). -/
def RunOutKept (s : State) : Prop := s.media.runOut.isSome = true → runOutReady s = true

/-- The identities of stops, in the list or waiting for it, have been given out (log 8). -/
def StopIdsTaken (s : State) : Prop :=
  (∀ u ∈ s.media.stops, u.uid < s.media.nextStop) ∧ ∀ w ∈ s.colour.strips, w.stop.uid < s.media.nextStop

/-- The amount that a holder names on a channel. -/
def heldOn (amounts : List (Chan × Nat)) (c : Chan) : Nat := ((amounts.filter fun a => a.1 == c).map Prod.snd).sum

/-- The flush that a CLEAN asks for. -/
def Op.flushOf (o : Op) : List (Chan × Nat) :=
  match o.work with
  | .clean _ flush _ => flush
  | .feed _ _ => []

/-- R84: what holds ink: the bands RESERVED, QUEUED and IN_FLIGHT, the CLEANs granted where they wait, and the CLEANs
past the wait. -/
def holders (s : State) : List (List (Chan × Nat)) :=
  (s.path.store.filter Band.holdsInk).map Band.amounts ++ (s.path.waiting.filter Op.ready).map Op.flushOf ++
    (s.path.abortWait ++ s.path.queue.filterMap QEntry.op? ++ (flightOp s).toList ++ s.media.remainder.toList).map
      Op.flushOf

/-- R84, R85: each channel's account is backed: reserved and the floor within the sub-tank, the sub-tank within its
capacity, and reserved nL the sum of what the holders of a reservation name. -/
def AccountsBacked (s : State) : Prop :=
  ∀ c : Chan, s.ink.accounts[c].reserved + 150000 ≤ s.ink.accounts[c].subTank ∧
    s.ink.accounts[c].subTank ≤ 2000000 ∧ s.ink.accounts[c].reserved = ((holders s).map fun a => heldOn a c).sum

/-- R62, R65, R71, R86, R127: a band and a CLEAN name each channel once, a band's reserve covers its demand, and a
remainder is a FEED. -/
def RequestsWhole (s : State) : Prop :=
  (∀ b ∈ s.path.store, (b.channels.map BandChannel.chan).Nodup ∧
    ∀ k ∈ b.channels, k.demand ≤ 10000 * k.reserve ∧ k.quarterDemand 4 ≤ 10000 * k.reserve) ∧
  (∀ o ∈ s.path.waiting, (o.flushOf.map Prod.fst).Nodup) ∧ ∀ o, s.media.remainder = some o → o.flushOf = []

/-- R63, R64, R68, R73: every operation arose with a number of its own (log 8), and the reception, the count, the
queue and the head link name bands in the state that goes with them. -/
def BandsTold (s : State) : Prop :=
  (s.path.store.map Band.serial).Nodup ∧ (s.path.waiting.map Op.serial).Nodup ∧
  (∀ b ∈ s.path.store, b.serial < s.path.nextArise) ∧ (∀ o ∈ s.path.waiting, o.serial < s.path.nextArise) ∧
  (∀ n wire length tag, s.link.rx = .filling n wire length tag →
    ∀ b ∈ s.path.store, b.serial = n → b.state = .filling) ∧
  (∀ j, s.path.count = some j → j.band < s.path.nextArise ∧
    ∀ b ∈ s.path.store, b.serial = j.band → b.state = .counting) ∧
  (∀ n, QEntry.band n ∈ s.path.queue → n < s.path.nextArise ∧
    ∀ b ∈ s.path.store, b.serial = n → b.holdsInk = true) ∧
  ∀ f n, s.path.flight = some f → f.work = .band n → n < s.path.nextArise ∧
    ∀ b ∈ s.path.store, b.serial = n → b.holdsInk = true

/-- R84 to R87: the accounts are backed, and so they stay at every step. -/
def InkBacked (s : State) : Prop := AccountsBacked s ∧ ResiduesBelow s ∧ RequestsWhole s ∧ BandsTold s

/-- R111: no serial appears twice in the recent cartridge list. -/
def RecentDistinct (s : State) : Prop := (s.ink.recent.map Recent.serial).Nodup

end Sys2Proof.Machine
end

