-- ==== Sys2Proof/Certificates/Slice0/Obligations.lean ====
section
/-! DEFINITION. The statements for the provers, by the chapters of spec/: each formalises the rules its entry of
OBLIGATIONS.json cites. -/

open Sys2Proof Sys2Proof.Machine

/-- A step runs the command at the front of the queue; with none it is 1 ms (log 3) (00_scope.md, Stream order
and arrival, 00_scope.md, Time). -/
def Obligations.StepRunsFront : Prop :=
  (∀ (c : Instr) (rest : List Instr) (s : State), s.pending = c :: rest →
    step s = exec c { s with pending := rest }) ∧
  (∀ s : State, s.pending = [] → step s = .next { s with now := s.now + 1#32, out := [] })

/-- Every command answers a next state and leaves the queue and the counter (the model's choices: logs 2, 3, 7)
(00_scope.md, Time). -/
def Obligations.EveryCommandCompletes : Prop :=
  ∀ (c : Instr) (s : State), ∃ t, exec c s = .next t ∧ t.pending = s.pending ∧
    (c ≠ .powerOn → t.now = s.now)

/-- The values of power-on (R18, R38, R60, R83, R96, R117, R133, R146, R164, R166, R172, R182). -/
def Obligations.ResetValues : Prop :=
  State.reset.now = 0#32 ∧ State.reset.pending = [] ∧ State.reset.out = [] ∧
  (State.reset.link = Link.reset ∧ Link.reset =
    { intake := [], rx := .idle, hold := [], ret := [], displaced := false,
      capture := { armed := true, bytes := [], length := 0, filling := false } }) ∧
  (∀ sec, sectionPresent State.reset sec = false) ∧
  (State.reset.tables = TableStore.reset ∧ TableStore.reset =
    { channelMap := none, drop := none, mediaProfile := none, price := none, patch := none, tolerance := none,
      maintenance := none, notice := none, lock := none, staging := [], expiry := none, priceVersion := 0 }) ∧
  (State.reset.items = ItemManager.reset ∧ ItemManager.reset =
    { jobs := [], live := [], planRow := 0, cutRef := 0, nextUid := 0 }) ∧
  (State.reset.path = BandPath.reset ∧ BandPath.reset =
    { store := [], count := none, waiting := [], abortWait := [], queue := [],
      flight := none, nextOpId := 1, engine := .waitingEngine, readySeen := false, nextArise := 0 }) ∧
  (State.reset.ink = InkStation.reset ∧ InkStation.reset =
    { accounts := Vector.replicate 12
        { subTank := 150000, reserved := 0, residue := 0, consumed := 0, flushed := 0, refilled := 0 },
      slots := Vector.replicate 12
        { d1 := false, d2 := false, l1 := true, l2 := true, bothSince := none, levelSince := 0#32, sensed := .ok,
          cart := Cartridge.cleared },
      recent := [], waits := Vector.replicate 12 false, waitAsker := none }) ∧
  Cartridge.cleared =
    { state := .absent, contents := none, reason := none, estimate := none, lastMl := 0, write := none,
      writeDue := false, writeFailures := 0, readAttempts := 0, readSince := none, removal := none } ∧
  (State.reset.media = Media.reset ∧ Media.reset =
    { roll := { loaded := false, kind := 0, width := 0, remaining := 0,
                reserved := 0, position := 0, lastCutRow := 0, edges := 0 },
      stops := [], overrun := 0, rowsMoved := 0, strayRows := 0, remainder := none, runOut := none,
      rollEndArmed := true, rollEndLine := false, lifetimeRows := 0, nextStop := 0 }) ∧
  (State.reset.cutter = Cutter.reset ∧ Cutter.reset =
    { state := .idle, held := none, cause := none, retryPending := false, deadline := none, lastEdge := 0#32,
      holdReported := false, dispatchedAt := none, startedAt := none, bladeCount := 0 }) ∧
  (State.reset.colour = Colour.reset ∧ Colour.reset =
    { scan := none, strips := [], measure := none, editions := [],
      cal := { white := Vector.replicate 4 60000, black := Vector.replicate 4 1200, whitePassed := false,
               darkPassed := false, valid := false },
      verify := { busy := false, test := none, pending := none, readings := Vector.replicate 4 [],
                  malformed := false, result := 0 } }) ∧
  (State.reset.costing = Costing.reset ∧ Costing.reset =
    { queue := [], jobQueue := [], log := [], nextRecord := 1 })

/-- The invariants hold at power-on (R84, R85, R87, R166, R12, R121, R111, R129). -/
def Obligations.InvariantsAtReset : Prop :=
  ResiduesBelow State.reset ∧ CalibrationApart State.reset ∧ ReturnBounded State.reset ∧
  StopsOrdered State.reset ∧ CapacitiesKept State.reset ∧ InkBacked State.reset ∧ PositionBehind State.reset ∧
  StopIdsTaken State.reset ∧ RecentDistinct State.reset ∧
  StagingFits State.reset ∧ RunOutKept State.reset

/-- Every step keeps every residue below 10,000 dpL (R87). -/
def Obligations.ResiduesStayBelow : Prop :=
  ∀ s t : State, ResiduesBelow s → step s = .next t → ResiduesBelow t

/-- Every step keeps every white value at least 20,000 and every black value at most 8,000 (R166, R169). -/
def Obligations.CalibrationStaysApart : Prop :=
  ∀ s t : State, CalibrationApart s → step s = .next t → CalibrationApart t

/-- Every step keeps the places of the return queue and of the hold (R6, R9, R12, R13). -/
def Obligations.ReturnQueueStaysBounded : Prop :=
  ∀ s t : State, ReturnBounded s → step s = .next t → ReturnBounded t

/-- Every step keeps the stop list ordered and every table within its capacity (R121, R111, R31, R32, R159,
R178, R14, R30, R73). -/
def Obligations.ListsStayBounded : Prop :=
  ∀ s t : State, StopsOrdered s → RecentDistinct s → StagingFits s → CapacitiesKept s →
    step s = .next t → StopsOrdered t ∧ RecentDistinct t ∧ StagingFits t ∧ CapacitiesKept t

/-- When a deadline has passed (R1). -/
def Obligations.DeadlinePassed : Prop :=
  (∀ now notBefore : Time, passed now notBefore = true ↔ 0 ≤ (now - notBefore).toInt) ∧
  (∀ (start : Time) (d e : Nat), d ≤ 24 * 86400000 → e < 2147483648 →
    (passed (start + BitVec.ofNat 32 e) (start + BitVec.ofNat 32 d) = true ↔ d ≤ e)) ∧
  (∀ m ∈ [lockMs, answerMs, scanMs, cutMs, stillMs, seatMs, levelMs, tagReadMs, tagWriteMs],
    m.toNat ≤ 24 * 86400000) ∧
  (∀ image p, judgeImage .mediaProfile image = some (.mediaProfile p) →
    p.dryTime ≤ 24 * 86400000 ∧ p.runOutDelay ≤ 24 * 86400000)

/-- What raising a notice does to the return queue (R11, R13). -/
def Obligations.NoticeQueued : Prop :=
  (∀ n : Notice, n.cls.index = match n with
    | .cartridge _ | .levelCorrected _ _ _ _ | .tagWriteFailed _ | .waitStart _ | .waitEnd _ => 0
    | .item _ _ => 1
    | .panelClosed _ => 2
    | .checkVerdict _ | .checkUnread _ => 3
    | .cutDone _ _ _ _ _ _ | .cutJam _ | .cutTimeout _ | .cutHoldWait _ | .cutCleared _ _ _ _ | .bladeLimit _
    | .cutsDropped _ _ => 4
    | .costRecord _ | .costDump _ => 5
    | .jobClosed _ => 6
    | .headReady | .headFault _ _ | .opAborted _ _ => 7
    | .rollEnd _ _ _ _ | .rollOut _ _ | .feedSlip _ | .stopsDropped _ _ _ => 8
    | .lockExpired _ _ => 9
    | .verifyPass _ | .verifyFail _ | .verifyCleared _ => 10) ∧
  ∀ (n : Notice) (s : State) (level : Nat),
    level = (match s.tables.notice with
      | some levels => levels[n.cls.index]
      | none => 4) →
    (level = 0 → raise n s = s) ∧
    (level ≠ 0 → notices s < 28 →
      raise n s = s.onLink fun l => { l with
        ret := l.ret ++ [{ level := level, tag := 0#8, time := s.now, payload := .notice n }] }) ∧
    (∀ older d younger, level ≠ 0 → 28 ≤ notices s → s.link.ret = older ++ d :: younger →
      d.isReply = false → d.level ≤ 8 → (∀ e ∈ older, e.isReply = false → d.level < e.level) →
      (∀ e ∈ younger, e.isReply = false → d.level ≤ e.level) →
      raise n s = s.onLink fun l =>
        if d.level < level then
          { l with ret := older ++ younger ++
                     [{ level := level, tag := 0#8, time := s.now, payload := .notice n }],
                   displaced := true }
        else { l with displaced := true })

/-- Which headers a whole record may carry, and the fields of its bytes (R4, R5, 1.8 Layouts). -/
def Obligations.HeaderChecks : Prop :=
  (∀ (b : List Byte) (k : Nat), u8 b k = (b.getD k 0#8).toNat ∧
    u16 b k = (b.getD k 0#8).toNat + 256 * (b.getD (k + 1) 0#8).toNat ∧
    u32 b k = (b.getD k 0#8).toNat + 256 * (b.getD (k + 1) 0#8).toNat + 65536 * (b.getD (k + 2) 0#8).toNat +
      16777216 * (b.getD (k + 3) 0#8).toNat) ∧
  (∀ k : StreamKind, (k, k.code) ∈ [(StreamKind.jobOpen, 0x10#8), (.jobClose, 0x11#8), (.itemOpen, 0x12#8),
    (.itemClose, 0x13#8), (.band, 0x14#8), (.feed, 0x15#8), (.clean, 0x16#8), (.tableLoad, 0x17#8)]) ∧
  (∀ k : ExpressKind, (k, k.code) ∈ [(ExpressKind.statusQuery, 0x40#8), (.halt, 0x41#8), (.resume, 0x42#8),
    (.itemAbort, 0x43#8), (.holdRelease, 0x44#8), (.tableBegin, 0x45#8), (.tablePart, 0x46#8), (.tableCommit, 0x47#8),
    (.rollLoad, 0x48#8), (.sensorVerify, 0x49#8), (.verifyClear, 0x4A#8), (.editionReset, 0x4B#8),
    (.cutterClear, 0x4C#8), (.costDump, 0x4D#8), (.counterDump, 0x4E#8), (.faultDump, 0x4F#8),
    (.engineReset, 0x50#8)]) ∧
  ∀ r : Record,
    (∀ k : StreamKind, headerKind r = some (.stream k) ↔
      r.kind = k.code ∧ r.flags = 0#8 ∧ r.reserved = 0#8 ∧
      (if k = .band then 16 ≤ r.length.toNat ∧ r.length.toNat ≤ 3686416
        else r.length.toNat ≤ 65528) ∧ r.length.toNat = r.body.length) ∧
    (∀ k : ExpressKind, headerKind r = some (.express k) ↔
      r.kind = k.code ∧ r.flags = 1#8 ∧ r.reserved = 0#8 ∧ r.length.toNat ≤ 4096 ∧
      r.length.toNat = r.body.length)

/-- RECORD_ARRIVAL: a bad CRC, a bad header, a stream record, and a delivery withheld (the model's reading: logs
12, 37) (R3, R4, R5, R6, R7, R8, R14). -/
def Obligations.RecordArrives : Prop :=
  (∀ bytes, crc32 bytes = ~~~(crcRegister bytes).reverse) ∧
  crc32 [0x31#8, 0x32#8, 0x33#8, 0x34#8, 0x35#8, 0x36#8, 0x37#8, 0x38#8, 0x39#8] = 0xCBF43926#32 ∧
  ∀ (r : Record) (s : State),
    (8 ≤ s.link.hold.length → Waits (.recordArrival r) s) ∧
    (s.link.hold.length < 8 →
      (crc32 (recordHead r) ≠ r.crc →
        Leaves (.recordArrival r) s
          (if replies s < 4 ∧ s.link.hold = [] then reply r.tag .linkError .empty s.clearOut
           else s.clearOut.onLink fun l => { l with hold := l.hold ++ [.reply r.tag .linkError] })) ∧
      (crc32 (recordHead r) = r.crc →
        (r.kind = 0x14#8 → Waits (.recordArrival r) s) ∧
        (∀ k : StreamKind, r.kind = k.code → s.link.rx ≠ .idle → Waits (.recordArrival r) s) ∧
        (r.kind ≠ 0x14#8 → headerKind r = none → (s.link.rx = .idle ∨ ∀ k : StreamKind, r.kind ≠ k.code) →
          Leaves (.recordArrival r) s
            (if replies s < 4 ∧ s.link.hold = [] then
              reply r.tag .badRecord .empty (capture (recordWire r) r.length.toNat false s.clearOut)
             else (capture (recordWire r) r.length.toNat false s.clearOut).onLink fun l =>
              { l with hold := l.hold ++ [.reply r.tag .badRecord] })) ∧
        (∀ k, headerKind r = some (.stream k) → k ≠ .band → s.link.rx = .idle →
          (intakeFill s + (8 + r.body.length) ≤ 65536 →
            Leaves (.recordArrival r) s (s.clearOut.onLink fun l => { l with
              intake := l.intake ++
                [{ kind := k, tag := r.tag, length := r.body.length, body := r.body }] })) ∧
          (65536 < intakeFill s + (8 + r.body.length) → Waits (.recordArrival r) s))))

/-- RECORD_ARRIVAL of an express record: its row, a body no row fixes, the hold, and a delivery withheld (log
12) (R5, R6, R10, R14, R17, R54, R167, R181, 1.2 Express records and the hold). -/
def Obligations.ExpressRecordArrives : Prop :=
  (∀ s : State, actsAtOnce s = true ↔ replies s < 4 ∧ s.link.hold = []) ∧
  (∀ (r : Record) (k : ExpressKind) (s : State), crc32 (recordHead r) = r.crc →
    headerKind r = some (.express k) →
    (8 ≤ s.link.hold.length → Waits (.recordArrival r) s) ∧
    (s.link.hold.length < 8 → 4 ≤ replies s ∨ s.link.hold ≠ [] →
      Leaves (.recordArrival r) s (s.clearOut.onLink fun l => { l with
        hold := l.hold ++ [.express k r.tag r.body] })) ∧
    (actsAtOnce s = true →
      (k = .engineReset ∧ (∀ rest, r.body ≠ 1#8 :: rest ∧ r.body ≠ 2#8 :: rest)) ∨
        (k = .holdRelease ∧ (∀ item rest, r.body ≠ item :: 0#8 :: rest ∧ r.body ≠ item :: 1#8 :: rest)) ∨
        (k = .sensorVerify ∧ (∀ rest, r.body ≠ 2#8 :: rest ∧ r.body ≠ 3#8 :: rest ∧ r.body ≠ 4#8 :: rest ∧
          r.body ≠ 5#8 :: rest)) ∨
        (k = .counterDump ∧ (∀ rest, r.body ≠ 0#8 :: rest ∧ r.body ≠ 1#8 :: rest)) →
      Refuses (.recordArrival r) s k r.tag r.body)) ∧
  ∀ (r : Record) (k : ExpressKind) (s : State), crc32 (recordHead r) = r.crc →
    headerKind r = some (.express k) →
    match k with
    | .statusQuery => exec (.recordArrival r) s = exec (.statusQuery r.tag r.body) s
    | .faultDump => exec (.recordArrival r) s = exec (.faultDump r.tag r.body) s
    | .halt => exec (.recordArrival r) s = exec (.halt r.tag r.body) s
    | .resume => exec (.recordArrival r) s = exec (.resume r.tag r.body) s
    | .itemAbort => exec (.recordArrival r) s = exec (.itemAbort r.tag r.body) s
    | .tableBegin => exec (.recordArrival r) s = exec (.tableBegin r.tag r.body) s
    | .tablePart => exec (.recordArrival r) s = exec (.tablePart r.tag r.body) s
    | .tableCommit => exec (.recordArrival r) s = exec (.tableCommit r.tag r.body) s
    | .rollLoad => exec (.recordArrival r) s = exec (.rollLoad r.tag r.body) s
    | .verifyClear => exec (.recordArrival r) s = exec (.verifyClear r.tag r.body) s
    | .editionReset => exec (.recordArrival r) s = exec (.editionReset r.tag r.body) s
    | .cutterClear => exec (.recordArrival r) s = exec (.cutterClear r.tag r.body) s
    | .costDump => exec (.recordArrival r) s = exec (.costDump r.tag r.body) s
    | .engineReset => ∀ rest,
        (r.body = 2#8 :: rest → exec (.recordArrival r) s = exec (.engineResetAll r.tag rest) s) ∧
        (r.body = 1#8 :: rest → exec (.recordArrival r) s = exec (.engineResetStream r.tag rest) s)
    | .holdRelease => ∀ item rest,
        (r.body = item :: 0#8 :: rest →
          exec (.recordArrival r) s = exec (.holdReleaseContinue r.tag item rest) s) ∧
        (r.body = item :: 1#8 :: rest →
          exec (.recordArrival r) s = exec (.holdReleaseAbort r.tag item rest) s)
    | .sensorVerify => ∀ rest,
        (r.body = 2#8 :: rest → exec (.recordArrival r) s = exec (.sensorVerifyWhite r.tag rest) s) ∧
        (r.body = 3#8 :: rest → exec (.recordArrival r) s = exec (.sensorVerifyDark r.tag rest) s) ∧
        (r.body = 4#8 :: rest → exec (.recordArrival r) s = exec (.sensorVerifyLamp r.tag rest) s) ∧
        (r.body = 5#8 :: rest → exec (.recordArrival r) s = exec (.sensorVerifyFull r.tag rest) s)
    | .counterDump => ∀ rest,
        (r.body = 0#8 :: rest → exec (.recordArrival r) s = exec (.counterDumpRead r.tag rest) s) ∧
        (r.body = 1#8 :: rest → exec (.recordArrival r) s = exec (.counterDumpClear r.tag rest) s)

/-- BAND_HEADER_ARRIVAL, BAND_LAST_BYTE and DROPPED_BAND_LAST_BYTE, and when they are withheld (choices: logs 2,
12, 13, 37, 53) (R4, R6, R7, R8, R14, R58, R63). -/
def Obligations.BandArrives : Prop :=
  (∀ s : State,
    (8 ≤ s.link.hold.length ∨ s.link.rx ≠ .idle → ∀ flags tag reserved length fixed,
      Waits (.bandHeaderArrival flags tag reserved length fixed) s) ∧
    (8 ≤ s.link.hold.length ∨ (∀ band wire length tag, s.link.rx ≠ .filling band wire length tag) →
      ∀ planes crc, Waits (.bandLastByte planes crc) s) ∧
    (8 ≤ s.link.hold.length ∨ s.link.rx ≠ .dropping → ∀ rest, Waits (.droppedBandLastByte rest) s)) ∧
  (∀ (flags tag reserved : Byte) (length : BitVec 32) (fixed : List Byte) (s : State),
    s.link.hold.length < 8 → s.link.rx = .idle →
    (flags = 0#8 ∧ reserved = 0#8 ∧ 16 ≤ length.toNat ∧ length.toNat ≤ 3686416 →
      intakeFill s + (8 + fixed.length) ≤ 65536 →
      Leaves (.bandHeaderArrival flags tag reserved length fixed) s (s.clearOut.onLink fun l =>
        { l with intake := l.intake ++ [{ kind := .band, tag := tag, length := length.toNat, body := fixed }],
                 rx := .waiting })) ∧
    (flags = 0#8 ∧ reserved = 0#8 ∧ 16 ≤ length.toNat ∧ length.toNat ≤ 3686416 →
      65536 < intakeFill s + (8 + fixed.length) →
      Waits (.bandHeaderArrival flags tag reserved length fixed) s) ∧
    (¬(flags = 0#8 ∧ reserved = 0#8 ∧ 16 ≤ length.toNat ∧ length.toNat ≤ 3686416) →
      Leaves (.bandHeaderArrival flags tag reserved length fixed) s
        (arrivalReply tag .badRecord
          (capture ([0x14#8, flags, tag, reserved] ++ leBytes 4 length.toNat ++ fixed) length.toNat true
            (s.clearOut.onLink fun l => { l with rx := .dropping }))))) ∧
  (∀ (planes wire : List Byte) (crc : BitVec 32) (band length : Nat) (tag : Byte) (s : State),
    s.link.hold.length < 8 → s.link.rx = .filling band wire length tag →
    (length = 16 + planes.length ∧ crc32 (wire ++ planes) = crc →
      Leaves (.bandLastByte planes crc) s
        ((s.clearOut.onLink fun l => { l with rx := .idle }).onPath fun p => { p with
          store := p.store.map fun b => if b.serial = band then
            { b with channels := splitPlanes (b.rows * rowBytes b.columns) b.channels planes,
                     state := .filled } else b })) ∧
    (∀ b, ¬(length = 16 + planes.length ∧ crc32 (wire ++ planes) = crc) → findBand s band = some b →
      Leaves (.bandLastByte planes crc) s
        (abortItem b.item .bandLost
          (arrivalReply tag .linkError (s.clearOut.onLink fun l => { l with rx := .idle }))))) ∧
  (∀ (rest : List Byte) (s : State), s.link.hold.length < 8 → s.link.rx = .dropping →
    Leaves (.droppedBandLastByte rest) s (s.clearOut.onLink fun l => { l with
      rx := .idle,
      capture := if l.capture.filling then
        { l.capture with bytes := (l.capture.bytes ++ rest).take 64, filling := false }
        else l.capture }))

/-- Every step keeps every account backed: reserved + 150,000 at most the sub-tank, the sub-tank at most
2,000,000 (R84, R85, R66, R86, R87, R91, R93). -/
def Obligations.AccountsStayBacked : Prop :=
  ∀ s t : State, InkBacked s → step s = .next t → InkBacked t

/-- RETURN_ENTRY_SEND: the oldest entry of the highest rank is sent, and a departing reply frees the hold (R12,
R6). -/
def Obligations.ReturnEntrySent : Prop :=
  ∀ (older : List Entry) (e : Entry) (younger : List Entry) (s : State),
    s.link.ret = older ++ e :: younger → (∀ x ∈ older, x.level < e.level) →
    (∀ x ∈ younger, x.level ≤ e.level) →
    (e.isReply = false ∨ s.link.hold = [] →
      Leaves .returnEntrySend s
        ((s.clearOut.onLink fun l => { l with ret := older ++ younger }).send (.upstream e))) ∧
    (∀ tag status rest, e.isReply = true → replies s = 4 → s.link.hold = .reply tag status :: rest →
      Leaves .returnEntrySend s (reply tag status .empty
        ((s.clearOut.onLink fun l => { l with ret := older ++ younger, hold := rest }).send (.upstream e)))) ∧
    (∀ k tag body rest, e.isReply = true → replies s = 4 → s.link.hold = .express k tag body :: rest →
      k ≠ .engineReset ∨ rest = [] →
      Leaves .returnEntrySend s (actExpress k tag body
        ((s.clearOut.onLink fun l => { l with ret := older ++ younger, hold := rest }).send (.upstream e))))

/-- POWER_ON and ENGINE_RESET_ALL, at once or from the hold, give every block its power-on values (logs 7, 20,
26) (R18, R38, R60, R78, R83, R96, R117, R133, R146, R164, R172, R182). -/
def Obligations.PowerOnValues : Prop :=
  (∀ s : State, ∃ t, exec .powerOn s = .next t ∧ AtPowerOn 0#32 s t ∧ t.out = [] ∧
    t.link.rx = .idle ∧ ∀ e ∈ t.link.ret, e.isReply = false ∧ e.level = 4 ∧ e.time = 0#32) ∧
  (∀ (tag : Byte) (s : State), actsAtOnce s = true →
    ∃ t ns, exec (.engineResetAll tag []) s = .next t ∧ AtPowerOn s.now s t ∧ t.out = [.headReset] ∧
      t.link.rx = (if s.link.rx = .idle then .idle else .dropping) ∧
      (∀ e ∈ ns, e.isReply = false ∧ e.level = 4 ∧ e.time = s.now) ∧
      t.link.ret = ns ++ [{ level := 8, tag := tag, time := s.now, payload := .reply .ok .empty }]) ∧
  (∀ (tag : Byte) (rest : List Byte) (s : State), actsAtOnce s = true → rest ≠ [] →
    Refuses (.engineResetAll tag rest) s .engineReset tag (2#8 :: rest)) ∧
  (∀ (older : List Entry) (e : Entry) (younger : List Entry) (tag : Byte) (held : List (Byte × Status)) (s : State),
    s.link.ret = older ++ e :: younger → (∀ x ∈ older, x.level < e.level) → (∀ x ∈ younger, x.level ≤ e.level) →
    e.isReply = true → replies s = 4 → held.length ≤ 3 →
    s.link.hold = .express .engineReset tag [2#8] :: held.map (fun h => .reply h.1 h.2) →
    ∃ t ns, exec .returnEntrySend s = .next t ∧ AtPowerOn s.now s t ∧ t.out = [.upstream e, .headReset] ∧
      t.link.rx = (if s.link.rx = .idle then .idle else .dropping) ∧
      (∀ x ∈ ns, x.isReply = false ∧ x.level = 4 ∧ x.time = s.now) ∧
      t.link.ret = ns ++ ((tag, Status.ok) :: held).map fun h =>
        { level := 8, tag := h.1, time := s.now, payload := .reply h.2 .empty })

/-- LINK_RESET and ENGINE_RESET_STREAM flush the link port, drop a staged load and abort the open work (logs 20,
21) (R17, R19, R39, R42, R55, R58, R61, R82). -/
def Obligations.LinkResetEffects : Prop :=
  (∀ (tag : Byte) (rest : List Byte) (s : State), actsAtOnce s = true → rest ≠ [] →
    Refuses (.engineResetStream tag rest) s .engineReset tag (1#8 :: rest)) ∧
  ∀ (stream : Bool) (s base : State), (s.items.jobs.map Job.number).Nodup →
    base.items = s.items →
    ∃ mid u t : State,
      mid = ((base.onLink fun l =>
          { intake := [], rx := if stream = true ∧ l.rx ≠ .idle then .dropping else .idle, hold := [], ret := [],
            displaced := l.displaced || l.ret.any fun e => !e.isReply,
            capture := { armed := true, bytes := [], length := 0, filling := false } }).onTables
          fun k => { k with lock := none, staging := [], expiry := none }) ∧
      (openItem s = none → u = mid) ∧
      (∀ i, openItem s = some i → u = abortItem i.uid .linkReset mid ∧
        (findItem s i.uid = some i → i.fate = .complete → AbortedBy i.uid mid u)) ∧
      (openJob s = none → t = u) ∧
      (∀ j, openJob s = some j →
        ((∃ i ∈ u.items.live, i.job = j.number) →
          t = u.onItems fun m => { m with jobs := m.jobs.map fun k =>
            if k.number = j.number then { k with state := .closing, fate := .aborted } else k }) ∧
        ((∀ i ∈ u.items.live, i.job ≠ j.number) →
          t = (u.onItems fun m => { m with jobs := m.jobs.map fun k =>
              if k.number = j.number then { k with state := .done, fate := .aborted } else k }).onCosting
                fun c => { c with jobQueue := c.jobQueue ++ [j.number] })) ∧
      (stream = false → base = s.clearOut → Leaves .linkReset s t) ∧
      (stream = true → base = s.clearOut → ∀ tag : Byte, actsAtOnce s = true →
        Replies (.engineResetStream tag []) s tag .ok .empty t) ∧
      ∀ (older : List Entry) (e : Entry) (younger : List Entry) (tag : Byte) (held : List (Byte × Status)),
        stream = true → s.link.ret = older ++ e :: younger → (∀ x ∈ older, x.level < e.level) →
        (∀ x ∈ younger, x.level ≤ e.level) → e.isReply = true → replies s = 4 → held.length ≤ 3 →
        s.link.hold = .express .engineReset tag [1#8] :: held.map (fun h => .reply h.1 h.2) →
        base = (s.clearOut.onLink fun l => { l with ret := older ++ younger, hold := [] }).send (.upstream e) →
        Leaves .returnEntrySend s (((tag, Status.ok) :: held).foldl (fun v h => reply h.1 h.2 .empty v) t)

/-- STATUS_QUERY: the status body, and the displaced flag cleared (R16, R10). -/
def Obligations.StatusQueried : Prop :=
  ∀ (tag : Byte) (body : List Byte) (s : State), actsAtOnce s = true →
    (body ≠ [] → Refuses (.statusQuery tag body) s .statusQuery tag body) ∧
    ∃ b : StatusBody,
      Replies (.statusQuery tag []) s tag .ok (.status b)
        (s.clearOut.onLink fun l => { l with displaced := false }) ∧
      b.engine = s.path.engine ∧ b.loaded = s.media.roll.loaded ∧ b.rollKind = s.media.roll.kind ∧
      b.width = s.media.roll.width ∧ b.remaining = s.media.roll.remaining ∧
      b.reserved = s.media.roll.reserved ∧ b.position = s.media.roll.position ∧
      b.lastCutRow = s.media.roll.lastCutRow ∧
      (∀ c : Chan, b.channels[c] = (s.ink.slots[c].cart.state,
        s.ink.accounts[c].subTank - (150000 + s.ink.accounts[c].reserved))) ∧
      b.slots = s.path.store.length ∧ b.stops = s.media.stops.length ∧
      (∀ sec, sec ∈ b.present ↔ sectionPresent s sec = true) ∧ b.lock = s.tables.lock ∧
      b.valid = s.colour.cal.valid ∧ b.priceVersion = s.tables.priceVersion ∧
      b.displaced = s.link.displaced

/-- FAULT_DUMP: the capture is dumped and armed again (R15). -/
def Obligations.FaultDumped : Prop :=
  ∀ (tag : Byte) (s : State), actsAtOnce s = true →
    Replies (.faultDump tag []) s tag .ok
      (.capture (BitVec.ofNat 8 s.link.capture.length :: s.link.capture.bytes))
      (s.clearOut.onLink fun l =>
        { l with capture := { armed := true, bytes := [], length := 0, filling := false } }) ∧
    (s.link.capture = { armed := true, bytes := [], length := 0, filling := false } →
      Replies (.faultDump tag []) s tag .ok (.capture [0#8])
        (s.clearOut.onLink fun l =>
          { l with capture := { armed := true, bytes := [], length := 0, filling := false } })) ∧
    (∀ first rest, Replies (.faultDump tag (first :: rest)) s tag .badRecord .empty
      (if s.link.capture.armed then
        s.clearOut.onLink fun l => { l with capture :=
          { armed := false, bytes := (goodWire 0x4F#8 1#8 tag (first :: rest)).take 64,
            length := if rest.length + 13 ≤ 254 then rest.length + 13 else 255, filling := false } }
      else s.clearOut))

/-- TABLE_BEGIN takes or keeps the lock; LOCK_EXPIRED frees it at its deadline (R31, R34, R35). -/
def Obligations.StagedLoadBeginsAndExpires : Prop :=
  (∀ (tag : Byte) (body : List Byte) (s : State), actsAtOnce s = true →
    (∀ code sec, body = [code, 0#8, 0#8, 0#8] → sectionOf code.toNat = some sec →
      (s.tables.lock = none ∨ s.tables.lock = some sec →
        Replies (.tableBegin tag body) s tag .ok .empty (s.clearOut.onTables fun t =>
          { t with lock := some sec, staging := List.replicate sec.imageLength none,
                   expiry := some (s.now + 2000#32) })) ∧
      (∀ other, s.tables.lock = some other → other ≠ sec →
        Replies (.tableBegin tag body) s tag .locked .empty s.clearOut)) ∧
    ((∀ code sec, body = [code, 0#8, 0#8, 0#8] → sectionOf code.toNat ≠ some sec) →
      Refuses (.tableBegin tag body) s .tableBegin tag body)) ∧
  (∀ (sec : Section) (deadline : Time) (s : State), s.tables.lock = some sec →
    s.tables.expiry = some deadline →
    (0 ≤ (s.now - deadline).toInt →
      Leaves .lockExpired s
        (raise (.lockExpired sec (s.tables.staging.countP Option.isSome))
          (s.clearOut.onTables fun t => { t with lock := none, staging := [], expiry := none }))) ∧
    ((s.now - deadline).toInt < 0 → Waits .lockExpired s))

/-- TABLE_PART writes into the staging area of the section that holds the lock (R32). -/
def Obligations.TablePartWrites : Prop :=
  ∀ (tag : Byte) (body : List Byte) (s : State), actsAtOnce s = true → StagingFits s →
    (s.tables.lock = none → Replies (.tablePart tag body) s tag .refusedState .empty s.clearOut) ∧
    (∀ sec, s.tables.lock = some sec →
      (body.length < 5 ∨ sec.imageLength < u32 body 0 + (body.length - 4) →
        Refuses (.tablePart tag body) s .tablePart tag body) ∧
      (5 ≤ body.length → u32 body 0 + (body.length - 4) ≤ sec.imageLength →
        ∃ staging, Replies (.tablePart tag body) s tag .ok .empty (s.clearOut.onTables fun t =>
            { t with staging := staging, expiry := some (s.now + 2000#32) }) ∧
          staging.length = sec.imageLength ∧
          ∀ k, k < sec.imageLength → staging[k]? =
            if u32 body 0 ≤ k ∧ k < u32 body 0 + (body.length - 4) then
              (body[4 + (k - u32 body 0)]?).map some
            else s.tables.staging[k]?))

/-- TABLE_COMMIT ends the staged load and commits a valid image (R33, R21, R30, R14). -/
def Obligations.TableCommitEndsLoad : Prop :=
  ∀ (tag : Byte) (s : State), actsAtOnce s = true →
    (∀ body, (∀ code sec, body = [code, 0#8, 0#8, 0#8] → sectionOf code.toNat ≠ some sec) →
      Refuses (.tableCommit tag body) s .tableCommit tag body) ∧
    ∀ code sec, sectionOf code.toNat = some sec →
      (s.tables.lock = none →
        Replies (.tableCommit tag [code, 0#8, 0#8, 0#8]) s tag .refusedState .empty s.clearOut) ∧
      (∀ other, s.tables.lock = some other → other ≠ sec →
        Replies (.tableCommit tag [code, 0#8, 0#8, 0#8]) s tag .locked .empty s.clearOut) ∧
      (s.tables.lock = some sec →
        (none ∈ s.tables.staging ∨ (∃ image, s.tables.staging = image.map some ∧ judgeImage sec image = none) →
          Replies (.tableCommit tag [code, 0#8, 0#8, 0#8]) s tag .badTable .empty
            (capture (goodWire 0x47#8 1#8 tag [code, 0#8, 0#8, 0#8]) 4 false
              (s.clearOut.onTables fun t => { t with lock := none, staging := [], expiry := none }))) ∧
        (∀ image c, s.tables.staging = image.map some → judgeImage sec image = some c →
          Replies (.tableCommit tag [code, 0#8, 0#8, 0#8]) s tag .ok .empty
            (commitContent c
              (s.clearOut.onTables fun t => { t with lock := none, staging := [], expiry := none }))))

/-- What a commit changes: its section, the slots at a CHANNEL_MAP, the cut stops where it disables the cutter
(logs 18, 26, 41) (R21, R30, R93, R107, R108, R111, R112, R113, R122, R123, R144). -/
def Obligations.CommittedContent : Prop :=
  (∀ (c : Content) (s : State),
    (commitContent c s).tables =
      (match c with
       | .channelMap m => { s.tables with channelMap := some m }
       | .drop d => { s.tables with drop := some d }
       | .mediaProfile p => { s.tables with mediaProfile := some p }
       | .price p => { s.tables with price := some p, priceVersion := (s.tables.priceVersion + 1) % 65536 }
       | .patch p => { s.tables with patch := some p }
       | .tolerance l => { s.tables with tolerance := some l }
       | .maintenance m => { s.tables with maintenance := some m }
       | .notice n => { s.tables with notice := some n }) ∧
    ((∀ m, c ≠ .channelMap m) → (∀ p, c = .mediaProfile p → p.cutterEnabled = true) →
      commitContent c s = s.onTables fun _ => (commitContent c s).tables)) ∧
  (∀ (m : Vector MapEntry 12) (s t : State), t = commitContent (.channelMap m) s →
    OnlyChanges [.link, .tables, .ink] s t ∧ t.ink.waits = s.ink.waits ∧ t.ink.waitAsker = s.ink.waitAsker ∧
    ∀ (c : Chan) (k : Cartridge) (a : Account) (agrees : Prop), k = s.ink.slots[c].cart → a = s.ink.accounts[c] →
      (agrees ↔ ∃ x, k.contents = some x ∧ x.kind.toNat = m[c].inkKind) →
      ((k.state = .ready ∨ k.state = .low ∨ k.state = .empty) → ¬agrees →
        t.ink.slots[c] = { s.ink.slots[c] with cart := { k with state := .rejected, reason := some .wrongInk } } ∧
        t.ink.accounts[c] = a ∧
        ∀ x e, k.contents = some x → k.estimate = some e →
          (∀ d : Chan, d ≠ c → ∀ y, s.ink.slots[d].cart.contents = some y → y.serial ≠ x.serial) →
          ({ serial := x.serial, volume := e } : Recent) ∈ t.ink.recent) ∧
      (k.state = .rejected → k.reason = some .wrongInk → agrees →
        t.ink.slots[c] = { s.ink.slots[c] with cart := { k with
          state := .reading, reason := none, contents := none, estimate := none, writeDue := false,
          readAttempts := if k.write = none then 1 else 0,
          readSince := if k.write = none then some s.now else k.readSince } } ∧
        t.ink.accounts[c] = a ∧ (k.write = none → Output.tagRead c ∈ t.out)) ∧
      (∀ e e' drawn dest, k.state = .ready ∨ k.state = .low → agrees → k.estimate = some e →
        e' = (match s.ink.slots[c].sensed with
          | .ok => e
          | .low => min e m[c].lowMark
          | .empty => 0) →
        dest = (if e' = 0 then .empty else if e' ≤ m[c].lowMark then .low else .ready) →
        drawn = (if dest = k.state then 0 else min (2000000 - a.subTank) e') →
        ∃ o b, o = t.ink.slots[c].cart ∧ b = t.ink.accounts[c] ∧ o.estimate = some (e' - drawn) ∧
          o.state = (if e' - drawn = 0 then .empty
            else if dest = .ready ∧ m[c].lowMark < e' - drawn then .ready else .low) ∧
          o.contents = k.contents ∧ o.reason = k.reason ∧ b.subTank = a.subTank + drawn ∧
          b.reserved = a.reserved ∧ b.residue = a.residue ∧ b.consumed = a.consumed ∧ b.flushed = a.flushed ∧
          (a.refilled + drawn < 2 ^ 64 → b.refilled = a.refilled + drawn)) ∧
      (k.state = .empty ∧ agrees ∨ k.state = .absent ∨ k.state = .seating ∨ k.state = .reading ∨
          (k.state = .rejected ∧ (k.reason ≠ some .wrongInk ∨ ¬agrees)) →
        t.ink.slots[c] = s.ink.slots[c] ∧ t.ink.accounts[c] = a)) ∧
  (∀ (p : MediaProfile) (gone : List Stop) (s t : State), p.cutterEnabled = false →
    t = commitContent (.mediaProfile p) s →
    gone = (s.media.stops.filter fun u => !u.isMeasure && s.cutter.held != some u.uid) →
    (∀ u ∈ s.media.stops, s.cutter.held = some u.uid → u.isMeasure = false) →
    t.media.stops = (s.media.stops.filter fun u =>
      u.isMeasure || (s.cutter.held == some u.uid && s.cutter.state != .waiting)) ∧
    t.media.roll.position + t.media.overrun = s.media.roll.position + s.media.overrun ∧
    (StopsOrdered s → ∀ n, n = rowsLetIn t.media.stops s →
      t.media.roll.position = s.media.roll.position + n ∧ t.media.overrun = s.media.overrun - n) ∧
    t.media.roll.lastCutRow = s.media.roll.lastCutRow ∧ t.media.roll.remaining = s.media.roll.remaining ∧
    t.cutter.bladeCount = s.cutter.bladeCount ∧
    (∀ held, s.cutter.state = .waiting → s.cutter.held = some held → CutterFreed s t ∧
      (∀ f, s.path.flight = some f → pausedStop s = some held →
        t.path = { s.path with flight := some { f with phase := .running s.now } } ∧
        t.out = s.out ++ [.proceed f.opId])) ∧
    (s.cutter.state ≠ .waiting ∨ s.cutter.held = none → t.cutter = s.cutter) ∧
    (s.cutter.state ≠ .waiting ∨ s.cutter.held = none ∨ pausedStop s ≠ s.cutter.held →
      t.path = s.path ∧ t.out = s.out) ∧
    ((∀ i ∈ s.items.live, i.state = .opened) → t.items = s.items ∧
      t.link = (if gone = [] then s.link
        else (raise (.cutsDropped gone.length (gone.map Stop.itemId).dedup) s).link)) ∧
    OnlyChanges [.link, .tables, .items, .path, .media, .cutter, .colour, .costing] s t)

/-- TABLE_LOAD: held, refused or committed at its take; which image of each section is valid, and how it is
clamped (R29, R21, R9, R14, R20, R22, R23, R24, R25, R26, R27). -/
def Obligations.TableLoadTaken : Prop :=
  (∀ (s : State) (e : IntakeEntry) (rest : List IntakeEntry), TakeReady s e rest → e.kind = .tableLoad →
    (∀ sec, tableLoadSection e.body = some sec →
      (s.tables.lock = some sec ∨ (sec = .drop ∧ ∃ b ∈ s.path.store, b.state = .filled) →
        Waits .tableLoad s) ∧
      (s.tables.lock ≠ some sec → (sec = .drop → ∀ b ∈ s.path.store, b.state ≠ .filled) →
        (∀ image c, e.body.drop 1 = [0#8, 0#8, 0#8] ++ image → image.length = sec.imageLength →
          judgeImage sec image = some c →
          Leaves .tableLoad s (reply e.tag .ok .empty (commitContent c (afterTake s rest)))) ∧
        (∀ image, e.body.drop 1 = [0#8, 0#8, 0#8] ++ image → image.length = sec.imageLength →
          judgeImage sec image = none →
          Leaves .tableLoad s (reply e.tag .badTable .empty
            (capture (goodWire 0x17#8 0#8 e.tag e.body) e.length false (afterTake s rest)))) ∧
        ((∀ image, e.body.drop 1 = [0#8, 0#8, 0#8] ++ image → image.length ≠ sec.imageLength) →
          Leaves .tableLoad s (takeBad s e rest)))) ∧
    (tableLoadSection e.body = none → Leaves .tableLoad s (takeBad s e rest))) ∧
  (tableLoadSection [] = none ∧ ∀ code more, tableLoadSection (code :: more) = sectionOf code.toNat) ∧
  (∀ n sec, sectionOf n = some sec ↔ (n, sec) ∈ [(1, Section.channelMap), (2, .drop), (3, .mediaProfile),
    (4, .price), (5, .patch), (6, .tolerance), (7, .maintenance), (8, .notice)]) ∧
  (∀ sec : Section, (sec, sec.imageLength) ∈ [(Section.channelMap, 192), (.drop, 336), (.mediaProfile, 44),
    (.price, 84), (.patch, 6208), (.tolerance, 64), (.maintenance, 144), (.notice, 44)]) ∧
  (∀ (sec : Section) (image : List Byte), image.length = sec.imageLength →
    (ImageValid (imageField image) sec → judgeImage sec image = some (imageContent (imageField image) sec)) ∧
    (¬ImageValid (imageField image) sec → judgeImage sec image = none))

/-- JOB_OPEN: the take, its order of checks and the new job (R40). -/
def Obligations.JobOpenTaken : Prop :=
  ∀ (s : State) (e : IntakeEntry) (rest : List IntakeEntry), TakeReady s e rest → e.kind = .jobOpen →
    (4 ≤ s.items.jobs.length → Waits .jobOpen s) ∧
    (s.items.jobs.length < 4 →
      (¬(e.body.length = 8 ∧ ∀ k, 4 ≤ k → k < 8 → u8 e.body k = 0) → Leaves .jobOpen s (takeBad s e rest)) ∧
      (e.body.length = 8 → (∀ k, 4 ≤ k → k < 8 → u8 e.body k = 0) →
        ((∃ j ∈ s.items.jobs, j.state = .opened ∨ j.number = u32 e.body 0) →
          Leaves .jobOpen s (takeRefused s e rest .refusedState)) ∧
        ((∀ j ∈ s.items.jobs, j.state ≠ .opened ∧ j.number ≠ u32 e.body 0) →
          Leaves .jobOpen s (reply e.tag .ok .empty ((afterTake s rest).onItems fun m =>
            { m with jobs := m.jobs ++ [{ number := u32 e.body 0, state := .opened, itemsClosed := 0, total := 0,
                                          flush := Vector.replicate 12 0, fate := .complete }] })))))

/-- JOB_CLOSE: the take, its order of checks and the job's next state (R41, R42). -/
def Obligations.JobCloseTaken : Prop :=
  (∀ (body : List Byte) (n : Nat), numberBody body = some n ↔
    body.length = 8 ∧ n = u32 body 0 ∧ ∀ k, 4 ≤ k → k < 8 → u8 body k = 0) ∧
  ∀ (s : State) (e : IntakeEntry) (rest : List IntakeEntry), TakeReady s e rest → e.kind = .jobClose →
    (numberBody e.body = none → Leaves .jobClose s (takeBad s e rest)) ∧
    ∀ n, numberBody e.body = some n →
      ((∀ j ∈ s.items.jobs, j.number ≠ n) → Leaves .jobClose s (takeRefused s e rest .unknownRef)) ∧
      ∀ j, findJob s n = some j →
        (j.state ≠ .opened ∨ (∃ i ∈ s.items.live, i.job = n ∧ i.isOpen = true) →
          Leaves .jobClose s (takeRefused s e rest .refusedState)) ∧
        (j.state = .opened → (∀ i ∈ s.items.live, i.job = n → i.isOpen = false) →
          ((∃ i ∈ s.items.live, i.job = n) →
            Leaves .jobClose s (reply e.tag .ok .empty ((afterTake s rest).onItems fun m => { m with
              jobs := m.jobs.map fun k => if k.number = n then { k with state := .closing } else k }))) ∧
          ((∀ i ∈ s.items.live, i.job ≠ n) →
            Leaves .jobClose s (reply e.tag .ok .empty (((afterTake s rest).onItems fun m => { m with
              jobs := m.jobs.map fun k => if k.number = n then { k with state := .done } else k }).onCosting
                fun c => { c with jobQueue := c.jobQueue ++ [n] }))))

/-- ITEM_OPEN: the take, its order of checks, the admitted item, and the edition entry it finds or takes (R43,
R44, R159, R174). -/
def Obligations.ItemOpenTaken : Prop :=
  (∀ (body : List Byte) (b : ItemOpenBody), itemOpenBody body = some b ↔
    body.length = 20 ∧ u8 body 3 = 0 ∧ 1 ≤ u8 body 0 ∧ b.id = u8 body 0 ∧
    ((u8 body 1 = 0 ∧ b.policy = .report) ∨ (u8 body 1 = 1 ∧ b.policy = .holdCut) ∨
      (u8 body 1 = 2 ∧ b.policy = .holdPrint)) ∧
    ((u8 body 2 = 0 ∧ u32 body 8 = 0 ∧ b.edition = none) ∨ (u8 body 2 = 1 ∧ b.edition = some (u32 body 8))) ∧
    b.job = u32 body 4 ∧ b.print = u32 body 12 ∧ b.declared = u32 body 16 ∧
    1 ≤ u32 body 16 ∧ u32 body 16 ≤ 9600000) ∧
  (∀ (s : State) (e : IntakeEntry) (rest : List IntakeEntry), TakeReady s e rest → e.kind = .itemOpen →
    (16 ≤ s.items.live.length ∨ s.tables.lock = some .mediaProfile → Waits .itemOpen s) ∧
    (s.items.live.length < 16 → s.tables.lock ≠ some .mediaProfile →
      (itemOpenBody e.body = none → Leaves .itemOpen s (takeBad s e rest)) ∧
      ∀ b, itemOpenBody e.body = some b →
        (s.tables.mediaProfile = none ∨ s.tables.price = none → Leaves .itemOpen s (takeRefused s e rest .noTable)) ∧
        ∀ p, s.tables.mediaProfile = some p → s.tables.price.isSome = true →
          ((∀ j ∈ s.items.jobs, j.number ≠ b.job) → Leaves .itemOpen s (takeRefused s e rest .unknownRef)) ∧
          ∀ j, findJob s b.job = some j →
            (j.state ≠ .opened ∨ (∃ i ∈ s.items.live, i.id = b.id ∨ i.isOpen = true) →
              Leaves .itemOpen s (takeRefused s e rest .refusedState)) ∧
            (j.state = .opened → (∀ i ∈ s.items.live, i.id ≠ b.id ∧ i.isOpen = false) →
              ∀ r : Nat, s.items.cutRef ≤ s.items.planRow →
                r = b.declared + (b.declared + p.maxPanel - 1) / p.maxPanel * p.gutter + p.cutter +
                  (s.items.planRow - s.items.cutRef).toNat →
                (s.media.roll.loaded = false ∨ s.media.roll.remaining - s.media.roll.reserved < r →
                  Leaves .itemOpen s (takeRefused s e rest .noMedia)) ∧
                (s.media.roll.loaded = true → r ≤ s.media.roll.remaining - s.media.roll.reserved →
                  (∀ n, b.edition = some n → takeEdition s n = none →
                    Leaves .itemOpen s (takeRefused s e rest .noRoom)) ∧
                  ∀ l, (b.edition = none ∧ l = s.colour.editions ∨
                      ∃ n, b.edition = some n ∧ takeEdition s n = some l) →
                    Leaves .itemOpen s (reply e.tag .ok .empty
                      ((((afterTake s rest).onItems fun m => { m with
                        nextUid := m.nextUid + 1,
                        live := m.live ++
                          [{ uid := m.nextUid, id := b.id, job := b.job, edition := b.edition, print := b.print,
                             policy := b.policy, declared := b.declared, allowance := b.declared,
                             state := .opened, under := none, fate := .complete, rowsReceived := 0,
                             rowsPrinted := 0, imageDpl := Vector.replicate 12 0,
                             checkDpl := Vector.replicate 12 0, flushNl := Vector.replicate 12 0,
                             imageRows := 0, checkRows := 0, gutterRows := 0, leadRows := 0,
                             reservation := r, panels := [], openRows := 0, firstRow := none, cutCount := 0,
                             abortFeedRows := 0, started := false, pendingClose := none, lastSettled := none,
                             abortOrder := 0, dryMark := none, noteKind := s.media.roll.kind,
                             noteWidth := s.media.roll.width }] }).onMedia fun m => { m with
                        roll := { m.roll with reserved := m.roll.reserved + r } }).onColour fun c => { c with
                        editions := l })))))) ∧
  (∀ (n : Nat) (s : State), (s.colour.editions.map Edition.number).Nodup →
    (∀ before e after, s.colour.editions = before ++ e :: after → e.number = n →
      takeEdition s n = some (e :: (before ++ after))) ∧
    ((∀ e ∈ s.colour.editions, e.number ≠ n) →
      (s.colour.editions.length < 8 → takeEdition s n = some (freshEdition n :: s.colour.editions)) ∧
      (8 ≤ s.colour.editions.length →
        (∀ before e after, s.colour.editions = before ++ e :: after →
          (∀ i ∈ s.items.live, i.edition ≠ some e.number) →
          (∀ a ∈ after, ∃ i ∈ s.items.live, i.edition = some a.number) →
          takeEdition s n = some (freshEdition n :: (before ++ after))) ∧
        ((∀ a ∈ s.colour.editions, ∃ i ∈ s.items.live, i.edition = some a.number) →
          takeEdition s n = none))))

/-- No step takes the media position past a stop of the list (new stops: log 47), or leaves a run-out wait
without its conditions (log 48) (R121, R122, R123, R119, R129). -/
def Obligations.PositionStaysBehind : Prop :=
  (∀ s t : State, RunOutKept s → step s = .next t → RunOutKept t) ∧
  ∀ s t : State, StopsOrdered s → PositionBehind s → StopIdsTaken s → step s = .next t →
    StopIdsTaken t ∧
    (∀ u ∈ t.media.stops, (∃ v ∈ s.media.stops, v.uid = u.uid ∧ v.position = u.position) →
      t.media.roll.position ≤ u.position) ∧
    ((∀ w ∈ t.media.stops, (∀ v ∈ s.media.stops, v.uid = w.uid → v.position ≠ w.position) →
      t.media.roll.position ≤ w.position) → PositionBehind t)

/-- ITEM_CLOSE: the take, its order of checks and the close of the open panel (a malformed body: log 49; a HELD
item: log 19) (R51, R52, R9). -/
def Obligations.ItemCloseTaken : Prop :=
  (∀ (body : List Byte) (id : Nat), byteBody body = some id ↔
    body.length = 4 ∧ id = u8 body 0 ∧ u8 body 1 = 0 ∧ u8 body 2 = 0 ∧ u8 body 3 = 0) ∧
  ∀ (s : State) (e : IntakeEntry) (rest : List IntakeEntry), TakeReady s e rest → e.kind = .itemClose →
    s.media.stops.length ≤ 32 →
    (s.tables.lock = some .mediaProfile → Waits .itemClose s) ∧
    (s.tables.lock ≠ some .mediaProfile →
      (byteBody e.body = none → Leaves .itemClose s (takeBad s e rest)) ∧
      ∀ id, byteBody e.body = some id →
        ((∀ i ∈ s.items.live, i.id ≠ id) → Leaves .itemClose s (takeRefused s e rest .unknownRef)) ∧
        ∀ i, itemById s id = some i →
          (∀ p, s.tables.mediaProfile = some p → 0 < i.openRows →
            32 < s.media.stops.length + panelStops p ∨ (p.gutter ≠ 0 ∧ placeFreeForIntake s = false) →
            Waits .itemClose s) ∧
          ((∀ p, s.tables.mediaProfile = some p → 0 < i.openRows →
              s.media.stops.length + panelStops p ≤ 32 ∧ (p.gutter = 0 ∨ placeFreeForIntake s = true)) →
            (i.isOpen = false → Leaves .itemClose s (takeRefused s e rest .refusedState)) ∧
            (i.state = .opened →
              Leaves .itemClose s (reply e.tag .ok .empty
                (advanceItem i.uid (raiseItem .closing i.uid (mapItem i.uid (fun k => { k with state := .closing })
                  (if 0 < i.openRows then closePanel i.uid true none (afterTake s rest)
                   else afterTake s rest)))))) ∧
            (i.state = .held → i.under = some .opened →
              Leaves .itemClose s (reply e.tag .ok .empty
                (advanceItem i.uid (mapItem i.uid (fun k => { k with under := some .closing })
                  (if 0 < i.openRows then closePanel i.uid true none (afterTake s rest)
                   else afterTake s rest)))))))

/-- What the close of a panel plans and reports, at a take and at an abort (R49, R50, R56, R121, R135, R136). -/
def Obligations.PanelCloses : Prop :=
  ∀ (uid : Nat) (last : Bool) (aborted : Option Time) (i : Item) (p : Panel) (before : List Panel) (mp : MediaProfile)
    (s : State),
    findItem s uid = some i → i.panels = before ++ [p] → s.tables.mediaProfile = some mp →
    (s.items.live.map Item.uid).Nodup →
    ∃ (t : State) (nb : Option Time) (band : Option Nat) (a b : Option Row),
      t = closePanel uid last aborted s ∧
      (aborted = none →
        (nb, band) = (if (findBand s p.lastBand).isSome then (none, some p.lastBand) else (i.dryMark, none))) ∧
      (∀ time, aborted = some time → KeptTime s i p time nb band) ∧
      a = (if mp.cutterEnabled ∧ s.media.stops.length < 32 then some (s.items.planRow + mp.cutter) else none) ∧
      b = (if mp.cutterEnabled ∧ 0 < mp.gutter ∧ s.media.stops.length < 31 then
        some (s.items.planRow + mp.gutter + mp.cutter) else none) ∧
      t.items = { s.items with
        planRow := s.items.planRow + mp.gutter, cutRef := s.items.planRow + mp.gutter,
        live := s.items.live.map fun k => if k.uid = uid then
          { k with gutterRows := k.gutterRows + mp.gutter, openRows := 0,
                   panels := before ++ [{ p with rows := i.openRows, last := last, cutA := a, cutB := b }] } else k } ∧
      t.path = (if 0 < mp.gutter ∧ aborted = none then
        { s.path with
          waiting := s.path.waiting ++
            [{ serial := s.path.nextArise, owner := some uid, work := .feed (.gutter p.lastBand) mp.gutter,
               rest := false }],
          nextArise := s.path.nextArise + 1 } else s.path) ∧
      t.media = { s.media with
        nextStop := s.media.nextStop + (if a.isSome then 1 else 0) + (if b.isSome then 1 else 0),
        stops :=
          (match b with
           | some position => insertInOrder
              { uid := s.media.nextStop + 1, position := position, item := i.uid, itemId := i.id,
                panel := some p.index,
                kind := .cut { role := .b, cutRow := s.items.planRow + mp.gutter, notBefore := nb, hold := false,
                               lastBand := band } }
           | none => id)
          (match a with
           | some position => insertInOrder
              { uid := s.media.nextStop, position := position, item := i.uid, itemId := i.id,
                panel := some p.index,
                kind := .cut { role := .a, cutRow := s.items.planRow, notBefore := nb, hold := false,
                               lastBand := band } } s.media.stops
           | none => s.media.stops) } ∧
      t.link = (raise (.panelClosed
        { id := i.id, job := i.job, index := p.index, startRow := p.startRow, rows := i.openRows, last := last,
          cutA := a, cutB := b }) s).link ∧
      OnlyChanges [.link, .items, .path, .media] s t

/-- ITEM_ABORT: its refusals, and what the abort does and reports (choices: a waiting measure action, log 16;
orders, log 26) (R55, R57, R10, R45, R49, R50, R56, R59, R67, R136, R152, R163). -/
def Obligations.ItemAbortActed : Prop :=
  (∀ (tag : Byte) (s : State), actsAtOnce s = true →
    (∀ body, byteBody body = none → Refuses (.itemAbort tag body) s .itemAbort tag body) ∧
    ∀ id : Byte,
      ((∀ i ∈ s.items.live, i.id ≠ id.toNat) →
        Replies (.itemAbort tag [id, 0#8, 0#8, 0#8]) s tag .unknownRef .empty s.clearOut) ∧
      ∀ i, itemById s id.toNat = some i →
        (i.state = .costing ∨ i.fate = .aborted →
          Replies (.itemAbort tag [id, 0#8, 0#8, 0#8]) s tag .refusedState .empty s.clearOut) ∧
        (findItem s i.uid = some i → i.state ≠ .costing → i.fate = .complete →
          Replies (.itemAbort tag [id, 0#8, 0#8, 0#8]) s tag .ok .empty (abortItem i.uid .itemAbort s.clearOut) ∧
          ∃ t, exec (.itemAbort tag [id, 0#8, 0#8, 0#8]) s = .next t ∧ AbortedBy i.uid s t ∧
            RepliedLast t tag .ok)) ∧
  (∀ (uid : Nat) (cause : AbortCause) (i : Item) (s : State), findItem s uid = some i →
    (i.fate = .aborted ∨ i.state = .costing → abortItem uid cause s = s) ∧
    (i.fate = .complete → i.state ≠ .costing →
      ∃ (m : State) (b : ItemBody), m.now = s.now ∧ m.tables = s.tables ∧
        b.id = i.id ∧ b.job = i.job ∧ b.print = i.print ∧ b.edition = i.edition ∧ b.under = none ∧
        b.fate = .aborted ∧ b.rowsReceived = i.rowsReceived ∧ b.rowsPrinted = i.rowsPrinted ∧
        (((s.path.store.map Band.serial).Nodup ∨
            ∀ a ∈ s.path.store, a.item = uid → a.state = .inFlight ∨ a.state = .counting) →
          (s.items.live.map Item.uid).Nodup →
          ∃ (n : Nat) (gone : List Stop) (x y v w d : State), (∀ k ∈ s.items.live, k.abortOrder < n) ∧
            gone = (s.media.stops.filter fun u => u.isMeasure && u.item == uid) ∧
            StripsUnread gone (measuresDropped uid n gone s) x ∧ y = measureReleased gone x ∧
            d = (s.path.store.filter fun a => a.item == uid && a.state != .inFlight && a.state != .counting).foldl
              (fun z a => discardBand a z) (mapCuts (fun u => u.item == uid) (fun k => { k with hold := false }) y) ∧
            v = { d with
              items := { d.items with live := d.items.live.map fun k =>
                if k.uid = uid then { k with reservation := 0 } else k },
              media := { d.media with
                stops := v.media.stops, roll := { d.media.roll with reserved := s.media.roll.reserved - i.reservation } } } ∧
            v.media.stops.map (fun u => (u.uid, u.position, u.item, u.panel)) =
              d.media.stops.map (fun u => (u.uid, u.position, u.item, u.panel)) ∧
            (i.openRows = 0 ∨ (s.tables.mediaProfile = none ∧ s.tables.lock ≠ some .mediaProfile) →
              w = joinAbortFeed uid (abortRows uid 0 s) v) ∧
            (0 < i.openRows → s.tables.lock = some .mediaProfile →
              w = joinAbortFeed uid (abortRows uid 0 s) (v.onItems fun k => { k with
                live := k.live.map fun j => if j.uid = uid then
                  { j with pendingClose := some (s.now + dryTime s) } else j })) ∧
            (∀ mp, 0 < i.openRows → s.tables.lock ≠ some .mediaProfile → s.tables.mediaProfile = some mp →
              w = joinAbortFeed uid (abortRows uid mp.gutter s) (closePanel uid true (some (s.now + dryTime s)) v)) ∧
            m = w.onItems fun k => { k with live := k.live.map fun j => if j.uid = uid then
              { j with state := b.state, under := none } else j }) ∧
        ((∃ a ∈ m.path.store, a.item = uid) → b.state = .closing ∧
          abortItem uid cause s = advanceItem uid (raise (.item .closing b) (raise (.item (.aborted cause) b) m))) ∧
        ((∀ a ∈ m.path.store, a.item ≠ uid) → b.state = .settling ∧
          abortItem uid cause s = advanceItem uid (raise (.item .settling b) (raise (.item (.aborted cause) b) m)))))

/-- HOLD_RELEASE_CONTINUE and HOLD_RELEASE_ABORT (R54, R55, R52, R59). -/
def Obligations.HoldReleaseActed : Prop :=
  ∀ (tag id : Byte) (s : State), actsAtOnce s = true →
    (∀ rest, rest ≠ [0#8, 0#8] →
      Refuses (.holdReleaseContinue tag id rest) s .holdRelease tag (id :: 0#8 :: rest) ∧
      Refuses (.holdReleaseAbort tag id rest) s .holdRelease tag (id :: 1#8 :: rest)) ∧
    ((∀ i ∈ s.items.live, i.id ≠ id.toNat) →
      Replies (.holdReleaseContinue tag id [0#8, 0#8]) s tag .unknownRef .empty s.clearOut ∧
      Replies (.holdReleaseAbort tag id [0#8, 0#8]) s tag .unknownRef .empty s.clearOut) ∧
    ∀ i, itemById s id.toNat = some i → findItem s i.uid = some i →
      (i.state ≠ .held → (∀ u ∈ s.media.stops, u.item = i.uid → ∀ c, u.kind = .cut c → c.hold = false) →
        Replies (.holdReleaseContinue tag id [0#8, 0#8]) s tag .refusedState .empty s.clearOut ∧
        Replies (.holdReleaseAbort tag id [0#8, 0#8]) s tag .refusedState .empty s.clearOut) ∧
      (i.state = .held ∨ (∃ u ∈ s.media.stops, u.item = i.uid ∧ ∃ c, u.kind = .cut c ∧ c.hold = true) →
        (i.fate = .complete → i.state ≠ .costing →
          Replies (.holdReleaseAbort tag id [0#8, 0#8]) s tag .ok .empty (abortItem i.uid .holdAbort
            (mapCuts (fun u => u.item == i.uid) (fun c => { c with hold := false }) s.clearOut)) ∧
          ∃ t, exec (.holdReleaseAbort tag id [0#8, 0#8]) s = .next t ∧ AbortedBy i.uid s t ∧
            RepliedLast t tag .ok) ∧
        Replies (.holdReleaseContinue tag id [0#8, 0#8]) s tag .ok .empty
          (advanceItem i.uid (raiseItem .released i.uid
            (mapItem i.uid
              (fun k => if k.state = .held then { k with state := k.under.getD .opened, under := none } else k)
              (mapCuts (fun u => u.item == i.uid) (fun c => { c with hold := false }) s.clearOut)))))

/-- ABORT_PANEL_CLOSE; what rows that join an abort feed do, and what the transitions of R52 do (R37, R52, R56,
R59, R68, R173). -/
def Obligations.AbortPanelCloses : Prop :=
  (∀ (i : Item) (fallback : Time) (s : State),
    (s.items.live.find? fun k => k.pendingClose.isSome) = some i → i.pendingClose = some fallback →
    (s.tables.lock = some .mediaProfile → Waits .abortPanelClose s) ∧
    (∀ p, s.tables.lock ≠ some .mediaProfile → s.tables.mediaProfile = some p → 0 < i.openRows →
      findItem s i.uid = some i →
      Leaves .abortPanelClose s
        (advanceItem i.uid (joinAbortFeed i.uid p.gutter (closePanel i.uid true (some fallback)
          (mapItem i.uid (fun k => { k with pendingClose := none }) s.clearOut)))))) ∧
  (∀ s : State, (∀ i ∈ s.items.live, i.pendingClose = none) → Waits .abortPanelClose s) ∧
  (∀ (uid n : Nat) (mine : Op → Bool) (grown : Op → Op) (s u : State),
    (∀ o, mine o = true ↔ WaitingAbortFeed uid o) → (∀ o, mine o = false → grown o = o) →
    (∀ o rows, mine o = true → o.work = .feed .abort rows → grown o = { o with work := .feed .abort (rows + n) }) →
    u = s.onItems (fun m => { m with live := m.live.map fun k =>
      if k.uid = uid then { k with abortFeedRows := k.abortFeedRows + n } else k }) →
    (n = 0 → joinAbortFeed uid n s = s) ∧
    (0 < n → (∃ o ∈ s.path.abortWait, mine o = true) →
      joinAbortFeed uid n s = u.onPath fun p => { p with abortWait := p.abortWait.map grown }) ∧
    (0 < n → (∀ o ∈ s.path.abortWait, mine o = false) → (∃ o, .op o ∈ s.path.queue ∧ mine o = true) →
      joinAbortFeed uid n s = u.onPath fun p => { p with queue := p.queue.map fun q => match q with
        | .op o => .op (grown o)
        | .band b => .band b }) ∧
    (0 < n → (∀ o ∈ s.path.abortWait, mine o = false) → (∀ o, .op o ∈ s.path.queue → mine o = false) →
      ∀ o : Op, o = { serial := s.path.nextArise, owner := some uid, work := .feed .abort n, rest := false } →
        (placesHeld s < 4 → s.path.abortWait = [] → joinAbortFeed uid n s = u.onPath fun p => { p with
          nextArise := p.nextArise + 1, queue := p.queue ++ [.op o] }) ∧
        (∀ older younger, 4 ≤ placesHeld s ∨ s.path.abortWait ≠ [] → s.path.abortWait = older ++ younger →
          (∀ w ∈ older, ¬AbortedBefore s o w) → (∀ w ∈ younger.head?, AbortedBefore s o w) →
          joinAbortFeed uid n s = u.onPath fun p => { p with
            nextArise := p.nextArise + 1, abortWait := older ++ o :: younger }))) ∧
  (∀ (uid : Nat) (i : Item) (body : ItemState → ItemBody) (busy : Prop) (s settled : State),
    findItem s uid = some i →
    (∀ st, body st = { id := i.id, job := i.job, print := i.print, edition := i.edition, state := st,
                       under := i.under, fate := i.fate, rowsReceived := i.rowsReceived,
                       rowsPrinted := i.rowsPrinted,
                       panelsClosed := i.panels.length - (if i.openRows = 0 then 0 else 1) }) →
    (busy ↔ (∃ u ∈ s.media.stops, u.item = uid) ∨ (∃ o ∈ liveOps s, o.owner = some uid) ∨ i.pendingClose ≠ none) →
    settled = raise (.item .settling (body .settling)) (s.onItems fun m => { m with live := m.live.map fun k =>
      if k.uid = uid then { k with state := .settling } else k }) →
    (i.state = .closing → (∃ b ∈ s.path.store, b.item = uid) → advanceItem uid s = s) ∧
    (i.state = .closing → (∀ b ∈ s.path.store, b.item ≠ uid) → busy → advanceItem uid s = settled) ∧
    (i.state = .settling → busy → advanceItem uid s = s) ∧
    (∀ before costed : State, ¬busy →
      (i.state = .settling ∧ before = s) ∨
        (i.state = .closing ∧ (∀ b ∈ s.path.store, b.item ≠ uid) ∧ before = settled) →
      costed = (raise (.item .costing (body .costing)) (before.onItems fun m => { m with live := m.live.map fun k =>
        if k.uid = uid then { k with state := .costing } else k })).onCosting
          (fun c => { c with queue := c.queue ++ [uid] }) →
      (s.costing.queue ≠ [] ∨ s.tables.price = none ∨ s.tables.lock = some .price → advanceItem uid s = costed) ∧
      (s.costing.queue = [] → s.tables.price ≠ none → s.tables.lock ≠ some .price →
        advanceItem uid s = priceItem uid costed ∧
        (s.out = [] → Leaves .itemPricing costed (priceItem uid costed)))) ∧
    (i.state = .held → i.under = some .closing → (∀ b ∈ s.path.store, b.item ≠ uid) →
      advanceItem uid s = s.onItems fun m => { m with live := m.live.map fun k =>
        if k.uid = uid then { k with under := some .settling } else k }) ∧
    (i.state = .opened ∨ i.state = .costing ∨
        (i.state = .held ∧ (i.under ≠ some .closing ∨ ∃ b ∈ s.path.store, b.item = uid)) →
      advanceItem uid s = s))

/-- BAND: when it waits (log 33), its order of checks, its refusals and its acceptance (R62, R47, R9, R8, R10,
R14, R58). -/
def Obligations.BandTaken : Prop :=
  (∀ (e : IntakeEntry) (status : Status) (s : State), refuseBand e status s =
    reply e.tag status .empty (s.onLink fun l => { l with
      rx := .dropping,
      capture := if status = .badRecord ∧ l.capture.armed = true then
        { armed := false, bytes := ([0x14#8, 0#8, e.tag, 0#8] ++ leBytes 4 e.length ++ e.body).take 64,
          length := if e.length + 12 ≤ 254 then e.length + 12 else 255, filling := true }
        else l.capture })) ∧
  (∀ (mask : Nat) (c : Chan), c ∈ channelsOf mask ↔ mask / 2 ^ c.val % 2 = 1) ∧
  (∀ mask : Nat, (channelsOf mask).Pairwise fun c d => c < d) ∧
  (∀ (body : List Byte) (length : Nat) (b : BandBody), bandBody body length = some b ↔
    b = { itemId := u8 body 0, rows := u8 body 1, columns := u16 body 2, index := u32 body 4, mask := u16 body 8,
          check := decide (u8 body 10 = 1), layout := u8 body 11 } ∧
    (1 ≤ b.rows ∧ b.rows ≤ 32) ∧ (1 ≤ b.columns ∧ b.columns ≤ 38400) ∧ b.mask < 4096 ∧ u8 body 10 ≤ 1 ∧
    b.layout ≤ 7 ∧ (b.check = false → b.layout = 0) ∧ (∀ k, 12 ≤ k → k < 16 → u8 body k = 0) ∧
    length = 16 + (channelsOf b.mask).length * b.rows * ((b.columns + 3) / 4)) ∧
  (∀ (i : Item) (p : MediaProfile) (s : State), s.tables.mediaProfile = some p → s.media.stops.length ≤ 32 →
    (needsLead s i = true ↔ i.firstRow = none ∧ s.items.planRow ≠ s.items.cutRef ∧ p.cutterEnabled = true) ∧
    (closesPanel s i = true ↔ i.openRows ≠ 0 ∧ i.openRows = p.maxPanel) ∧
    (closeRoom s = true ↔ s.tables.lock ≠ some .mediaProfile ∧
      s.media.stops.length + (if p.cutterEnabled = false then 0 else if p.gutter = 0 then 1 else 2) ≤ 32 ∧
      (p.gutter = 0 ∨ placesHeld s + s.path.abortWait.length < 4))) ∧
  (∀ (s : State) (check : Bool) (m : Vector MapEntry 12), bandTables s check = some m ↔
    s.tables.channelMap = some m ∧ s.tables.drop ≠ none ∧
    (check = true → s.tables.patch ≠ none ∧ s.tables.tolerance ≠ none)) ∧
  ∀ (s : State) (e : IntakeEntry) (rest : List IntakeEntry), TakeReady s e rest → e.kind = .band →
    (4 ≤ s.path.store.length → Waits .band s) ∧
    (∀ i, itemById s (u8 e.body 0) = some i →
      (needsLead s i = true → 32 ≤ s.media.stops.length → Waits .band s) ∧
      (closesPanel s i = true → closeRoom s = false → Waits .band s)) ∧
    (s.path.store.length < 4 →
      (∀ i, itemById s (u8 e.body 0) = some i → (needsLead s i = true → s.media.stops.length < 32) ∧
        (closesPanel s i = true → closeRoom s = true)) →
      (bandBody e.body e.length = none → Leaves .band s (refuseBand e .badRecord (afterTake s rest))) ∧
      ∀ b, bandBody e.body e.length = some b →
        (s.tables.channelMap = none ∨ s.tables.drop = none ∨
            (b.check = true ∧ (s.tables.patch = none ∨ s.tables.tolerance = none)) →
          Leaves .band s (refuseBand e .noTable (afterTake s rest))) ∧
        ∀ m, bandTables s b.check = some m →
          ((∃ c ∈ channelsOf b.mask, m[c].enabled = false) ∨
              (∃ a ∈ s.path.store, a.itemId = b.itemId ∧ a.index = b.index) →
            Leaves .band s (refuseBand e .badRecord (afterTake s rest))) ∧
          ((∀ c ∈ channelsOf b.mask, m[c].enabled = true) →
            (∀ a ∈ s.path.store, ¬(a.itemId = b.itemId ∧ a.index = b.index)) →
            ((∀ i, itemById s b.itemId = some i → i.isOpen = false) →
              Leaves .band s (refuseBand e .unknownRef (afterTake s rest))) ∧
            ∀ i p, itemById s b.itemId = some i → i.isOpen = true → s.tables.mediaProfile = some p →
              (i.openRows < p.maxPanel → p.maxPanel < i.openRows + b.rows →
                Leaves .band s (refuseBand e .badRecord (afterTake s rest))) ∧
              (¬(i.openRows < p.maxPanel ∧ p.maxPanel < i.openRows + b.rows) →
                (i.rowsReceived + b.rows ≤ i.allowance →
                  Leaves .band s (acceptBand e b m i (afterTake s rest))) ∧
                (i.allowance < i.rowsReceived + b.rows →
                  (s.media.roll.remaining - s.media.roll.reserved < 32 →
                    Leaves .band s (abortItem i.uid .noMedia (refuseBand e .noMedia (afterTake s rest)))) ∧
                  (32 ≤ s.media.roll.remaining - s.media.roll.reserved →
                    Leaves .band s (acceptBand e b m i
                      (((afterTake s rest).onItems fun k => { k with live := k.live.map fun j =>
                          if j.uid = i.uid then
                            { j with reservation := j.reservation + 32, allowance := j.allowance + 32 }
                          else j }).onMedia fun k => { k with roll :=
                            { k.roll with reserved := k.roll.reserved + 32 } })))))))

/-- The effects of an accepted BAND, and its panel record (R47, R48, R49, R62, R63, R8, R10, R135, R136). -/
def Obligations.BandAccepted : Prop :=
  ∀ (e : IntakeEntry) (b : BandBody) (m : Vector MapEntry 12) (i j : Item) (p : MediaProfile) (s : State) (g : Nat)
      (closes : Prop),
    findItem s i.uid = some j → j = { i with reservation := j.reservation, allowance := j.allowance } →
    (s.items.live.map Item.uid).Nodup → s.tables.mediaProfile = some p →
    s.path.store.length < 4 → s.media.stops.length ≤ 29 → s.items.cutRef ≤ s.items.planRow →
    (0 < i.openRows → i.panels ≠ []) → (closes ↔ i.openRows ≠ 0 ∧ i.openRows = p.maxPanel) →
    g = (if i.openRows ≠ 0 ∧ i.openRows = p.maxPanel then p.gutter else 0) →
    ∃ t band k new, t = acceptBand e b m i s ∧
      t.items = { s.items with
        planRow := s.items.planRow + g + b.rows,
        cutRef := (if i.openRows ≠ 0 ∧ i.openRows = p.maxPanel then s.items.planRow + g
          else if i.firstRow = none then s.items.planRow else s.items.cutRef),
        live := s.items.live.map fun q => if q.uid = i.uid then k else q } ∧
      t.path.store = s.path.store ++ [band] ∧ band.item = i.uid ∧ band.itemId = i.id ∧
      band.serial = s.path.nextArise + (if 0 < g then 1 else 0) ∧
      band.index = b.index ∧ band.startRow = s.items.planRow + g ∧ band.rows = b.rows ∧
      band.columns = b.columns ∧ band.check = b.check ∧ band.layout = b.layout ∧ band.state = .filling ∧
      band.stopPlaced = false ∧ (∀ a ∈ s.path.store, a.slot ≠ band.slot) ∧
      band.channels.map (fun c => (c.chan, c.headRow)) =
        (channelsOf b.mask).map (fun c => (c, m[c].headRow)) ∧
      (∀ c ∈ band.channels, c.demand = 0 ∧ c.reserve = 0) ∧
      t.path = { s.path with store := t.path.store, waiting := t.path.waiting, nextArise := band.serial + 1 } ∧
      findItem t i.uid = some k ∧
      k = { j with
        rowsReceived := i.rowsReceived + b.rows,
        openRows := (if i.openRows = p.maxPanel then 0 else i.openRows) + b.rows,
        gutterRows := i.gutterRows + g, firstRow := some (i.firstRow.getD s.items.planRow),
        leadRows := (if i.firstRow = none then (s.items.planRow - s.items.cutRef).toNat else i.leadRows),
        panels := k.panels } ∧
      k.panels.length = band.panel ∧
      new = { index := i.panels.length + 1, startRow := s.items.planRow + g, rows := 0, last := false, cutA := none,
              cutB := none, verdict := .none, firstBand := band.serial, lastBand := band.serial } ∧
      (i.openRows = 0 → k.panels = i.panels ++ [new]) ∧
      (∀ before q, i.panels = before ++ [q] →
        (closes → k.panels = before ++ [{ q with
          rows := i.openRows, last := false,
          cutA := if p.cutterEnabled then some (s.items.planRow + p.cutter) else none,
          cutB := if p.cutterEnabled = true ∧ 0 < p.gutter then some (s.items.planRow + p.gutter + p.cutter)
            else none }, new]) ∧
        (i.openRows ≠ 0 → ¬closes → k.panels = before ++ [{ q with lastBand := band.serial }])) ∧
      (i.firstRow = none → s.items.cutRef < s.items.planRow → p.cutterEnabled = true →
        ∃ u ∈ t.media.stops, u.item = i.uid ∧ u.panel = none ∧ u.position = s.items.planRow + p.cutter ∧
          u.kind = .cut { role := .lead, cutRow := s.items.planRow, notBefore := some s.now, hold := false,
                          lastBand := none }) ∧
      (i.firstRow ≠ none → ¬closes → t.media = s.media) ∧
      (¬closes → t.path.waiting = s.path.waiting ∧ t.link = { s.link with rx := t.link.rx }) ∧
      (i.firstRow ≠ none → closes → ∃ w, w = closePanel i.uid false none s ∧ t.media = w.media ∧
        t.path.waiting = w.path.waiting ∧ t.link = { w.link with rx := t.link.rx }) ∧
      t.link.rx = .filling band.serial (bandWire e.tag e.length e.body) e.length e.tag ∧
      replies t = replies s ∧ OnlyChanges [.link, .items, .path, .media] s t

/-- FEED and CLEAN: the take, its order of checks and the operation that arises (R70, R71, R68, R46, R9). -/
def Obligations.FeedAndCleanTaken : Prop :=
  (∀ (body : List Byte) (strength mask : Nat), cleanBody body = some (strength, mask) ↔
    body.length = 4 ∧ strength = u8 body 0 ∧ 1 ≤ strength ∧ strength ≤ 3 ∧ u8 body 1 = 0 ∧ mask = u16 body 2 ∧
    1 ≤ mask ∧ mask < 4096) ∧
  (∀ s : State, placeFreeForIntake s = true ↔ placesHeld s + s.path.abortWait.length < 4) ∧
  ∀ (s : State) (e : IntakeEntry) (rest : List IntakeEntry), TakeReady s e rest →
    (e.kind = .feed → placeFreeForIntake s = false → Waits .feed s) ∧
    (e.kind = .clean → placeFreeForIntake s = false → Waits .clean s) ∧
    (e.kind = .feed → placeFreeForIntake s = true →
      (¬(e.body.length = 4 ∧ 1 ≤ u32 e.body 0 ∧ u32 e.body 0 ≤ 96000) → Leaves .feed s (takeBad s e rest)) ∧
      (e.body.length = 4 → 1 ≤ u32 e.body 0 → u32 e.body 0 ≤ 96000 →
        (s.tables.mediaProfile = none → Leaves .feed s (takeRefused s e rest .noTable)) ∧
        (s.tables.mediaProfile.isSome = true →
          (s.media.roll.loaded = false ∨ s.media.roll.remaining - s.media.roll.reserved < u32 e.body 0 →
            Leaves .feed s (takeRefused s e rest .noMedia)) ∧
          (s.media.roll.loaded = true → u32 e.body 0 ≤ s.media.roll.remaining - s.media.roll.reserved →
            Leaves .feed s
              (((afterTake s rest).onPath fun q => { q with
                waiting := q.waiting ++ [{ serial := q.nextArise, owner := none,
                                           work := .feed .record (u32 e.body 0), rest := false }],
                nextArise := q.nextArise + 1 }).onItems fun k =>
                { k with planRow := k.planRow + u32 e.body 0 }))))) ∧
    (e.kind = .clean → placeFreeForIntake s = true →
      (cleanBody e.body = none → Leaves .clean s (takeBad s e rest)) ∧
      ∀ strength mask, cleanBody e.body = some (strength, mask) →
        (s.tables.channelMap = none ∨ s.tables.maintenance = none →
          Leaves .clean s (takeRefused s e rest .noTable)) ∧
        ∀ map flush, s.tables.channelMap = some map → s.tables.maintenance = some flush →
          ((∃ c ∈ channelsOf mask, map[c].enabled = false) → Leaves .clean s (takeBad s e rest)) ∧
          ((∀ c ∈ channelsOf mask, map[c].enabled = true) →
            Leaves .clean s (reply e.tag .ok .empty ((afterTake s rest).onPath fun q => { q with
              waiting := q.waiting ++
                [{ serial := q.nextArise, owner := none,
                   work := .clean strength
                     ((channelsOf mask).map fun c => (c, (flush[c]).toList.getD (strength - 1) 0)) false,
                   rest := false }],
              nextArise := q.nextArise + 1 }))))

/-- COUNT_START, COUNT_COMPLETION (padding: log 27), MEASURE_STOP_PLACEMENT, and what a discard does (logs 26,
34, 40) (R64, R65, R147, R67, R50, R115, R23). -/
def Obligations.BandCounted : Prop :=
  (∀ (older younger : List Band) (b : Band) (drop : Vector DropEntry 12) (s : State),
    s.path.count = none → s.tables.drop = some drop → s.path.store = older ++ b :: younger →
    b.state = .filled → (∀ a ∈ older, a.state ≠ .filled) →
    (s.tables.lock ≠ some .drop → (∀ a ∈ older ++ younger, a.serial < b.serial → a.state ≠ .filling) →
      Leaves .countStart s (s.clearOut.onPath fun p => { p with
        count := some { band := b.serial, drop := drop },
        store := p.store.map fun a => if a.serial = b.serial then { a with state := .counting } else a })) ∧
    (s.tables.lock = some .drop ∨ (∃ a ∈ older, a.state = .filling ∧ a.serial < b.serial) →
      Waits .countStart s)) ∧
  (∀ (j : CountJob) (b : Band) (i : Item) (s : State), s.path.count = some j → findBand s j.band = some b →
    findItem s b.item = some i →
    (i.fate = .aborted →
      Leaves .countCompletion s (advanceItem b.item (joinAbortFeed b.item (discardRows s b)
        (discardBand b (s.clearOut.onPath fun p => { p with count := none }))))) ∧
    (i.fate = .complete →
      ∃ u, u = s.clearOut.onPath (fun p => { p with
          count := none,
          store := p.store.map fun a => if a.serial = j.band then
            { a with state := .counted,
                     channels := a.channels.map (BandChannel.counted a.rows a.columns j.drop) } else a }) ∧
        (b.check = false → Leaves .countCompletion s u) ∧
        (b.check = true → ∀ p, s.tables.mediaProfile = some p →
          ∃ stop : Stop,
            stop = { uid := s.media.nextStop, position := b.startRow + p.sensor, item := b.item,
                     itemId := b.itemId, panel := some b.panel,
                     kind := .measure { layout := b.layout, strip := b.index } } ∧
            (s.media.stops.length < 32 → s.colour.strips = [] →
              Leaves .countCompletion s
                ((u.onMedia fun k => { k with nextStop := k.nextStop + 1,
                                              stops := insertInOrder stop k.stops }).onPath fun q => { q with
                  store := q.store.map fun a => if a.serial = b.serial then { a with stopPlaced := true }
                    else a })) ∧
            (32 ≤ s.media.stops.length ∨ s.colour.strips ≠ [] →
              Leaves .countCompletion s
                ((u.onMedia fun k => { k with nextStop := k.nextStop + 1 }).onColour fun k => { k with
                  strips := k.strips ++ [{ band := b.serial, stop := stop }] }))))) ∧
  (∀ (rows columns : Nat) (drop : Vector DropEntry 12) (c : BandChannel),
    ∃ d : BandChannel, d = c.counted rows columns drop ∧ d.chan = c.chan ∧ d.headRow = c.headRow ∧
      d.volumes = drop[c.chan].volumes ∧
      (c.plane.length = rows * ((columns + 3) / 4) → (∀ k : Fin 4, drop[c.chan].levels[k] ≤ 3) →
        d.plane.length = c.plane.length ∧
        (∀ (r x : Nat) (k : Fin 4), r < rows → x < columns → levelAt columns c.plane r x = k.val →
          levelAt columns d.plane r x = drop[c.chan].levels[k]) ∧
        (∀ r x : Nat, r < rows → columns ≤ x → x < 4 * ((columns + 3) / 4) →
          levelAt columns d.plane r x = levelAt columns c.plane r x) ∧
        ∀ (q : Fin 4) (l : Fin 3), d.counts[q][l] =
          (((List.range rows).filter fun r => r / 8 == q.val).map fun r =>
            ((List.range columns).filter fun x => levelAt columns d.plane r x == l.val + 1).length).sum) ∧
      d.demand = ((List.finRange 4).map fun q => ((List.finRange 3).map fun l =>
        d.counts[q][l] * drop[c.chan].volumes[l]).sum).sum ∧
      10000 * d.reserve < d.demand + 10000 ∧ d.demand ≤ 10000 * d.reserve) ∧
  (∀ (w : Strip) (more : List Strip) (s : State), s.colour.strips = w :: more →
    (s.media.stops.length < 32 →
      Leaves .measureStopPlacement s
        (((s.clearOut.onColour fun k => { k with strips := more }).onMedia fun k => { k with
          stops := insertInOrder w.stop k.stops }).onPath fun q => { q with
            store := q.store.map fun a => if a.serial = w.band then { a with stopPlaced := true } else a })) ∧
    (32 ≤ s.media.stops.length → Waits .measureStopPlacement s)) ∧
  (∀ (b : Band) (bound : Op → Bool) (waiting : List Op) (accounts : Vector Account 12) (amounts : List (Chan × Nat))
    (s u : State), (b.channels.map BandChannel.chan).Nodup → (∀ o, bound o = true ↔ GutterOf b o) →
    amounts = b.channels.map (fun c => (c.chan, c.reserve)) →
    waiting = (if b.state = .queued then s.path.waiting else s.path.waiting.filter fun o => !bound o) →
    (b.state = .reserved ∨ b.state = .queued ∨ b.state = .inFlight → ∀ c : Chan, accounts[c] =
      { s.ink.accounts[c] with reserved := s.ink.accounts[c].reserved - amountOn amounts c }) →
    (b.state ≠ .reserved → b.state ≠ .queued → b.state ≠ .inFlight → accounts = s.ink.accounts) →
    u = discarded b waiting accounts s →
    (b.state = .queued → discardRows s b = b.rows) ∧
    (b.state ≠ .queued → discardRows s b = b.rows + ((s.path.waiting.filter bound).map fun o =>
      match o.work with
      | .feed _ n => n
      | .clean _ _ _ => 0).sum) ∧
    (s.ink.waitAsker ≠ some b.serial → discardBand b s = u) ∧
    (s.ink.waitAsker = some b.serial → discardBand b s =
      { (waitEnds (.band b.itemId b.index) amounts accounts s).foldl (fun v n => raise n v) u with
        ink := { u.ink with waits := Vector.replicate 12 false, waitAsker := none } }))

/-- INK_REQUEST: the grant is whole or nothing, with the wait flags and their notices (amount 0: log 34; order:
log 26; logs 40, 51) (R66, R86, R115, R84). -/
def Obligations.InkRequested : Prop :=
  (∀ (cleans : List Op) (oldest : Option Band) (s : State),
    cleans = (s.path.waiting.filter fun o => match o.work with
      | .clean _ _ false => true
      | _ => false) →
    oldest = (s.path.store.find? fun b => b.state != .reserved && b.state != .queued && b.state != .inFlight) →
    (oldest = none → cleans = [] → asker s = none ∧ Waits .inkRequest s) ∧
    (∀ b, oldest = some b → (∀ o ∈ cleans.head?, b.serial ≤ o.serial) →
      asker s = some { serial := b.serial, who := .band b.itemId b.index,
                       amounts := b.channels.map fun c => (c.chan, c.reserve),
                       ready := (b.state == .counted || b.state == .waitInk) && (!b.check || b.stopPlaced) }) ∧
    (∀ o more strength flush, cleans = o :: more → o.work = .clean strength flush false →
      (∀ b, oldest = some b → o.serial < b.serial) →
      asker s = some { serial := o.serial, who := .clean, amounts := flush, ready := true })) ∧
  ∀ (r : Request) (s : State), asker s = some r →
    (r.ready = false ∨ s.tables.lock = some .channelMap → Waits .inkRequest s) ∧
    (r.ready = true → s.tables.lock ≠ some .channelMap → (r.amounts.map Prod.fst).Nodup →
      ∃ t, exec .inkRequest s = .next t ∧ OnlyChanges [.link, .path, .ink, .media] s t ∧
        t.media = { s.media with runOut := t.media.runOut } ∧
        t.ink.slots = s.ink.slots ∧ t.path.queue = s.path.queue ∧ t.path.flight = s.path.flight ∧
        ((∀ a ∈ r.amounts, a.2 = 0 ∨
            a.2 ≤ s.ink.accounts[a.1].subTank - (150000 + s.ink.accounts[a.1].reserved)) →
          (∀ c : Chan, t.ink.accounts[c] =
            { s.ink.accounts[c] with reserved := s.ink.accounts[c].reserved + amountOn r.amounts c }) ∧
          (∀ c : Chan, t.ink.waits[c] = false) ∧ t.ink.waitAsker = none ∧
          t.link = ((waitEnds r.who r.amounts t.ink.accounts s).foldl (fun v n => raise n v) s).link ∧
          (∀ id index, r.who = .band id index → t.path.store = s.path.store.map fun b =>
            if b.serial = r.serial then { b with state := .reserved } else b) ∧
          (r.who = .clean → t.path.store = s.path.store ∧
            t.path.waiting = s.path.waiting.map (Op.markGranted r.serial))) ∧
        ((∃ a ∈ r.amounts, a.2 ≠ 0 ∧
            s.ink.accounts[a.1].subTank - (150000 + s.ink.accounts[a.1].reserved) < a.2) →
          t.ink.accounts = s.ink.accounts ∧
          (∀ c : Chan, t.ink.waits[c] = decide
            (s.ink.accounts[c].subTank - (150000 + s.ink.accounts[c].reserved) < amountOn r.amounts c)) ∧
          t.ink.waitAsker = some r.serial ∧
          t.link = ((declineNotices r.who r.amounts s).foldl (fun v n => raise n v) s).link ∧
          (∀ id index, r.who = .band id index → t.path.store = s.path.store.map fun b =>
            if b.serial = r.serial then { b with state := .waitInk } else b) ∧
          (r.who = .clean → t.path = s.path)))

/-- QUEUE_ENTRY (one operation a command: log 29) and ABORT_FEED_ENTRY (R68, R69, R56, R127). -/
def Obligations.OperationsEnterQueue : Prop :=
  (∀ (live : List Op) (s : State),
    live = s.path.waiting ++ s.path.queue.filterMap QEntry.op? ++ (match s.path.flight with
      | some { work := .op o, .. } => [o]
      | _ => []) →
    (∀ o ∈ s.path.waiting, ∀ slot rows, o.work ≠ .feed (.bandRest slot) rows) →
    placesHeld s = (live.filter fun o => match o.work with
      | .feed (.bandRest _) _ => false
      | _ => true).length) ∧
  (∀ (b : Band) (i : Item) (p : MediaProfile) (s : State), (s.path.store.find? fun a => a.waits) = some b →
    (∀ o ∈ s.path.waiting.head?, b.serial ≤ o.serial) → findItem s b.item = some i →
    s.tables.mediaProfile = some p →
    (b.state = .reserved ∧ (∀ o ∈ s.path.abortWait, o.owner = some b.item) ∧
        (∀ q ∈ s.path.queue, ∀ o, q = .op o → ∀ rows, o.work ≠ .feed (.bandRest b.slot) rows) ∧
        (∀ o, s.media.remainder = some o → ∀ rows, o.work ≠ .feed (.bandRest b.slot) rows) ∧
        (i.started = true ∨ i.isClosing = true ∨ (∃ o ∈ s.path.waiting, b.serial < o.serial) ∨
          p.startDepth ≤ s.path.store.countP fun a => a.item == b.item && a.state == .reserved) →
      Leaves .queueEntry s
        ((s.clearOut.onItems fun m => { m with live := m.live.map fun k =>
            if k.uid = b.item then { k with started := true } else k }).onPath fun q => { q with
          store := q.store.map fun a => if a.serial = b.serial then { a with state := .queued } else a,
          queue := q.queue ++ [.band b.serial] })) ∧
    (b.state ≠ .reserved ∨ (∃ o ∈ s.path.abortWait, o.owner ≠ some b.item) → Waits .queueEntry s) ∧
    (i.started = false → i.isClosing = false → (∀ o ∈ s.path.waiting, o.serial ≤ b.serial) →
      (s.path.store.countP fun a => a.item == b.item && a.state == .reserved) < p.startDepth →
      Waits .queueEntry s) ∧
    ((∃ o rows, (QEntry.op o ∈ s.path.queue ∨ s.media.remainder = some o) ∧
        o.work = .feed (.bandRest b.slot) rows) → Waits .queueEntry s)) ∧
  (∀ (o : Op) (more : List Op) (s : State), s.path.waiting = o :: more →
    (∀ w ∈ more, w.serial ≠ o.serial) →
    (∀ b ∈ s.path.store, b.waits = true → o.serial < b.serial) →
    ((∀ strength flush, o.work ≠ .clean strength flush false) →
      Leaves .queueEntry s (s.clearOut.onPath fun q => { q with
        waiting := more, queue := q.queue ++ [.op o] })) ∧
    ((∃ strength flush, o.work = .clean strength flush false) → Waits .queueEntry s)) ∧
  (∀ (o : Op) (more : List Op) (s : State), s.path.abortWait = o :: more →
    (placesHeld s < 4 → Leaves .abortFeedEntry s (s.clearOut.onPath fun q => { q with
      abortWait := more, queue := q.queue ++ [.op o] })) ∧
    (4 ≤ placesHeld s → Waits .abortFeedEntry s))

/-- OFFER: the arbiter's choice and the hand-over (R72, R73, R126, R127, R168, R125). -/
def Obligations.OperationOffered : Prop :=
  (∀ (work : FlightWork) (commanded : Nat) (points : List PausePoint) (s : State),
    ∃ f : Flight, f = { opId := s.path.nextOpId, work := work, phase := .offering 1 (s.now + 500#32),
                        elapsed := 0, commanded := commanded, points := points, reported := 0 } ∧
      handOver work commanded points s =
        (s.onPath fun p => { p with
          flight := some f,
          nextOpId := if p.nextOpId = 65535 then 1 else p.nextOpId + 1 }).send
          (.offer s.path.nextOpId (offerBody s f) (points.map PausePoint.offset))) ∧
  (∀ (f : Flight) (s : State),
    (∀ b, f.work = .band b.serial → findBand s b.serial = some b → offerBody s f =
      .band b.rows b.columns f.commanded (b.channels.map fun c => (c.headRow, c.plane))) ∧
    (∀ o source rows, f.work = .op o → o.work = .feed source rows → offerBody s f = .feed f.commanded) ∧
    (∀ o strength flush granted, f.work = .op o → o.work = .clean strength flush granted →
      offerBody s f = .clean strength (flush.map Prod.fst)) ∧
    ∀ p, f.work = .verify p → offerBody s f = .verify p) ∧
  (∀ s : State, s.path.flight ≠ none → Waits .offer s) ∧
  (∀ (p : Part) (s : State), s.path.flight = none → s.colour.verify.pending = some p →
    s.path.engine = .running ∨ s.path.engine = .paused →
    Leaves .offer s (handOver (.verify p) 0 [] (s.clearOut.onColour fun c => { c with verify :=
      { c.verify with pending := none, readings := Vector.replicate 4 [], malformed := false } }))) ∧
  (∀ s : State, s.path.flight = none → s.colour.verify.pending ≠ none →
    s.path.engine = .waitingEngine ∨ s.path.engine = .fault → Waits .offer s) ∧
  (∀ s : State, s.path.flight = none → s.colour.verify.pending = none →
    (s.path.engine ≠ .running ∨ s.path.queue = [] → Waits .offer s) ∧
    (∀ (b : Band) (rest : List QEntry) (plan : PausePlan), s.path.engine = .running →
      s.path.queue = .band b.serial :: rest → findBand s b.serial = some b →
      plan = planFeed s.media.stops s.media.roll.position b.rows →
      (itemHeld s b.item = false → s.cutter.state ≠ .cutting →
        Leaves .offer s (handOver (.band b.serial) plan.commanded plan.points
          ((s.clearOut.onPath fun p => { p with
            queue := rest,
            store := p.store.map fun a => if a.serial = b.serial then { a with state := .inFlight } else a }).onMedia
            fun m => { m with
              rowsMoved := 0, strayRows := 0,
              remainder := if 0 < plan.rest then
                some { serial := b.serial, owner := some b.item, work := .feed (.bandRest b.slot) plan.rest, rest := true }
              else none }))) ∧
      (itemHeld s b.item = true ∨ s.cutter.state = .cutting → Waits .offer s)) ∧
    (∀ (o : Op) (rest : List QEntry) (source : FeedSource) (rows : Nat) (plan : PausePlan),
      s.path.engine = .running → s.path.queue = .op o :: rest → o.work = .feed source rows →
      plan = planFeed s.media.stops s.media.roll.position rows →
      (s.cutter.state ≠ .cutting →
        Leaves .offer s (handOver (.op o) plan.commanded plan.points
          ((s.clearOut.onPath fun p => { p with queue := rest }).onMedia fun m => { m with
            rowsMoved := 0, strayRows := 0,
            remainder := if 0 < plan.rest then
              some { serial := o.serial, owner := o.owner, work := .feed source plan.rest, rest := true }
            else none }))) ∧
      (s.cutter.state = .cutting → Waits .offer s)) ∧
    (∀ (o : Op) (rest : List QEntry) (strength : Nat) (flush : List (Chan × Nat)) (granted : Bool),
      s.path.engine = .running → s.path.queue = .op o :: rest → o.work = .clean strength flush granted →
      Leaves .offer s (handOver (.op o) 0 [] (s.clearOut.onPath fun p => { p with queue := rest }))))

/-- The pause points and the commanded feed of an operation (R126, R127). -/
def Obligations.FeedPlanned : Prop :=
  ∀ (stops : List Stop) (p : Row) (f : Nat), (stops.Pairwise fun a b => a.position ≤ b.position) →
    ∃ plan, plan = planFeed stops p f ∧ plan.points.length ≤ 4 ∧ plan.commanded + plan.rest = f ∧
      (∀ q ∈ plan.points, q.offset ≤ plan.commanded ∧
        ∃ u ∈ stops, u.uid = q.stop ∧ u.position = p + q.offset) ∧
      (∀ u ∈ stops, p ≤ u.position → u.position < p + plan.commanded →
        ({ stop := u.uid, offset := (u.position - p).toNat } : PausePoint) ∈ plan.points) ∧
      ((stops.filter fun u => decide (p ≤ u.position) && decide (u.position ≤ p + f)).length ≤ 4 →
        plan.commanded = f ∧ ∀ u ∈ stops, p ≤ u.position → u.position ≤ p + f →
          ({ stop := u.uid, offset := (u.position - p).toNat } : PausePoint) ∈ plan.points) ∧
      (4 < (stops.filter fun u => decide (p ≤ u.position) && decide (u.position ≤ p + f)).length →
        plan.points.length = 4 ∧ (plan.points.getLast?.map PausePoint.offset) = some plan.commanded)

/-- ACCEPT, REFUSE and ANSWER_DEADLINE (R73, R77). -/
def Obligations.OfferAnswered : Prop :=
  (∀ (opId : Nat) (s : State), (∀ f, s.path.flight = some f → f.opId = opId →
      ∀ n d, f.phase ≠ .offering n d) →
    Waits (.accept opId) s ∧ Waits (.refuse opId) s) ∧
  (∀ (f : Flight) (n : Nat) (deadline : Time) (s : State), s.path.flight = some f →
    f.phase = .offering n deadline →
    Leaves (.accept f.opId) s (s.clearOut.onPath fun p => { p with
      flight := some { f with phase := .running s.now, elapsed := 0 } }) ∧
    (n < 3 → ∃ t, t = (s.clearOut.onPath fun p => { p with
          flight := some { f with phase := .offering (n + 1) (s.now + 500#32) } }).send
          (.offer f.opId (offerBody s f) (f.points.map PausePoint.offset)) ∧
      Leaves (.refuse f.opId) s t ∧ (passed s.now deadline = true → Leaves .answerDeadline s t)) ∧
    (3 ≤ n → Leaves (.refuse f.opId) s (headFault .noAccept s.clearOut) ∧
      (passed s.now deadline = true → Leaves .answerDeadline s (headFault .noAccept s.clearOut))) ∧
    (passed s.now deadline = false → Waits .answerDeadline s))

/-- RUNNING_TIMER_LIMIT, ENGINE_FAULT, ENGINE_READY, HALT and RESUME (R74, R77, R78, R79, R80). -/
def Obligations.EngineStates : Prop :=
  (∀ (f : Flight) (since : Time) (s : State), s.path.flight = some f → f.phase = .running since →
    ((match f.work.kind with | .band => 20000 | .feed => 10000 | .clean => 60000 | .verify => 15000) ≤
        f.elapsed + (s.now - since).toNat →
      Leaves .runningTimerLimit s (headFault .timeout s.clearOut)) ∧
    (f.elapsed + (s.now - since).toNat <
        (match f.work.kind with | .band => 20000 | .feed => 10000 | .clean => 60000 | .verify => 15000) →
      Waits .runningTimerLimit s)) ∧
  (∀ s : State,
    (s.path.engine = .waitingEngine → Leaves .engineReady s
      (raise .headReady (s.clearOut.onPath fun p => { p with engine := .running }))) ∧
    (s.path.engine = .fault → Leaves .engineReady s
      (raise .headReady (s.clearOut.onPath fun p => { p with readySeen := true }))) ∧
    (s.path.engine = .running ∨ s.path.engine = .paused → Waits .engineReady s) ∧
    (s.path.engine = .waitingEngine → Leaves .engineFault s (raise (.headFault .engineFault none)
      (s.clearOut.onPath fun p => { p with engine := .fault, readySeen := false }))) ∧
    (s.path.engine = .running ∨ s.path.engine = .paused →
      Leaves .engineFault s (headFault .engineFault s.clearOut)) ∧
    (s.path.engine = .fault → Leaves .engineFault s (s.clearOut.onPath fun p => { p with readySeen := false }))) ∧
  (∀ (tag : Byte) (s : State), actsAtOnce s = true →
    (∀ body, body ≠ [] → Refuses (.halt tag body) s .halt tag body ∧ Refuses (.resume tag body) s .resume tag body) ∧
    (s.path.engine = .running ∨ s.path.engine = .paused → Replies (.halt tag []) s tag .ok .empty
      (s.clearOut.onPath fun p => { p with engine := .paused })) ∧
    (s.path.engine = .waitingEngine ∨ s.path.engine = .fault →
      Replies (.halt tag []) s tag .refusedState .empty s.clearOut) ∧
    (s.path.engine = .paused ∨ (s.path.engine = .fault ∧ s.path.readySeen = true) →
      Replies (.resume tag []) s tag .ok .empty (s.clearOut.onPath fun p => { p with engine := .running })) ∧
    (s.path.engine = .running ∨ s.path.engine = .waitingEngine ∨
        (s.path.engine = .fault ∧ s.path.readySeen = false) →
      Replies (.resume tag []) s tag .refusedState .empty s.clearOut)) ∧
  (∀ (cause : FaultCause) (s : State), s.path.flight = none → s.colour.scan = none → s.colour.measure = none →
    headFault cause s = raise (.headFault cause none)
      (s.onPath fun p => { p with engine := .fault, readySeen := false }))

/-- PAUSED: the pause, the dispatch of its stop, and a report out of place (R74, R128, R137, R142, R148, R77). -/
def Obligations.PauseReported : Prop :=
  (∀ (opId point : Nat) (s : State), (∀ f, s.path.flight = some f → f.opId ≠ opId) →
    Waits (.paused opId point) s) ∧
  (∀ (f : Flight) (point : Nat) (s : State), s.path.flight = some f →
    (∀ since, f.phase ≠ .running since) → Leaves (.paused f.opId point) s (headFault .protocol s.clearOut)) ∧
  (∀ (f : Flight) (since : Time) (point : Nat) (s : State), s.path.flight = some f → f.phase = .running since →
    (point ≠ f.reported ∨ f.points.length ≤ point →
      Leaves (.paused f.opId point) s (headFault .protocol s.clearOut)) ∧
    ∀ q g, f.points[f.reported]? = some q →
      g = { f with phase := .pausedAt, elapsed := f.elapsed + (s.now - since).toNat, reported := f.reported + 1 } →
      (∀ u m, findStop s q.stop = some u → u.kind = .measure m →
        Leaves (.paused f.opId f.reported) s
          ((s.clearOut.onPath fun p => { p with flight := some g }).onColour fun k =>
            { k with measure := some q.stop })) ∧
      (∀ u c, findStop s q.stop = some u → u.kind = .cut c → s.cutter.state = .idle → s.cutter.held = none →
        ∃ t, t = (s.clearOut.onPath fun p => { p with flight := some g }).onCutter (fun k => { k with
            state := .waiting, held := some q.stop, dispatchedAt := some s.now, startedAt := none,
            holdReported := c.hold }) ∧
          Leaves (.paused f.opId f.reported) s
            (if c.hold then
              raise (.cutHoldWait { role := c.role, id := u.itemId, panel := u.panel, position := u.position }) t
             else t)) ∧
      (∀ u c, findStop s q.stop = some u → u.kind = .cut c → s.cutter.held = some q.stop →
        Leaves (.paused f.opId f.reported) s (s.clearOut.onPath fun p => { p with flight := some g })) ∧
      (findStop s q.stop = none →
        Leaves (.paused f.opId f.reported) s
          ((s.clearOut.onPath fun p => { p with flight := some { g with phase := .running s.now } }).send
            (.proceed f.opId))))

/-- DONE, ABORTED and every HEAD_FAULT of a BAND: what the end settles and leaves (log 5, log 26, log 28) (R75,
R76, R77, R87, R88, R89, R90, R93, R107, R124, R127, R135). -/
def Obligations.BandSettles : Prop :=
  ∀ (f : Flight) (b : Band) (i : Item) (ref : OpRef) (s : State), s.path.flight = some f →
    f.work = .band b.serial → findBand s b.serial = some b →
    (b.channels.map BandChannel.chan).Nodup → findItem s b.item = some i →
    (s.items.live.map Item.uid).Nodup → ref = { opId := f.opId, kind := .band, owner := some i.id } →
    (∀ since, f.phase = .running since → f.reported = f.points.length →
      ∃ t u engine, exec (.done f.opId) s = .next t ∧ BandEnded f b i b.rows BandChannel.demand s t ∧
        engine = (if slipNotices f s ≠ [] ∧ s.path.engine = .running then .paused else s.path.engine) ∧
        t.path.engine = engine ∧ BandGone b b.rows [] s u ∧
        t = keepRunOut (advanceItem b.item (moveEnded f (slipNotices f s) engine s.path.readySeen u))) ∧
    (∀ d, (∀ n t, f.phase ≠ .offering n t) →
      ∃ t u, exec (.aborted f.opId d) s = .next t ∧ t.path.engine = s.path.engine ∧
        BandEnded f b i (abortedPrints b d)
          (fun c => c.quarterDemand ((min d b.rows + 7) / 8)) s t ∧
        BandGone b (abortedPrints b d) [.opAborted ref (min d b.rows)] s u ∧
        (NoStripAtSensor s →
          t = keepRunOut (advanceItem b.item (moveEnded f [] s.path.engine s.path.readySeen u)))) ∧
    (∀ cause, ∃ t u, t = headFault cause s.clearOut ∧ t.path.engine = .fault ∧ t.path.readySeen = false ∧
      BandEnded f b i b.rows BandChannel.demand s t ∧ BandGone b b.rows [] s u ∧
      (NoStripAtSensor s → t = raise (.headFault cause (some ref))
        (advanceItem b.item (moveEnded f (slipNotices f s) .fault false u)))) ∧
    (∀ since, f.phase = .running since → 20000 ≤ f.elapsed + (s.now - since).toNat →
      Leaves .runningTimerLimit s (headFault .timeout s.clearOut) ∧
      ∃ t, exec .runningTimerLimit s = .next t ∧ t.path.engine = .fault ∧ t.path.readySeen = false ∧
        BandEnded f b i b.rows BandChannel.demand s t)

/-- DONE, ABORTED and HEAD_FAULT of every FEED, of a CLEAN and of a VERIFY part (choices: logs 5, 26, 28, 46)
(R75, R76, R77, R91, R92, R93, R124, R127, R129, R46, R169, R170). -/
def Obligations.OtherOperationsEnd : Prop :=
  (∀ (opId rows : Nat) (s : State), (∀ f, s.path.flight = some f → f.opId ≠ opId) →
    Waits (.done opId) s ∧ Waits (.aborted opId rows) s) ∧
  (∀ (f : Flight) (s : State), s.path.flight = some f →
    (∀ since, f.phase = .running since → f.reported ≠ f.points.length) →
    Leaves (.done f.opId) s (headFault .protocol s.clearOut)) ∧
  (∀ (f : Flight) (n d : Nat) (deadline : Time) (s : State), s.path.flight = some f →
    f.phase = .offering n deadline → Leaves (.aborted f.opId d) s (headFault .protocol s.clearOut)) ∧
  (∀ (f : Flight) (since : Time) (s : State), s.path.flight = some f → f.phase = .running since →
    (f.work.kind = .feed ∧ 10000 ≤ f.elapsed + (s.now - since).toNat ∨
      f.work.kind = .clean ∧ 60000 ≤ f.elapsed + (s.now - since).toNat ∨
      f.work.kind = .verify ∧ 15000 ≤ f.elapsed + (s.now - since).toNat) →
    Leaves .runningTimerLimit s (headFault .timeout s.clearOut)) ∧
  (∀ (f : Flight) (o : Op) (source : FeedSource) (rows : Nat) (ref : OpRef) (live : List Item) (s : State),
    s.path.flight = some f → f.work = .op o → o.work = .feed source rows → LiveAfterFeed o s live →
    ref = { opId := f.opId, kind := .feed, owner := o.owner.bind fun u => (findItem s u).map Item.id } →
    (∀ since engine (u : State), f.phase = .running since → f.reported = f.points.length →
      engine = (if slipNotices f s ≠ [] ∧ s.path.engine = .running then .paused else s.path.engine) →
      u = afterOwner o (feedLeft f (slipNotices f s) engine s.path.readySeen live s) →
      (source ≠ .runOut ∨ runOutReady u = false → Leaves (.done f.opId) s u) ∧
      (∀ stop more n, source = .runOut → runOutReady u = true → u.media.stops = stop :: more →
        n = min (stop.position - u.media.roll.position).toNat u.media.roll.remaining →
        Leaves (.done f.opId) s { u with
          path := { u.path with
            queue := u.path.queue ++
              [.op { serial := u.path.nextArise, owner := none, work := .feed .runOut n, rest := false }],
            nextArise := u.path.nextArise + 1 },
          media := { u.media with runOut := none },
          items := { u.items with planRow := u.items.planRow + n } })) ∧
    (∀ d, NoStripAtSensor s → (∀ n t, f.phase ≠ .offering n t) →
      Leaves (.aborted f.opId d) s
        (afterOwner o (feedLeft f [.opAborted ref d] s.path.engine s.path.readySeen live s))) ∧
    (∀ cause, NoStripAtSensor s → headFault cause s.clearOut =
      raise (.headFault cause (some ref)) (afterOwner o (feedLeft f (slipNotices f s) .fault false live s)))) ∧
  (∀ (f : Flight) (o : Op) (strength : Nat) (flush : List (Chan × Nat)) (granted : Bool) (s : State),
    s.path.flight = some f → f.work = .op o → o.work = .clean strength flush granted → o.owner = none →
    (flush.map Prod.fst).Nodup → NoStripAtSensor s →
    (∀ since, f.phase = .running since → f.reported = f.points.length →
      ∃ t, exec (.done f.opId) s = .next t ∧ t.path.engine = s.path.engine ∧ CleanEnded flush s t) ∧
    (∀ d, (∀ n t, f.phase ≠ .offering n t) →
      ∃ t, exec (.aborted f.opId d) s = .next t ∧ t.path.engine = s.path.engine ∧ CleanEnded flush s t) ∧
    (∀ cause, ∃ t, headFault cause s.clearOut = t ∧ t.path.engine = .fault ∧ t.path.readySeen = false ∧
      CleanEnded flush s t)) ∧
  (∀ (f : Flight) (p : Part) (run : TestRun) (mean : Filter → Nat) (ref : OpRef) (s u : State),
    s.path.flight = some f → f.work = .verify p → s.colour.verify.test = some run →
    (run.code = 2 ∨ run.code = 3 ∨ run.code = 4 ∨ run.code = 5) →
    ref = { opId := f.opId, kind := .verify, owner := none } →
    u = (s.clearOut.onPath fun q => { q with flight := none }) →
    (∀ since, f.phase = .running since → f.reported = f.points.length →
      (¬ReadingsWhole p s.colour.verify → Leaves (.done f.opId) s
        (partLeft run { part := p, failure := some .readings, figures := [] } s.colour.cal u)) ∧
      (∀ figures, ReadingsWhole p s.colour.verify →
        (∀ g : Filter, HalfUp (s.colour.verify.readings[g]).sum 8 (mean g)) →
        (∀ x ∈ s.colour.verify.readings[(3 : Filter)], x ≤ 65535) →
        FiguresOf p s.colour.verify mean figures →
        (PartMeets p s.colour.cal s.colour.verify mean → Leaves (.done f.opId) s
          (partLeft run { part := p, failure := none, figures := figures }
            (calibrated p mean s.colour.cal) u)) ∧
        (¬PartMeets p s.colour.cal s.colour.verify mean → Leaves (.done f.opId) s
          (partLeft run { part := p, failure := some .condition, figures := figures } s.colour.cal u)))) ∧
    (∀ d (v : State), NoStripAtSensor s → (∀ n t, f.phase ≠ .offering n t) →
      v = (raise (.opAborted ref d) u).onColour (fun k => { k with
        verify := { k.verify with readings := Vector.replicate 4 [], malformed := false } }) →
      Leaves (.aborted f.opId d) s
        (partLeft run { part := p, failure := some .aborted, figures := [] } s.colour.cal v)) ∧
    (∀ cause (v : State), NoStripAtSensor s →
      v = { u with
        path := { u.path with engine := .fault, readySeen := false },
        colour := { u.colour with
          verify := { u.colour.verify with readings := Vector.replicate 4 [], malformed := false } } } →
      headFault cause s.clearOut = raise (.headFault cause (some ref))
        (partLeft run { part := p, failure := some .fault, figures := [] } s.colour.cal v)))

/-- SCAN_START, READING, SCAN_DONE, SCAN_DEADLINE, and the end of a scan or a waiting measure action by ABORTED
or HEAD_FAULT (R74, R76, R77, R148, R149, R150, R151, R152, R163, R122, R123, R168). -/
def Obligations.ScanRuns : Prop :=
  (∀ (t : Stop) (m : MeasureStop) (panel : Nat) (l : Fin 8) (i : Item) (patch : Vector PatchLayout 8) (f : Flight)
      (s : State), s.colour.measure = some t.uid → s.colour.scan = none → s.tables.patch = some patch →
    s.path.flight = some f → pausedStop s = some t.uid → findStop s t.uid = some t → t.kind = .measure m →
    t.panel = some panel → m.layout = l.val → findItem s t.item = some i →
    ∃ c, Leaves .scanStart s ((s.clearOut.onColour fun k => { k with scan := some c, measure := none }).send
        (.scan f.opId m.layout c.integration)) ∧
      c.item = t.item ∧ c.itemId = t.itemId ∧ c.job = i.job ∧ c.edition = i.edition ∧ c.panel = panel ∧
      c.strip = m.strip ∧ c.layout = m.layout ∧ c.position = t.position ∧ c.stop = t.uid ∧ c.opId = f.opId ∧
      c.integration = patch[l].integration ∧ c.deadline = some (s.now + 10000#32) ∧ c.ended = none ∧
      c.patches.length = min patch[l].count 24 ∧
      ∀ (k : Fin 24) (g : Filter), k.val < patch[l].count → patch[l].patches[k].filter = g.val →
        (patch[l].patches[k].mode = 0 →
          c.patches[k.val]? = some { expected := [0, 1, 2, 3], raws := [], mark := .opened }) ∧
        (patch[l].patches[k].mode = 1 →
          c.patches[k.val]? = some { expected := [0, 1, 2, 3, 0, 1, 2, 3], raws := [], mark := .opened }) ∧
        (patch[l].patches[k].mode = 2 →
          c.patches[k.val]? = some { expected := [g, g, g, g], raws := [], mark := .opened }) ∧
        (patch[l].patches[k].mode = 3 →
          c.patches[k.val]? = some { expected := [g, g, g, g, g, g, g, g], raws := [], mark := .opened })) ∧
  (∀ s : State, s.colour.scan.isSome = true → Waits .scanStart s) ∧
  (∀ (opId patch : Nat) (g : Filter) (raw : BitVec 16) (s : State),
    (∀ f, s.path.flight = some f → f.opId ≠ opId) →
    Waits (.reading opId patch g raw) s ∧ Waits (.scanDone opId) s) ∧
  (∀ (f : Flight) (patch : Nat) (g : Filter) (raw : BitVec 16) (s : State), s.path.flight = some f →
    (∀ n d, f.phase = .offering n d →
      Leaves (.reading f.opId patch g raw) s (headFault .protocol s.clearOut) ∧
      Leaves (.scanDone f.opId) s (headFault .protocol s.clearOut)) ∧
    (∀ since, f.phase = .running since →
      Waits (.scanDone f.opId) s ∧
      ((∀ p, f.work ≠ .verify p) → Waits (.reading f.opId patch g raw) s) ∧
      (∀ p, f.work = .verify p →
        Leaves (.reading f.opId patch g raw) s (s.clearOut.onColour fun k => { k with verify :=
          if (p ≠ .lamp ∨ g = 3) ∧ k.verify.readings[g].length < 8 then
            { k.verify with readings := k.verify.readings.set g.val (k.verify.readings[g] ++ [raw.toNat]) }
          else { k.verify with malformed := true } }))) ∧
    (f.phase = .pausedAt →
      ((∀ c, s.colour.scan = some c → c.ended ≠ none) →
        Waits (.reading f.opId patch g raw) s ∧ Waits (.scanDone f.opId) s) ∧
      ∀ c, s.colour.scan = some c → c.ended = none →
        (∃ t, exec (.scanDone f.opId) s = .next t ∧ ScanEnded .done c s.clearOut t) ∧
        (c.patches.length ≤ patch → Waits (.reading f.opId patch g raw) s) ∧
        ∀ p, c.patches[patch]? = some p →
          ∃ q, Leaves (.reading f.opId patch g raw) s (s.clearOut.onColour fun k =>
              { k with scan := some { c with patches := c.patches.set patch q } }) ∧
            (p.mark = .missed → q = p) ∧
            (p.mark = .complete ∨ (p.mark = .opened ∧ p.expected[p.raws.length]? ≠ some g) →
              q = { p with mark := .missed, raws := [] }) ∧
            (p.mark = .opened → p.expected[p.raws.length]? = some g →
              q = { p with raws := p.raws ++ [raw.toNat],
                           mark := if p.raws.length + 1 = p.expected.length then .complete else .opened }))) ∧
  (∀ (c : Scan) (d : Time) (s : State), s.colour.scan = some c → c.ended = none → c.deadline = some d →
    (0 ≤ (s.now - d).toInt → ∃ t, exec .scanDeadline s = .next t ∧ ScanEnded .timeout c s.clearOut t) ∧
    ((s.now - d).toInt < 0 → Waits .scanDeadline s)) ∧
  (∀ s : State, (∀ c, s.colour.scan = some c → c.ended ≠ none) → Waits .scanDeadline s) ∧
  (∀ (f : Flight) (s : State), s.path.flight = some f →
    (∀ c, s.colour.scan = some c → c.ended = none → s.colour.measure = none →
      EndsWithFlight f (fun cause w v => ScanEnded cause c w v) s) ∧
    (∀ u m, (∀ c, s.colour.scan = some c → c.ended ≠ none) → s.colour.measure = some u.uid →
      findStop s u.uid = some u → u.kind = .measure m → EndsWithFlight f (fun _ w v => MeasureUnread u m w v) s))

/-- VERDICT_COMPUTATION: means, reflectances (log 54), references, scores, the strip verdict, and the whole body
of its notice (R2, R153, R154, R155, R156, R163, R35, R157, R160, R162, R166). -/
def Obligations.VerdictFigures : Prop :=
  (∀ s : State, (∀ c, s.colour.scan = some c → c.ended = none) ∨ s.tables.lock = some .patch ∨
      s.tables.lock = some .tolerance → Waits .verdictComputation s) ∧
  (∀ (c : Scan) (l : Fin 8) (patch : Vector PatchLayout 8) (tolerance : Vector Limits 8) (s : State),
    s.colour.scan = some c → c.ended.isSome = true → c.layout = l.val → s.tables.patch = some patch →
    s.tables.tolerance = some tolerance → s.tables.lock ≠ some .patch → s.tables.lock ≠ some .tolerance →
    (∀ f : Filter, s.colour.cal.black[f] < s.colour.cal.white[f]) →
    ∃ (t mid : State) (b : CheckBody), exec .verdictComputation s = .next t ∧ t.colour.scan = none ∧
      b.patches = c.patches.mapIdx (patchEntry s.colour.cal (c.edition.bind (findEdition s)) c.layout
        (layoutOf patch c.layout) tolerance[Fin.ofNat 8 c.layout]) ∧
      b.stripVerdict = stripVerdict s.colour.cal.valid b.patches ∧
      t.link = (raise (.checkVerdict b) mid).link ∧ mid.tables = s.tables ∧ mid.now = s.now ∧
      (findItem s c.item = none → mid.link = s.link) ∧
      (∀ i, findItem s c.item = some i → i.policy = .report → mid.link = s.link) ∧
      b.id = c.itemId ∧ b.job = c.job ∧ b.edition = c.edition ∧ b.panel = c.panel ∧ b.strip = c.strip ∧
      b.layout = c.layout ∧ b.position = c.position ∧ b.cause = c.ended ∧ b.valid = s.colour.cal.valid ∧
      (findItem s c.item = none → b.print = none ∧ b.panelVerdict = none) ∧
      (∀ i p, findItem s c.item = some i → (i.panels.find? fun q => q.index == c.panel) = some p →
        b.print = some i.print ∧
        b.panelVerdict = some (if p.verdict.rank < b.stripVerdict.rank then b.stripVerdict else p.verdict)) ∧
      b.printsClosed = (c.edition.bind (findEdition t)).map Edition.printsClosed ∧
      b.lastVerdict = (c.edition.bind (findEdition t)).map Edition.last ∧
      (∀ i e, s.colour.cal.valid = true → findItem s c.item = some i → i.fate = .complete →
        c.edition.bind (findEdition s) = some e → e.layout = none ∨ e.layout = some c.layout →
        b.filled = ((List.finRange 24).map fun k => ((List.finRange 4).filter fun g =>
          e.values[k][g].isNone && b.patches.any fun x =>
            x.index == k.val && x.figures.any fun y => y.filter == g).length).sum) ∧
      (s.colour.cal.valid = false ∨ (∀ i, findItem s c.item = some i → i.fate ≠ .complete) ∨
        (∀ e, c.edition.bind (findEdition s) = some e → e.layout ≠ none ∧ e.layout ≠ some c.layout) →
        b.filled = 0) ∧
      b.patches.length = c.patches.length ∧
      b.stripVerdict =
        (if s.colour.cal.valid = false then .uncalibrated
         else if ∃ x ∈ b.patches, x.verdict = some .fail then .fail
         else if ∃ x ∈ b.patches, x.mark = .missed then .incomplete
         else if ∃ x ∈ b.patches, x.verdict = some .warn then .warn
         else .pass) ∧
      (∀ k p, c.patches[k]? = some p → p.mark ≠ .complete ∨ patch[l].count ≤ k ∨ 24 ≤ k →
        b.patches[k]? = some { index := k, mark := .missed, figures := [], score := none, verdict := none }) ∧
      (∀ (k : Fin 24) (p : ScanPatch), c.patches[k.val]? = some p → p.mark = .complete → k.val < patch[l].count →
        (∀ f ∈ p.expected, ((p.expected.zip p.raws).filter fun x => x.1 == f) ≠ []) →
        ∃ x sc, b.patches[k.val]? = some x ∧ x.index = k.val ∧ x.mark = .complete ∧
          x.figures.map FilterFigure.filter = (List.finRange 4).filter (fun f => p.expected.contains f) ∧
          x.score = some sc ∧ (∀ g ∈ x.figures, g.deviation.natAbs ≤ sc) ∧
          (p.expected ≠ [] → ∃ g ∈ x.figures, g.deviation.natAbs = sc) ∧
          x.verdict = (if s.colour.cal.valid then
            some (if sc ≤ tolerance[l].warn then .pass else if sc ≤ tolerance[l].fail then .warn else .fail)
            else none) ∧
          ∀ g ∈ x.figures, ∃ (values : List Nat) (mean r white black : Nat) (base : Option Nat),
            values = ((p.expected.zip p.raws).filter fun x => x.1 == g.filter).map Prod.snd ∧
            HalfUp values.sum values.length mean ∧
            white = (if s.colour.cal.valid then s.colour.cal.white[g.filter] else 60000) ∧
            black = (if s.colour.cal.valid then s.colour.cal.black[g.filter] else 1200) ∧
            HalfUp ((mean - black) * 4095) (white - black) r ∧
            g.reflectance = min 4095 r ∧
            base = (match c.edition.bind (findEdition s) with
              | some e => if e.layout = some c.layout then e.values[k][g.filter] else none
              | none => none) ∧
            g.fromBaseline = base.isSome ∧ g.reference = base.getD patch[l].patches[k].targets[g.filter] ∧
            g.deviation = (g.reflectance : Int) - g.reference))

/-- VERDICT_COMPUTATION: the panel verdict, the holds with their notices, and the edition (R157, R158, R160,
R162, R53, R138, R159, R59, R145). -/
def Obligations.VerdictApplied : Prop :=
  ∀ (c : Scan) (patch : Vector PatchLayout 8) (tolerance : Vector Limits 8) (s : State),
    s.colour.scan = some c → c.ended.isSome = true → s.tables.patch = some patch →
    s.tables.tolerance = some tolerance → s.tables.lock ≠ some .patch → s.tables.lock ≠ some .tolerance →
    ∃ (t : State) (es : List PatchEntry) (strip : Verdict), exec .verdictComputation s = .next t ∧
      es = c.patches.mapIdx (patchEntry s.colour.cal (c.edition.bind (findEdition s)) c.layout
        (layoutOf patch c.layout) tolerance[Fin.ofNat 8 c.layout]) ∧
      strip = stripVerdict s.colour.cal.valid es ∧
      OnlyChanges [.link, .items, .media, .cutter, .colour] s t ∧ t.media.roll = s.media.roll ∧ t.out = [] ∧
      t.colour = { s.colour with scan := none, editions := t.colour.editions } ∧
      t.cutter = { s.cutter with holdReported := t.cutter.holdReported } ∧
      ∃ (ns : List Notice) (body : CheckBody),
      t.link = (raise (.checkVerdict body) (ns.foldl (fun v n => raise n v) s)).link ∧
      body.patches = es ∧ body.stripVerdict = strip ∧ body.id = c.itemId ∧ body.panel = c.panel ∧
      (findItem s c.item = none → ns = [] ∧ t.cutter = s.cutter ∧ t.items = s.items ∧ t.media.stops = s.media.stops ∧
        ∀ e ∈ t.colour.editions, e ∈ s.colour.editions) ∧
      ∀ (i : Item) (p : Panel), findItem s c.item = some i → c.edition = i.edition →
        (i.panels.find? fun q => q.index == c.panel) = some p → (s.items.live.map Item.uid).Nodup →
        ∃ (v : Verdict) (newFail : Prop) (held : Bool),
          v = (if p.verdict.rank < strip.rank then strip else p.verdict) ∧
          (newFail ↔ p.verdict ≠ .fail ∧ strip = .fail) ∧
          body.panelVerdict = some v ∧
          (newFail → i.policy = .holdPrint → i.fate = .complete →
              i.state = .opened ∨ i.state = .closing ∨ i.state = .settling →
            t.cutter = s.cutter ∧ ns = [.item .held
              { id := i.id, job := i.job, print := i.print, edition := i.edition, state := .held,
                under := some i.state, fate := .complete, rowsReceived := i.rowsReceived,
                rowsPrinted := i.rowsPrinted,
                panelsClosed := i.panels.length - (if i.openRows = 0 then 0 else 1) }]) ∧
          (newFail → i.policy = .holdCut → i.fate = .complete →
            (∀ u k, heldStop t = some (u, k) → s.cutter.state = .waiting → k.hold = true →
              s.cutter.holdReported = false → t.cutter.holdReported = true ∧
              ns = [.cutHoldWait { role := k.role, id := u.itemId, panel := u.panel, position := u.position }]) ∧
            (heldStop t = none ∨ s.cutter.state ≠ .waiting ∨ s.cutter.holdReported = true ∨
                (∃ u k, heldStop t = some (u, k) ∧ k.hold = false) →
              ns = [] ∧ t.cutter = s.cutter)) ∧
          (¬newFail ∨ i.policy = .report ∨ i.fate ≠ .complete ∨
              (i.policy = .holdPrint ∧ i.state ≠ .opened ∧ i.state ≠ .closing ∧ i.state ≠ .settling) →
            ns = [] ∧ t.cutter = s.cutter) ∧
          (held = true ↔ newFail ∧ i.policy = .holdPrint ∧ i.fate = .complete ∧
            (i.state = .opened ∨ i.state = .closing ∨ i.state = .settling)) ∧
          t.items = { s.items with live := s.items.live.map fun k =>
            if k.uid = i.uid then { k with
              state := if held then .held else i.state,
              under := if held then some i.state else i.under,
              panels := i.panels.map fun q => if q.index = c.panel then { q with verdict := v } else q }
            else k } ∧
          (newFail → i.policy = .holdCut → i.fate = .complete →
            t.media.stops = s.media.stops.map fun u =>
              if u.item = i.uid ∧ u.panel = some c.panel then u.mapCut (fun k => { k with hold := true }) else u) ∧
          (¬newFail ∨ i.policy ≠ .holdCut ∨ i.fate ≠ .complete → t.media.stops = s.media.stops) ∧
          (c.edition = none → t.colour.editions = s.colour.editions) ∧
          ∀ n before e after, c.edition = some n → s.colour.editions = before ++ e :: after → e.number = n →
            (s.colour.editions.map Edition.number).Nodup →
            ∃ e', t.colour.editions = e' :: (before ++ after) ∧ e'.number = n ∧
              e'.printsClosed = e.printsClosed ∧ e'.last = v ∧
              (s.colour.cal.valid = true → i.fate = .complete → e.layout = none ∨ e.layout = some c.layout →
                e'.layout = some c.layout ∧
                ∀ (k : Fin 24) (g : Filter),
                  e'.values[k][g] = (match e.values[k][g] with
                    | some r => some r
                    | none => (es[k.val]?).bind fun x =>
                        (x.figures.find? fun y => y.filter == g).map FilterFigure.reflectance)) ∧
              (s.colour.cal.valid = false ∨ i.fate ≠ .complete ∨
                  (e.layout ≠ none ∧ e.layout ≠ some c.layout) →
                e'.layout = e.layout ∧ e'.values = e.values)

/-- ENCODER_EDGE: the edge remainder and what fed rows do; the stray FEED_SLIP body (log 25) and the notice
order (log 26) are choices (R123, R125, R45, R132, R137, R129, R131). -/
def Obligations.EncoderEdge : Prop :=
  ∀ (d : Nat) (s : State), d = (match s.tables.mediaProfile with
      | some p => p.divisor
      | none => 1) → 1 ≤ d →
    (s.media.roll.edges + 1 < d →
      Leaves .encoderEdge s ((s.clearOut.onCutter fun k => { k with lastEdge := s.now }).onMedia fun m =>
        { m with roll := { m.roll with edges := m.roll.edges + 1 } })) ∧
    (s.media.roll.edges + 1 = d →
      ∃ (t : State) (ns : List Notice), exec .encoderEdge s = .next t ∧ t.out = [] ∧
        t.media.roll.edges = 0 ∧
        (s.media.stops.head?.map Stop.position = some s.media.roll.position →
          t.media.overrun = s.media.overrun + 1 ∧ t.media.roll.position = s.media.roll.position) ∧
        (s.media.stops.head?.map Stop.position ≠ some s.media.roll.position →
          t.media.overrun = s.media.overrun ∧ t.media.roll.position = s.media.roll.position + 1) ∧
        t.media.roll.remaining = s.media.roll.remaining - 1 ∧
        (s.media.lifetimeRows + 1 < 2 ^ 64 → t.media.lifetimeRows = s.media.lifetimeRows + 1) ∧
        (∀ i, (s.items.live.find? fun k => decide (0 < k.reservation)) = some i →
          t.media.roll.reserved = s.media.roll.reserved - 1 ∧
          t.items.live = s.items.live.map fun k =>
            if k.uid = i.uid then { k with reservation := k.reservation - 1 } else k) ∧
        ((∀ k ∈ s.items.live, k.reservation = 0) →
          t.media.roll.reserved = s.media.roll.reserved ∧ t.items.live = s.items.live) ∧
        (mediaMoving s = true →
          t.media.rowsMoved = s.media.rowsMoved + 1 ∧ t.media.strayRows = s.media.strayRows ∧
          t.items.planRow = s.items.planRow ∧ t.path = s.path) ∧
        (mediaMoving s = false →
          t.media.rowsMoved = s.media.rowsMoved ∧ t.media.strayRows = s.media.strayRows + 1 ∧
          t.items.planRow = s.items.planRow + 1 ∧
          t.path = { s.path with engine :=
            if s.media.strayRows + 1 = 3 ∧ s.path.engine = .running then .paused else s.path.engine }) ∧
        ns = (if s.media.roll.remaining = 1 ∧ s.media.roll.loaded = true then
            [.rollOut t.media.roll.position t.media.overrun] else []) ++
          (if mediaMoving s = false ∧ s.media.strayRows + 1 = 3 then
            [.feedSlip { op := none, commanded := none, moved := 3, difference := 3,
                         position := t.media.roll.position }] else []) ∧
        t.link = (ns.foldl (fun u n => raise n u) s).link ∧
        t.cutter = { s.cutter with lastEdge := s.now } ∧ t.media.stops = s.media.stops ∧
        t.media.runOut = (if runOutReady t then s.media.runOut else none) ∧
        t.items.jobs = s.items.jobs ∧ t.items.cutRef = s.items.cutRef ∧
        OnlyChanges [.link, .items, .path, .media, .cutter] s t) ∧
    ∃ (t : State) (k : Nat), exec .encoderEdge s = .next t ∧ k = (s.media.roll.edges + 1) / d ∧
      t.media.roll.edges = (s.media.roll.edges + 1) % d ∧
      t.media.roll.position + t.media.overrun = s.media.roll.position + s.media.overrun + k ∧
      t.media.roll.remaining = s.media.roll.remaining - k ∧
      (s.media.lifetimeRows + k < 2 ^ 64 → t.media.lifetimeRows = s.media.lifetimeRows + k) ∧
      t.media.stops = s.media.stops ∧ t.cutter = { s.cutter with lastEdge := s.now } ∧
      OnlyChanges [.link, .items, .path, .media, .cutter] s t

/-- ROLL_END_ASSERT, ROLL_END_RELEASE, RUN_OUT_WAIT_START, RUN_OUT_FEED, and what ends the run-out wait (log 48)
(R120, R129, R46, R68, R131, R55). -/
def Obligations.RollEvents : Prop :=
  (∀ s : State, Leaves .rollEndRelease s (s.clearOut.onMedia fun m =>
    { m with rollEndLine := false, rollEndArmed := true })) ∧
  (∀ s : State, s.media.roll.loaded = false ∨ s.media.rollEndArmed = false →
    Leaves .rollEndAssert s (s.clearOut.onMedia fun m => { m with rollEndLine := true })) ∧
  (∀ (s : State) (left : Nat), s.media.roll.loaded = true → s.media.rollEndArmed = true →
    (s.items.live.map Item.uid).Nodup → left = min s.media.roll.remaining 600 →
    (s.media.roll.reserved ≤ left →
      Leaves .rollEndAssert s (raise (.rollEnd s.media.roll.position left s.media.roll.reserved [])
        (s.clearOut.onMedia fun m => { m with
          rollEndLine := true, rollEndArmed := false, roll := { m.roll with remaining := left } }))) ∧
    (∀ kept, left < s.media.roll.reserved →
      kept = s.media.roll.reserved -
        ((s.items.live.filter fun i => i.state == .costing).map Item.reservation).sum → kept ≤ left →
      Leaves .rollEndAssert s (raise (.rollEnd s.media.roll.position left kept [])
        ((s.clearOut.onMedia fun m => { m with
          rollEndLine := true, rollEndArmed := false,
          roll := { m.roll with remaining := left, reserved := kept } }).onItems fun m => { m with
            live := m.live.map fun i => if i.state = .costing then { i with reservation := 0 } else i }))) ∧
    (∀ older i younger, s.items.live = older ++ i :: younger → (∀ k ∈ s.items.live, k.state ≠ .costing) →
      i.fate = .complete → 0 < i.reservation → (∀ k ∈ younger, k.reservation = 0) →
      left < s.media.roll.reserved → s.media.roll.reserved - i.reservation ≤ left →
      ∃ t mid, exec .rollEndAssert s = .next t ∧ AbortedBy i.uid s t ∧ t.media.rollEndArmed = false ∧
        t.media.rollEndLine = true ∧ t.media.roll.remaining = left ∧
        t.media.roll.reserved = s.media.roll.reserved - i.reservation ∧
        mid.tables = s.tables ∧ mid.now = s.now ∧
        t.link = (raise (.rollEnd t.media.roll.position left t.media.roll.reserved [i.id]) mid).link)) ∧
  (∀ s : State, runOutReady s = true ↔
    s.path.flight = none ∧ s.path.queue = [] ∧ s.path.waiting = [] ∧ s.path.abortWait = [] ∧
    s.path.store = [] ∧ s.media.remainder = none ∧ s.media.stops ≠ [] ∧ s.media.roll.loaded = true ∧
    0 < s.media.roll.remaining ∧ s.tables.mediaProfile ≠ none ∧ s.path.engine = .running) ∧
  (∀ (p : MediaProfile) (s : State), s.tables.mediaProfile = some p →
    (runOutReady s = true → s.media.runOut = none →
      Leaves .runOutWaitStart s (s.clearOut.onMedia fun m =>
        { m with runOut := some (s.now + BitVec.ofNat 32 p.runOutDelay) })) ∧
    (runOutReady s = false ∨ s.media.runOut ≠ none → Waits .runOutWaitStart s)) ∧
  (∀ (d : Time) (u : Stop) (rest : List Stop) (rows : Nat) (s : State), s.media.runOut = some d →
    runOutReady s = true → s.media.stops = u :: rest →
    rows = min (u.position - s.media.roll.position).toNat s.media.roll.remaining →
    (0 ≤ (s.now - d).toInt →
      Leaves .runOutFeed s (((s.clearOut.onPath fun p => { p with
        queue := [.op { serial := p.nextArise, owner := none, work := .feed .runOut rows, rest := false }],
        nextArise := p.nextArise + 1 }).onMedia fun m => { m with runOut := none }).onItems fun m =>
          { m with planRow := m.planRow + rows })) ∧
    ((s.now - d).toInt < 0 → Waits .runOutFeed s)) ∧
  (∀ s : State, s.media.runOut = none → Waits .runOutFeed s) ∧
  (∀ (older : List Entry) (e : Entry) (younger : List Entry) (a b c : Byte) (s : State),
    s.link.ret = older ++ e :: younger → (∀ x ∈ older, x.level < e.level) → (∀ x ∈ younger, x.level ≤ e.level) →
    e.isReply = true → replies s = 4 → s.path.engine = .running →
    s.link.hold = [.express .engineReset a [1#8], .express .halt b [], .express .resume c []] →
    ∃ t, exec .returnEntrySend s = .next t ∧ t.path.engine = .running ∧ t.media.runOut = none)

/-- ROLL_LOAD: its order of checks, the dropped stops with their UNREAD notices (log 43, order log 26) and the
replaced roll (a band: log 52) (R119, R122, R152, R157, R162, R163, R52, R46, R131, R10). -/
def Obligations.RollLoaded : Prop :=
  ∀ (tag : Byte) (body : List Byte) (s : State), actsAtOnce s = true →
    (numberBody body = none ∨ (∃ n, numberBody body = some n ∧ 9600000 < n) →
      Refuses (.rollLoad tag body) s .rollLoad tag body) ∧
    ∀ n, numberBody body = some n → n ≤ 9600000 →
      (s.tables.mediaProfile = none → Replies (.rollLoad tag body) s tag .noTable .empty s.clearOut) ∧
      ∀ p, s.tables.mediaProfile = some p →
        (0 < s.media.roll.reserved ∨ s.path.store ≠ [] ∨ mediaMoving s = true ∨
            (∃ o ∈ liveOps s, ∃ source rows, o.work = .feed source rows) ∨ s.cutter.held ≠ none →
          Replies (.rollLoad tag body) s tag .refusedState .empty s.clearOut) ∧
        (s.media.roll.reserved = 0 → s.path.store = [] → mediaMoving s = false →
          (∀ o ∈ liveOps s, ∃ strength flush granted, o.work = .clean strength flush granted) →
          s.cutter.held = none →
          (s.media.stops = [] →
            Replies (.rollLoad tag body) s tag .ok .empty
              ((s.clearOut.onMedia fun m => { m with
                roll := { loaded := decide (1 ≤ n), kind := p.rollKind, width := p.width, remaining := n,
                          reserved := 0, position := 0, lastCutRow := 0, edges := 0 },
                overrun := 0, strayRows := 0, runOut := none, rollEndArmed := !m.rollEndLine }).onItems fun m =>
                  { m with planRow := 0, cutRef := 0 })) ∧
          (∃ w x y : State,
            StripsUnread s.media.stops (s.clearOut.onMedia fun m => { m with
              stops := [], overrun := 0, roll := { m.roll with position := m.roll.position + m.overrun } }) w ∧
            x = (if s.media.stops = [] then w else raise (.stopsDropped
              (s.media.stops.countP fun u => !u.isMeasure) (s.media.stops.countP Stop.isMeasure)
              (s.media.stops.map Stop.itemId).dedup) w) ∧
            y = (s.media.stops.map Stop.item).dedup.foldl (fun v uid => advanceItem uid v) x ∧
            Replies (.rollLoad tag body) s tag .ok .empty
              ((y.onMedia fun m => { m with
                roll := { loaded := decide (1 ≤ n), kind := p.rollKind, width := p.width, remaining := n,
                          reserved := 0, position := 0, lastCutRow := 0, edges := 0 },
                overrun := 0, strayRows := 0, runOut := none, rollEndArmed := !m.rollEndLine }).onItems fun m =>
                  { m with planRow := 0, cutRef := 0 })) ∧
          ∃ t, exec (.rollLoad tag body) s = .next t ∧ RepliedLast t tag .ok ∧ t.media.stops = [] ∧
            t.media.roll = { loaded := decide (1 ≤ n), kind := p.rollKind, width := p.width, remaining := n,
                             reserved := 0, position := 0, lastCutRow := 0, edges := 0 } ∧
            t.media.overrun = 0 ∧ t.media.strayRows = 0 ∧ t.media.runOut = none ∧
            t.media.rollEndArmed = !s.media.rollEndLine ∧ t.items.planRow = 0 ∧ t.items.cutRef = 0 ∧
            t.media.lifetimeRows = s.media.lifetimeRows ∧ t.path = s.path ∧
            OnlyChanges [.link, .items, .media, .colour, .costing] s t)

/-- CUT_START, CUT_JAM, CUT_DEADLINE, CUTTER_CLEAR and CUTTER_RETRY (R137, R138, R139, R140, R141, R144, R145,
R81, R10). -/
def Obligations.CutAttempts : Prop :=
  (∀ (u : Stop) (c : CutStop) (body : CutBody) (s : State), heldStop s = some (u, c) →
    body = { role := c.role, id := u.itemId, panel := u.panel, position := u.position } →
    (∀ ready : Prop,
      (ready ↔ s.cutter.state = .waiting ∧ (∃ nb, c.notBefore = some nb ∧ 0 ≤ (s.now - nb).toInt) ∧
        c.hold = false ∧ 0 ≤ (s.now - (s.cutter.lastEdge + 20#32)).toInt ∧
        (c.role = .lead ∨ (∀ i, findItem s u.item = some i → i.policy ≠ .holdCut ∨ i.fate = .aborted) ∨
          (∀ k, s.colour.scan = some k → k.ended = none ∨ k.item ≠ u.item ∨ u.panel ≠ some k.panel)) ∧
        s.media.stops.head?.map Stop.uid = some u.uid) →
      (ready → Leaves .cutStart s ((s.clearOut.onCutter fun k =>
        { k with state := .cutting, deadline := some (s.now + 8000#32), startedAt := some s.now }).send
          .cutStart)) ∧
      (¬ready → Waits .cutStart s)) ∧
    (s.cutter.state = .cutting →
      Leaves .cutJam s (raise (.cutJam body)
        ((s.clearOut.onCutter fun k => { k with state := .fault, cause := some .jam, deadline := none }).onPath
          fun p => { p with engine := if p.engine = .running then .paused else p.engine })) ∧
      ∀ d, s.cutter.deadline = some d →
        (0 ≤ (s.now - d).toInt →
          Leaves .cutDeadline s (raise (.cutTimeout body)
            ((s.clearOut.onCutter fun k =>
              { k with state := .fault, cause := some .timeout, deadline := none }).onPath
              fun p => { p with engine := if p.engine = .running then .paused else p.engine }))) ∧
        ((s.now - d).toInt < 0 → Waits .cutDeadline s)) ∧
    (s.cutter.state ≠ .cutting → Waits .cutJam s ∧ Waits .cutDeadline s) ∧
    (∀ tag : Byte, actsAtOnce s = true →
      (∀ body, body ≠ [] → Refuses (.cutterClear tag body) s .cutterClear tag body) ∧
      (s.cutter.state ≠ .fault → Replies (.cutterClear tag []) s tag .refusedState .empty s.clearOut) ∧
      (s.cutter.state = .fault →
        Replies (.cutterClear tag []) s tag .ok .empty
          (raise (.cutCleared body.role body.id body.panel (decide (s.path.engine = .running)))
            (s.clearOut.onCutter fun k => { k with state := .idle, cause := none, retryPending := true })))) ∧
    (s.cutter.state = .idle → s.cutter.retryPending = true → s.path.engine = .running →
      ((∀ p, s.tables.mediaProfile = some p → p.cutterEnabled = true) →
        ∃ t, t = (s.clearOut.onCutter fun k =>
            { k with state := .waiting, retryPending := false, holdReported := c.hold }) ∧
          Leaves .cutterRetry s (if c.hold then raise (.cutHoldWait body) t else t)) ∧
      (∀ p, s.tables.mediaProfile = some p → p.cutterEnabled = false →
        ∃ t, exec .cutterRetry s = .next t ∧ CutterFreed s t ∧ ActionOver u.uid s.clearOut t ∧
          OwnerMoved u.uid s.clearOut t ∧ t.cutter.bladeCount = s.cutter.bladeCount ∧ t.media.roll.lastCutRow = s.media.roll.lastCutRow ∧
          OnlyChanges [.link, .items, .path, .media, .cutter, .colour, .costing] s t)) ∧
    (s.cutter.state ≠ .idle ∨ s.cutter.retryPending = false ∨ s.path.engine ≠ .running →
      Waits .cutterRetry s)) ∧
  ∀ s : State, heldStop s = none →
    Waits .cutStart s ∧ Waits .cutDone s ∧
    (s.cutter.state = .cutting →
      Leaves .cutJam s
        ((s.clearOut.onCutter fun k => { k with state := .fault, cause := some .jam, deadline := none }).onPath
          fun p => { p with engine := if p.engine = .running then .paused else p.engine }) ∧
      ∀ d, s.cutter.deadline = some d →
        (0 ≤ (s.now - d).toInt →
          Leaves .cutDeadline s
            ((s.clearOut.onCutter fun k =>
              { k with state := .fault, cause := some .timeout, deadline := none }).onPath
              fun p => { p with engine := if p.engine = .running then .paused else p.engine })) ∧
        ((s.now - d).toInt < 0 → Waits .cutDeadline s)) ∧
    (s.cutter.state ≠ .cutting → Waits .cutJam s ∧ Waits .cutDeadline s) ∧
    (∀ tag : Byte, actsAtOnce s = true →
      (∀ body, body ≠ [] → Refuses (.cutterClear tag body) s .cutterClear tag body) ∧
      (s.cutter.state ≠ .fault → Replies (.cutterClear tag []) s tag .refusedState .empty s.clearOut) ∧
      (s.cutter.state = .fault →
        Replies (.cutterClear tag []) s tag .ok .empty
          (s.clearOut.onCutter fun k => { k with state := .idle, cause := none, retryPending := true }))) ∧
    (s.cutter.held = none ∨ s.cutter.state ≠ .idle ∨ s.cutter.retryPending = false ∨ s.path.engine ≠ .running →
      Waits .cutterRetry s)

/-- CUT_DONE: the completed cut (order of its notices: log 26; times after a retry: log 42) (R139, R143, R128,
R122, R123, R142, R145, R52). -/
def Obligations.CutCompletes : Prop :=
  ∀ (u : Stop) (c : CutStop) (s : State), heldStop s = some (u, c) →
    (s.cutter.state ≠ .cutting → Waits .cutDone s) ∧
    ∀ d, s.cutter.state = .cutting → s.cutter.deadline = some d →
      (0 ≤ (s.now - d).toInt → Waits .cutDone s) ∧
      ((s.now - d).toInt < 0 →
        ∃ t, exec .cutDone s = .next t ∧ CutterFreed s t ∧ ActionOver u.uid s.clearOut t ∧
          (s.cutter.bladeCount + 1 < 2 ^ 64 → t.cutter.bladeCount = s.cutter.bladeCount + 1) ∧
          t.media.roll.lastCutRow = c.cutRow ∧
          (∀ i, findItem s u.item = some i → (s.items.live.map Item.uid).Nodup →
            ∀ k ∈ t.items.live, k.uid = i.uid → k.cutCount = i.cutCount + 1) ∧
          (∀ k ∈ s.items.live, k.uid ≠ u.item → k ∈ t.items.live) ∧
          (∀ i dispatched started, findItem s u.item = some i → i.state = .opened →
            s.cutter.dispatchedAt = some dispatched → s.cutter.startedAt = some started →
            s.cutter.bladeCount + 1 < 2 ^ 64 →
            ∃ v, v = raise (.cutDone
                { role := c.role, id := u.itemId, panel := u.panel, position := u.position } i.job c.cutRow
                (s.cutter.bladeCount + 1) (started - dispatched).toNat (s.now - started).toNat) s ∧
              t.link = (if (s.cutter.bladeCount + 1) % 10000 = 0 then
                (raise (.bladeLimit (s.cutter.bladeCount + 1)) v).link else v.link)) ∧
          (∀ i dispatched started, findItem s u.item = some i →
            s.cutter.dispatchedAt = some dispatched → s.cutter.startedAt = some started →
            s.cutter.bladeCount + 1 < 2 ^ 64 →
            ∃ v x, v = raise (.cutDone
                { role := c.role, id := u.itemId, panel := u.panel, position := u.position } i.job c.cutRow
                (s.cutter.bladeCount + 1) (started - dispatched).toNat (s.now - started).toNat)
                (s.clearOut.onItems fun m => { m with live := m.live.map fun k =>
                  if k.uid = u.item then { k with cutCount := k.cutCount + 1 } else k }) ∧
              x = (if (s.cutter.bladeCount + 1) % 10000 = 0 then raise (.bladeLimit (s.cutter.bladeCount + 1)) v
                else v) ∧ OwnerMoved u.uid x t) ∧
          OnlyChanges [.link, .items, .path, .media, .cutter, .colour, .costing] s t)

/-- DETECT_LINE_ASSERT and _RELEASE, SEATING_DEBOUNCE (log 45), REMOVAL (log 17), LEVEL_SENSE_LINE_CHANGE,
SENSED_LEVEL_CHANGE (logs 25, 26) (R98, R100, R101, R102, R107, R108, R109, R111, R116). -/
def Obligations.SlotLines : Prop :=
  ∀ (c : Chan) (x : Slot) (s : State), x = s.ink.slots[c] →
    (∀ line : DetectLine,
      (x.detect line = true → Waits (.detectLineAssert c line) s) ∧
      (x.detect line = false → Waits (.detectLineRelease c line) s) ∧
      (x.detect line = false → ∀ both, both = (setDetect line true x).d1 && (setDetect line true x).d2 →
        (x.cart = Cartridge.cleared →
          Leaves (.detectLineAssert c line) s
            (raise (.cartridge
              { slot := c, before := .absent, after := .seating, reason := none, serial := none, kind := none,
                sizeClass := none, fill := none, lot := none, estimate := none, cause := .seated, attempts := none })
              (mapSlot c (fun t => { setDetect line true t with
                bothSince := if both then some s.now else t.bothSince,
                cart := { Cartridge.cleared with state := .seating } }) s.clearOut))) ∧
        (x.cart.state ≠ .absent →
          Leaves (.detectLineAssert c line) s
            (mapSlot c (fun t => { setDetect line true t with
              bothSince := if both then some s.now else t.bothSince,
              cart := { t.cart with removal := if both then none else t.cart.removal } }) s.clearOut))) ∧
      (x.detect line = true →
        (x.cart.state = .absent →
          Leaves (.detectLineRelease c line) s
            (mapSlot c (fun t => { setDetect line false t with bothSince := none }) s.clearOut)) ∧
        (x.cart = { Cartridge.cleared with state := .seating } →
          Leaves (.detectLineRelease c line) s
            (raise (.cartridge
              { slot := c, before := .seating, after := .absent, reason := none, serial := none, kind := none,
                sizeClass := none, fill := none, lot := none, estimate := none, cause := .unseated, attempts := none })
              (mapSlot c (fun t => { setDetect line false t with
                bothSince := none, cart := Cartridge.cleared }) s.clearOut))) ∧
        (x.cart.state ≠ .absent → x.cart.state ≠ .seating →
          Leaves (.detectLineRelease c line) s
            (mapSlot c (fun t => { setDetect line false t with
              bothSince := none,
              cart := { t.cart with removal := if t.cart.removal.isSome then t.cart.removal else some s.now } })
              s.clearOut)))) ∧
    (x.bothSince = none ∨ x.cart.state ≠ .seating → Waits (.seatingDebounce c) s) ∧
    (∀ since, x.bothSince = some since → x.cart = { Cartridge.cleared with state := .seating } →
      ((s.now - (since + 250#32)).toInt < 0 → Waits (.seatingDebounce c) s) ∧
      (0 ≤ (s.now - (since + 250#32)).toInt →
        Leaves (.seatingDebounce c) s
          ((raise (.cartridge
            { slot := c, before := .seating, after := .reading, reason := none, serial := none, kind := none,
              sizeClass := none, fill := none, lot := none, estimate := none, cause := .seated, attempts := none })
            (mapSlot c (fun t => { t with cart := { Cartridge.cleared with
              state := .reading, readAttempts := 1, readSince := some s.now } }) s.clearOut)).send (.tagRead c)))) ∧
    (x.cart.removal = none ∨ (x.d1 = true ∧ x.d2 = true) → Waits (.removal c) s) ∧
    (∀ since, x.cart.removal = some since → (x.d1 && x.d2) = false → x.cart.state ≠ .absent →
      x.cart.state ≠ .seating →
      ((s.now - (since + 250#32)).toInt < 0 → Waits (.removal c) s) ∧
      (0 ≤ (s.now - (since + 250#32)).toInt → ∀ gone, gone = raise (.cartridge
            { slot := c, before := x.cart.state, after := .absent, reason := none, serial := none, kind := none,
              sizeClass := none, fill := none, lot := none, estimate := none, cause := .removed, attempts := none })
            (mapSlot c (fun t => { t with cart := Cartridge.cleared }) s.clearOut) →
        (x.cart.placed = false → Leaves (.removal c) s gone) ∧
        (∀ k e, x.cart.placed = true → x.cart.contents = some k → x.cart.estimate = some e →
          Leaves (.removal c) s (gone.onInk fun i => { i with recent :=
            ({ serial := k.serial, volume := e } :: i.recent.filter fun r => r.serial != k.serial).take 12 })))) ∧
    (∀ l1 l2 : Bool,
      (x.l1 = l1 ∧ x.l2 = l2 → Waits (.levelSenseLineChange c l1 l2) s) ∧
      (¬(x.l1 = l1 ∧ x.l2 = l2) → Leaves (.levelSenseLineChange c l1 l2) s
        (mapSlot c (fun t => { t with l1 := l1, l2 := l2, levelSince := s.now }) s.clearOut))) ∧
    (∀ level, level = (if x.l1 = false then .empty else if x.l2 = false then .low else .ok) →
      (x.sensed = level ∨ (s.now - (x.levelSince + 100#32)).toInt < 0 → Waits (.sensedLevelChange c) s) ∧
      (x.sensed ≠ level → 0 ≤ (s.now - (x.levelSince + 100#32)).toInt →
        (x.cart.supplies = false ∨ level = .ok ∨
            (level = .low ∧ ∃ e, x.cart.estimate = some e ∧ e ≤ lowMark s c) →
          Leaves (.sensedLevelChange c) s (mapSlot c (fun t => { t with sensed := level }) s.clearOut)) ∧
        (∀ (e : Nat) (body : CartState → CartState → Nat → CartCause → Notice),
          x.cart.supplies = true → x.cart.estimate = some e →
          (∀ before after estimate cause, body before after estimate cause = .cartridge
            { slot := c, before := before, after := after, reason := x.cart.reason,
              serial := x.cart.contents.map TagContents.serial, kind := x.cart.contents.map TagContents.kind,
              sizeClass := x.cart.contents.map TagContents.sizeClass, fill := x.cart.contents.map TagContents.fill,
              lot := x.cart.contents.map TagContents.lot, estimate := some estimate, cause := cause,
              attempts := none }) →
          (level = .empty → 0 < e →
            ∃ (t : State) (due : Bool), exec (.sensedLevelChange c) s = .next t ∧
              due = (decide (0 < x.cart.lastMl) && decide (x.cart.writeFailures < 3)) ∧
              t.ink.slots[c] = { x with
                sensed := .empty,
                cart := { x.cart with
                  state := .empty, estimate := some 0,
                  write := if due = true ∧ x.cart.write = none then some { value := 0, since := s.now } else x.cart.write,
                  writeDue := if due then x.cart.write.isSome else x.cart.writeDue } } ∧
              t.ink = { s.ink with slots := t.ink.slots } ∧
              (∀ d : Chan, d ≠ c → t.ink.slots[d] = s.ink.slots[d]) ∧
              t.out = (if due = true ∧ x.cart.write = none then [.tagWrite c 0] else []) ∧
              t.link = (raise (body x.cart.state .empty 0 .levelSense) (raise (.levelCorrected c e 0 .empty) s)).link ∧
              OnlyChanges [.link, .ink] (keepRunOut s) t) ∧
          (level = .low → lowMark s c < e →
            ∃ (t : State) (drawn : Nat) (a : Account) (mark : Nat) (due again : Bool), exec (.sensedLevelChange c) s = .next t ∧ mark = lowMark s c ∧
              a = s.ink.accounts[c] ∧
              drawn = (if x.cart.state = .ready then min (2000000 - a.subTank) mark else 0) ∧
              due = (decide ((mark + 999999) / 1000000 < x.cart.lastMl) && decide (x.cart.writeFailures < 3)) ∧
              again = (decide (0 < drawn) && decide ((mark - drawn + 999999) / 1000000 < x.cart.lastMl) &&
                decide (x.cart.writeFailures < 3)) ∧
              t.ink.slots[c] = { x with
                sensed := .low,
                cart := { x.cart with
                  state := if mark - drawn = 0 then .empty else .low, estimate := some (mark - drawn),
                  write := if x.cart.write ≠ none then x.cart.write
                    else if due then some { value := mark, since := s.now }
                    else if again then some { value := mark - drawn, since := s.now } else none,
                  writeDue := if x.cart.write ≠ none then x.cart.writeDue || due || again
                    else if due then again else if again then false else x.cart.writeDue } } ∧
              t.out = (if x.cart.write ≠ none then [] else if due then [.tagWrite c mark]
                else if again then [.tagWrite c (mark - drawn)] else []) ∧
              t.link = (([Notice.levelCorrected c e mark .low] ++
                (if x.cart.state = .ready ∨ mark = 0 then
                  [body x.cart.state (if mark = 0 then .empty else .low) mark .levelSense] else []) ++
                (if 0 < drawn ∧ mark - drawn = 0 then [body .low .empty 0 .drawnDown] else [])).foldl
                  (fun v n => raise n v) s).link ∧
              t.ink.accounts[c].subTank = a.subTank + drawn ∧ t.ink.accounts[c].reserved = a.reserved ∧
              t.ink.accounts[c].residue = a.residue ∧ t.ink.accounts[c].consumed = a.consumed ∧
              t.ink.accounts[c].flushed = a.flushed ∧
              (drawn = 0 → t.ink.accounts[c] = a) ∧
              t.ink = { s.ink with slots := t.ink.slots, accounts := t.ink.accounts } ∧
              (a.refilled + drawn < 2 ^ 64 → t.ink.accounts[c].refilled = a.refilled + drawn) ∧
              (∀ d : Chan, d ≠ c → t.ink.accounts[d] = s.ink.accounts[d] ∧ t.ink.slots[d] = s.ink.slots[d]) ∧
              OnlyChanges [.link, .ink] (keepRunOut s) t))))

/-- TAG_READ_ANSWER, TAG_READ_TIMEOUT, KIND_CHECK, TAG_WRITE_CONFIRM and TAG_WRITE_TIMEOUT (choices: logs 4, 24,
25, 26, 39, 44, 50) (R99, R102, R103, R104, R105, R106, R107, R108, R109, R110, R116, R93). -/
def Obligations.TagExchanges : Prop :=
  ∀ (c : Chan) (k : Cartridge) (s : State), k = s.ink.slots[c].cart →
    (k.readSince = none ∨ k.state ≠ .reading → ∀ a good, Waits (.tagReadAnswer c a good) s ∧
      Waits (.tagReadTimeout c) s) ∧
    (∀ since, k.state = .reading → k.readSince = some since →
      (100 < (s.now - since).toNat → ∀ a good, Waits (.tagReadAnswer c a good) s) ∧
      ((s.now - (since + 100#32)).toInt < 0 → Waits (.tagReadTimeout c) s) ∧
      (∀ (command : Instr),
        ((∃ a, command = .tagReadAnswer c a false ∧ (s.now - since).toNat ≤ 100) ∨
          (command = .tagReadTimeout c ∧ 0 ≤ (s.now - (since + 100#32)).toInt)) →
        (k.readAttempts < 3 →
          Leaves command s ((mapCart c (fun k =>
            { k with readAttempts := k.readAttempts + 1, readSince := some s.now }) s.clearOut).send (.tagRead c))) ∧
        (3 ≤ k.readAttempts → ∃ body, body.reason = some .tagFault ∧ body.cause = .readFailed ∧
          body.before = .reading ∧ body.after = .rejected ∧ body.attempts = some k.readAttempts ∧ body.slot = c ∧
          Leaves command s (raise (.cartridge body) (mapCart c (fun k =>
            { k with state := .rejected, reason := some .tagFault, readSince := none }) s.clearOut)))) ∧
      (∀ a : TagContents, (s.now - since).toNat ≤ 100 →
        (a.remaining.toNat ≤ a.fill.toNat →
          Leaves (.tagReadAnswer c a true) s
            (mapCart c (fun k => { k with contents := some a, readSince := none }) s.clearOut)) ∧
        (a.fill.toNat < a.remaining.toNat → ∃ body, body.reason = some .tagFault ∧ body.cause = .read ∧
          body.before = .reading ∧ body.after = .rejected ∧ body.serial = some a.serial ∧ body.slot = c ∧
          Leaves (.tagReadAnswer c a true) s (raise (.cartridge body) (mapCart c (fun k =>
            { k with state := .rejected, reason := some .tagFault, contents := some a, readSince := none })
            s.clearOut))))) ∧
    (k.contents = none ∨ k.state ≠ .reading ∨ k.readSince ≠ none ∨ s.tables.channelMap = none ∨
        s.tables.lock = some .channelMap → ∀ k1 k2, Waits (.kindCheck c k1 k2) s) ∧
    (∀ (a : TagContents) (m : Vector MapEntry 12) (k1 k2 : Bool) (cls : Nat) (fits : Prop), k.contents = some a →
      k.state = .reading → k.readSince = none → s.tables.channelMap = some m → s.tables.lock ≠ some .channelMap →
      cls = (if k1 then 1 else 0) + (if k2 then 2 else 0) →
      (fits ↔ (cls = 0 ∧ a.fill.toNat ≤ 130000000) ∨
        (cls = 1 ∧ 130000001 ≤ a.fill.toNat ∧ a.fill.toNat ≤ 350000000) ∨
        (cls = 2 ∧ 350000001 ≤ a.fill.toNat ∧ a.fill.toNat ≤ 700000000) ∨
        (cls = 3 ∧ 700000001 ≤ a.fill.toNat)) →
      (∀ why, (m[c].inkKind ≠ a.kind.toNat ∧ why = .wrongInk) ∨
          (m[c].inkKind = a.kind.toNat ∧ why = .keyMismatch ∧
            (a.sizeClass.val ≠ cls ∨ ¬fits)) →
        ∃ body, body.reason = some why ∧ body.cause = .read ∧ body.before = .reading ∧ body.after = .rejected ∧
          body.slot = c ∧
          Leaves (.kindCheck c k1 k2) s (raise (.cartridge body) (mapCart c (fun k =>
            { k with state := .rejected, reason := some why }) s.clearOut))) ∧
      (m[c].inkKind = a.kind.toNat → a.sizeClass.val = cls → fits →
        k.write = none → k.reason = none →
        ∃ (t : State) (known e drawn : Nat) (w : Option Nat) (o : Cartridge) (old : Account) (placed : CartState)
            (body : CartState → CartState → Nat → CartCause → Notice), exec (.kindCheck c k1 k2) s = .next t ∧
          (∀ before after estimate cause, body before after estimate cause = .cartridge
            { slot := c, before := before, after := after, reason := none, serial := some a.serial,
              kind := some a.kind, sizeClass := some a.sizeClass, fill := some a.fill, lot := some a.lot,
              estimate := some estimate, cause := cause, attempts := none }) ∧
          placed = (if e = 0 then .empty else if e ≤ m[c].lowMark then .low else .ready) ∧
          t.link = (([body .reading placed e .placed] ++
            (if placed = o.state then [] else [body placed o.state (e - drawn) .drawnDown])).foldl
              (fun v n => raise n v) s).link ∧
          known = (match s.ink.recent.find? fun r => r.serial == a.serial with
            | some r => min (min a.remaining.toNat r.volume) 1000000000
            | none => min a.remaining.toNat 1000000000) ∧
          e = (match s.ink.slots[c].sensed with
            | .ok => known
            | .low => min known m[c].lowMark
            | .empty => 0) ∧
          old = s.ink.accounts[c] ∧ drawn = min (2000000 - old.subTank) e ∧ o = t.ink.slots[c].cart ∧
          o.estimate = some (e - drawn) ∧
          o.state = (if e - drawn = 0 then .empty else if e - drawn ≤ m[c].lowMark then .low else .ready) ∧
          o.contents = some a ∧ o.lastMl = (a.remaining.toNat + 999999) / 1000000 ∧ o.writeFailures = 0 ∧
          w = (if (e + 999999) / 1000000 < (a.remaining.toNat + 999999) / 1000000 then some e
            else if (e - drawn + 999999) / 1000000 < (a.remaining.toNat + 999999) / 1000000 then some (e - drawn)
            else none) ∧
          o.write = w.map (fun v => { value := v, since := s.now }) ∧
          t.out = (w.map fun v => Output.tagWrite c v).toList ∧
          o = { k with
            state := o.state, estimate := o.estimate, lastMl := o.lastMl, writeFailures := 0, write := o.write,
            writeDue := if (e + 999999) / 1000000 < (a.remaining.toNat + 999999) / 1000000 then decide (0 < drawn)
              else if w.isSome then false else k.writeDue } ∧
          t.ink.slots[c] = { s.ink.slots[c] with cart := o } ∧
          t.ink.accounts[c].subTank = old.subTank + drawn ∧ t.ink.accounts[c].reserved = old.reserved ∧
          t.ink.accounts[c].residue = old.residue ∧ t.ink.accounts[c].consumed = old.consumed ∧
          t.ink.accounts[c].flushed = old.flushed ∧ (drawn = 0 → t.ink.accounts[c] = old) ∧
          (old.refilled + drawn < 2 ^ 64 → t.ink.accounts[c].refilled = old.refilled + drawn) ∧
          t.ink = { s.ink with slots := t.ink.slots, accounts := t.ink.accounts } ∧
          (∀ d : Chan, d ≠ c → t.ink.accounts[d] = s.ink.accounts[d] ∧ t.ink.slots[d] = s.ink.slots[d]) ∧
          OnlyChanges [.link, .ink] (keepRunOut s) t)) ∧
    (k.write = none → Waits (.tagWriteConfirm c) s ∧ Waits (.tagWriteTimeout c) s) ∧
    (∀ w, k.write = some w →
      (50 < (s.now - w.since).toNat → Waits (.tagWriteConfirm c) s) ∧
      ((s.now - (w.since + 50#32)).toInt < 0 → Waits (.tagWriteTimeout c) s) ∧
      (k.state = .reading →
        ((s.now - w.since).toNat ≤ 50 →
          Leaves (.tagWriteConfirm c) s ((mapCart c (fun k => { k with
            write := none, readAttempts := k.readAttempts + 1, readSince := some s.now }) s.clearOut).send
              (.tagRead c))) ∧
        (0 ≤ (s.now - (w.since + 50#32)).toInt →
          Leaves (.tagWriteTimeout c) s ((mapCart c (fun k => { k with
            write := none, readAttempts := k.readAttempts + 1, readSince := some s.now }) s.clearOut).send
              (.tagRead c)))) ∧
      (∀ e, k.state ≠ .reading → k.estimate = some e →
        ((s.now - w.since).toNat ≤ 50 →
          Leaves (.tagWriteConfirm c) s
            (if (e + 999999) / 1000000 < (w.value + 999999) / 1000000 then
              (mapCart c (fun k => { k with
                write := some { value := e, since := s.now }, writeDue := false,
                lastMl := (w.value + 999999) / 1000000, writeFailures := 0 }) s.clearOut).send (.tagWrite c e)
            else mapCart c (fun k => { k with
              write := none, writeDue := false, lastMl := (w.value + 999999) / 1000000, writeFailures := 0 })
              s.clearOut)) ∧
        (0 ≤ (s.now - (w.since + 50#32)).toInt →
          (k.writeFailures = 2 →
            Leaves (.tagWriteTimeout c) s (raise (.tagWriteFailed c) (mapCart c (fun k => { k with
              write := none, writeDue := false, writeFailures := 3 }) s.clearOut))) ∧
          (k.writeFailures < 2 →
            Leaves (.tagWriteTimeout c) s
              (if (e + 999999) / 1000000 < k.lastMl then
                (mapCart c (fun k => { k with
                  write := some { value := e, since := s.now }, writeDue := false,
                  writeFailures := k.writeFailures + 1 }) s.clearOut).send (.tagWrite c e)
              else mapCart c (fun k => { k with
                write := none, writeDue := false, writeFailures := k.writeFailures + 1 }) s.clearOut)))))

/-- SENSOR_VERIFY of each code, VERIFY_CLEAR and EDITION_RESET (R161, R166, R167, R171, R10). -/
def Obligations.ColourRecords : Prop :=
  ∀ (tag : Byte) (s : State), actsAtOnce s = true →
    (∀ (command : List Byte → Instr) (code : Nat) (first : Part),
      (command = Instr.sensorVerifyWhite tag ∧ code = 2 ∧ first = .white) ∨
        (command = Instr.sensorVerifyDark tag ∧ code = 3 ∧ first = .dark) ∨
        (command = Instr.sensorVerifyLamp tag ∧ code = 4 ∧ first = .lamp) ∨
        (command = Instr.sensorVerifyFull tag ∧ code = 5 ∧ first = .dark) →
      (∀ rest, rest ≠ [] →
        Refuses (command rest) s .sensorVerify tag (BitVec.ofNat 8 code :: rest)) ∧
      (s.colour.verify.busy = true → Replies (command []) s tag .busy .empty s.clearOut) ∧
      (s.colour.verify.busy = false →
        Replies (command []) s tag .ok .empty (s.clearOut.onColour fun k => { k with verify := { k.verify with
          busy := true, test := some { code := code, current := first, outcomes := [] },
          pending := some first } }))) ∧
    (∀ body, body ≠ [] → Refuses (.verifyClear tag body) s .verifyClear tag body) ∧
    (s.colour.verify.busy = true → Replies (.verifyClear tag []) s tag .busy .empty s.clearOut) ∧
    (s.colour.verify.busy = false →
      Replies (.verifyClear tag []) s tag .ok .empty
        (raise (.verifyCleared s.colour.verify.result)
          (s.clearOut.onColour fun k => { k with verify := { k.verify with result := 0 } }))) ∧
    (∀ body, numberBody body = none → Refuses (.editionReset tag body) s .editionReset tag body) ∧
    (∀ body n, numberBody body = some n →
      ((∀ e ∈ s.colour.editions, e.number ≠ n) →
        Replies (.editionReset tag body) s tag .unknownRef .empty s.clearOut) ∧
      ((∃ e ∈ s.colour.editions, e.number = n) →
        Replies (.editionReset tag body) s tag .ok .empty (s.clearOut.onColour fun k => { k with
          editions := k.editions.map fun e => if e.number = n then
            { e with layout := none, values := Vector.replicate 24 (Vector.replicate 4 none) } else e })))

/-- ITEM_PRICING and JOB_PRICING: the cost record, its figures, and what follows (R2, R42, R45, R52, R162, R173,
R174, R175, R176, R177, R178, R179). -/
def Obligations.Pricing : Prop :=
  (∀ s : State, s.costing.queue = [] ∨ s.tables.price = none ∨ s.tables.lock = some .price → Waits .itemPricing s) ∧
  (∀ s : State, s.costing.jobQueue = [] ∨ s.costing.queue ≠ [] ∨ s.tables.price = none ∨
    s.tables.lock = some .price → Waits .jobPricing s) ∧
  (∀ (i : Item) (p : Price) (rest : List Nat) (m2 : Nat) (s : State), s.costing.queue = i.uid :: rest →
    findItem s i.uid = some i → (s.items.live.map Item.uid).Nodup → i.uid ∉ rest → s.tables.price = some p →
    s.tables.lock ≠ some .price → (∃ kind : Fin 8, i.noteKind = kind.val ∧ m2 = p.perM2[kind]) →
    ∃ (t : State) (r : CostRecord), exec .itemPricing s = .next t ∧
      r.number = s.costing.nextRecord ∧ r.job = i.job ∧ r.itemId = i.id ∧ r.edition = i.edition ∧
      r.fate = i.fate ∧ r.print = i.print ∧ r.panelCount = i.panels.length ∧
      r.priceVersion = s.tables.priceVersion ∧ r.imageRows = i.imageRows ∧ r.checkRows = i.checkRows ∧
      r.gutterRows = i.gutterRows ∧ r.leadRows = i.leadRows ∧
      (∀ q ∈ i.panels, q.verdict.rank ≤ r.worst.rank) ∧
      (r.worst = .none ∨ ∃ q ∈ i.panels, q.verdict = r.worst) ∧
      (∀ c : Chan, HalfUp (i.imageDpl[c] * p.perMl[c]) 10000000000 r.imageInk[c]) ∧
      HalfUp ((List.finRange 12).map fun c => i.checkDpl[c] * p.perMl[c]).sum 10000000000 r.checkInk ∧
      HalfUp ((List.finRange 12).map fun c => i.flushNl[c] * p.perMl[c]).sum 1000000 r.flush ∧
      HalfUp (i.noteWidth * i.imageRows * 254 * m2) 12000000000 r.imageMedia ∧
      HalfUp (i.noteWidth * i.checkRows * 254 * m2) 12000000000 r.checkMedia ∧
      HalfUp (i.noteWidth * (i.gutterRows + i.leadRows) * 254 * m2) 12000000000 r.wasteMedia ∧
      r.cuts = i.cutCount * p.cutCharge ∧
      r.total = r.imageInk.toList.sum + r.checkInk + r.flush + r.imageMedia + r.checkMedia + r.wasteMedia + r.cuts ∧
      t.link = (raise (.costRecord r) s).link ∧
      t.costing.queue = rest ∧
      t.costing.log = (if 64 ≤ s.costing.log.length then s.costing.log.tail else s.costing.log) ++ [r] ∧
      t.costing.nextRecord = (if s.costing.nextRecord = 4294967295 then 1 else s.costing.nextRecord + 1) ∧
      t.items.live = (s.items.live.filter fun k => k.uid != i.uid) ∧
      t.media.roll = { s.media.roll with reserved := s.media.roll.reserved - i.reservation } ∧
      (∀ before j after, s.items.jobs = before ++ j :: after → j.number = i.job →
        (∀ k ∈ before ++ after, k.number ≠ i.job) → j.itemsClosed + 1 < 2 ^ 32 → j.total + r.total < 2 ^ 64 →
        ∃ j', t.items.jobs = before ++ j' :: after ∧ j'.itemsClosed = j.itemsClosed + 1 ∧
          j'.total = j.total + r.total ∧ j'.flush = j.flush ∧ j'.fate = j.fate ∧ j'.number = j.number ∧
          (j.state = .closing → (∀ k ∈ s.items.live, k.uid ≠ i.uid → k.job ≠ i.job) →
            j'.state = .done ∧ t.costing.jobQueue = s.costing.jobQueue ++ [i.job]) ∧
          (j.state ≠ .closing ∨ (∃ k ∈ s.items.live, k.uid ≠ i.uid ∧ k.job = i.job) →
            j'.state = j.state ∧ t.costing.jobQueue = s.costing.jobQueue)) ∧
      (i.edition = none ∨ i.fate = .aborted → t.colour = s.colour) ∧
      (∀ n, i.edition = some n → i.fate = .complete →
        (∀ e ∈ s.colour.editions, e.number = n → e.printsClosed + 1 < 2 ^ 32) →
        t.colour = { s.colour with editions := s.colour.editions.map fun e =>
          if e.number = n then { e with printsClosed := e.printsClosed + 1 } else e }) ∧
      OnlyChanges [.link, .items, .media, .colour, .costing] s t) ∧
  (∀ (j : Job) (p : Price) (rest : List Nat) (charge : Nat) (s : State), s.costing.queue = [] →
    s.costing.jobQueue = j.number :: rest → j.number ∉ rest → findJob s j.number = some j →
    s.tables.price = some p → s.tables.lock ≠ some .price →
    HalfUp ((List.finRange 12).map fun c => j.flush[c] * p.perMl[c]).sum 1000000 charge →
    j.total + charge < 2 ^ 64 →
    Leaves .jobPricing s
      ((raise (.jobClosed { number := j.number, fate := j.fate, itemsClosed := j.itemsClosed,
                            total := j.total + charge, charge := charge, flush := j.flush })
        (s.clearOut.onCosting fun k => { k with jobQueue := rest })).onItems fun m =>
          { m with jobs := m.jobs.filter fun k => k.number != j.number }))

/-- COST_DUMP, COUNTER_DUMP_READ and COUNTER_DUMP_CLEAR (R180, R181, R10, R94, R132, R143). -/
def Obligations.Dumps : Prop :=
  ∀ (tag : Byte) (s : State), actsAtOnce s = true →
    (∀ body, ¬(body.length = 8 ∧ (∀ k, 5 ≤ k → k < 8 → u8 body k = 0) ∧ u32 body 0 ≠ 0 ∧
        1 ≤ u8 body 4 ∧ u8 body 4 ≤ 8) →
      Refuses (.costDump tag body) s .costDump tag body) ∧
    (∀ (body : List Byte) (numbers : List Nat) (held : List CostRecord), body.length = 8 →
      (∀ k, 5 ≤ k → k < 8 → u8 body k = 0) →
      u32 body 0 ≠ 0 → 1 ≤ u8 body 4 → u8 body 4 ≤ 8 →
      numbers = (List.range (u8 body 4)).map (fun k => (u32 body 0 - 1 + k) % 4294967295 + 1) →
      held = numbers.filterMap (fun n => s.costing.log.find? fun r => r.number == n) →
      ((∀ n ∈ numbers, ∃ r ∈ s.costing.log, r.number = n) →
        Replies (.costDump tag body) s tag .ok .empty (held.foldl (fun u r => raise (.costDump r) u) s.clearOut)) ∧
      ((∃ n ∈ numbers, ∀ r ∈ s.costing.log, r.number ≠ n) →
        Replies (.costDump tag body) s tag .notHeld .empty
          (held.foldl (fun u r => raise (.costDump r) u) s.clearOut))) ∧
    (∀ rest, rest ≠ [] →
      Refuses (.counterDumpRead tag rest) s .counterDump tag (0#8 :: rest) ∧
      Refuses (.counterDumpClear tag rest) s .counterDump tag (1#8 :: rest)) ∧
    ∃ b : CounterBody,
      (∀ c : Chan, b.channels[c] =
        (s.ink.accounts[c].consumed, s.ink.accounts[c].flushed, s.ink.accounts[c].refilled)) ∧
      b.rowsFed = s.media.lifetimeRows ∧ b.cuts = s.cutter.bladeCount ∧
      Replies (.counterDumpRead tag []) s tag .ok (.counters b) s.clearOut ∧
      Replies (.counterDumpClear tag []) s tag .ok (.counters b)
        (((s.clearOut.onInk fun k => { k with accounts := k.accounts.map fun a =>
          { a with consumed := 0, flushed := 0, refilled := 0 } }).onMedia fun m =>
            { m with lifetimeRows := 0 }).onCutter fun k => { k with bladeCount := 0 })
end

