-- ==== Sys2Proof/Laws/State.lean ====
section
/-! SUPPORT. One lemma per field per update of State: what `onLink` … `onCosting`, `send` and `clearOut` leave. -/

namespace Sys2Proof.Machine

variable (s : State)

@[simp] theorem State.onLink_now (f : Link → Link) : (s.onLink f).now = s.now := rfl
@[simp] theorem State.onLink_pending (f : Link → Link) : (s.onLink f).pending = s.pending := rfl
@[simp] theorem State.onLink_out (f : Link → Link) : (s.onLink f).out = s.out := rfl
@[simp] theorem State.onLink_link (f : Link → Link) : (s.onLink f).link = f s.link := rfl
@[simp] theorem State.onLink_tables (f : Link → Link) : (s.onLink f).tables = s.tables := rfl
@[simp] theorem State.onLink_items (f : Link → Link) : (s.onLink f).items = s.items := rfl
@[simp] theorem State.onLink_path (f : Link → Link) : (s.onLink f).path = s.path := rfl
@[simp] theorem State.onLink_ink (f : Link → Link) : (s.onLink f).ink = s.ink := rfl
@[simp] theorem State.onLink_media (f : Link → Link) : (s.onLink f).media = s.media := rfl
@[simp] theorem State.onLink_cutter (f : Link → Link) : (s.onLink f).cutter = s.cutter := rfl
@[simp] theorem State.onLink_colour (f : Link → Link) : (s.onLink f).colour = s.colour := rfl
@[simp] theorem State.onLink_costing (f : Link → Link) : (s.onLink f).costing = s.costing := rfl

@[simp] theorem State.onTables_now (f : TableStore → TableStore) : (s.onTables f).now = s.now := rfl
@[simp] theorem State.onTables_pending (f : TableStore → TableStore) : (s.onTables f).pending = s.pending := rfl
@[simp] theorem State.onTables_out (f : TableStore → TableStore) : (s.onTables f).out = s.out := rfl
@[simp] theorem State.onTables_link (f : TableStore → TableStore) : (s.onTables f).link = s.link := rfl
@[simp] theorem State.onTables_tables (f : TableStore → TableStore) : (s.onTables f).tables = f s.tables := rfl
@[simp] theorem State.onTables_items (f : TableStore → TableStore) : (s.onTables f).items = s.items := rfl
@[simp] theorem State.onTables_path (f : TableStore → TableStore) : (s.onTables f).path = s.path := rfl
@[simp] theorem State.onTables_ink (f : TableStore → TableStore) : (s.onTables f).ink = s.ink := rfl
@[simp] theorem State.onTables_media (f : TableStore → TableStore) : (s.onTables f).media = s.media := rfl
@[simp] theorem State.onTables_cutter (f : TableStore → TableStore) : (s.onTables f).cutter = s.cutter := rfl
@[simp] theorem State.onTables_colour (f : TableStore → TableStore) : (s.onTables f).colour = s.colour := rfl
@[simp] theorem State.onTables_costing (f : TableStore → TableStore) : (s.onTables f).costing = s.costing := rfl

@[simp] theorem State.onItems_now (f : ItemManager → ItemManager) : (s.onItems f).now = s.now := rfl
@[simp] theorem State.onItems_pending (f : ItemManager → ItemManager) : (s.onItems f).pending = s.pending := rfl
@[simp] theorem State.onItems_out (f : ItemManager → ItemManager) : (s.onItems f).out = s.out := rfl
@[simp] theorem State.onItems_link (f : ItemManager → ItemManager) : (s.onItems f).link = s.link := rfl
@[simp] theorem State.onItems_tables (f : ItemManager → ItemManager) : (s.onItems f).tables = s.tables := rfl
@[simp] theorem State.onItems_items (f : ItemManager → ItemManager) : (s.onItems f).items = f s.items := rfl
@[simp] theorem State.onItems_path (f : ItemManager → ItemManager) : (s.onItems f).path = s.path := rfl
@[simp] theorem State.onItems_ink (f : ItemManager → ItemManager) : (s.onItems f).ink = s.ink := rfl
@[simp] theorem State.onItems_media (f : ItemManager → ItemManager) : (s.onItems f).media = s.media := rfl
@[simp] theorem State.onItems_cutter (f : ItemManager → ItemManager) : (s.onItems f).cutter = s.cutter := rfl
@[simp] theorem State.onItems_colour (f : ItemManager → ItemManager) : (s.onItems f).colour = s.colour := rfl
@[simp] theorem State.onItems_costing (f : ItemManager → ItemManager) : (s.onItems f).costing = s.costing := rfl

@[simp] theorem State.onPath_now (f : BandPath → BandPath) : (s.onPath f).now = s.now := rfl
@[simp] theorem State.onPath_pending (f : BandPath → BandPath) : (s.onPath f).pending = s.pending := rfl
@[simp] theorem State.onPath_out (f : BandPath → BandPath) : (s.onPath f).out = s.out := rfl
@[simp] theorem State.onPath_link (f : BandPath → BandPath) : (s.onPath f).link = s.link := rfl
@[simp] theorem State.onPath_tables (f : BandPath → BandPath) : (s.onPath f).tables = s.tables := rfl
@[simp] theorem State.onPath_items (f : BandPath → BandPath) : (s.onPath f).items = s.items := rfl
@[simp] theorem State.onPath_path (f : BandPath → BandPath) : (s.onPath f).path = f s.path := rfl
@[simp] theorem State.onPath_ink (f : BandPath → BandPath) : (s.onPath f).ink = s.ink := rfl
@[simp] theorem State.onPath_media (f : BandPath → BandPath) : (s.onPath f).media = s.media := rfl
@[simp] theorem State.onPath_cutter (f : BandPath → BandPath) : (s.onPath f).cutter = s.cutter := rfl
@[simp] theorem State.onPath_colour (f : BandPath → BandPath) : (s.onPath f).colour = s.colour := rfl
@[simp] theorem State.onPath_costing (f : BandPath → BandPath) : (s.onPath f).costing = s.costing := rfl

@[simp] theorem State.onInk_now (f : InkStation → InkStation) : (s.onInk f).now = s.now := rfl
@[simp] theorem State.onInk_pending (f : InkStation → InkStation) : (s.onInk f).pending = s.pending := rfl
@[simp] theorem State.onInk_out (f : InkStation → InkStation) : (s.onInk f).out = s.out := rfl
@[simp] theorem State.onInk_link (f : InkStation → InkStation) : (s.onInk f).link = s.link := rfl
@[simp] theorem State.onInk_tables (f : InkStation → InkStation) : (s.onInk f).tables = s.tables := rfl
@[simp] theorem State.onInk_items (f : InkStation → InkStation) : (s.onInk f).items = s.items := rfl
@[simp] theorem State.onInk_path (f : InkStation → InkStation) : (s.onInk f).path = s.path := rfl
@[simp] theorem State.onInk_ink (f : InkStation → InkStation) : (s.onInk f).ink = f s.ink := rfl
@[simp] theorem State.onInk_media (f : InkStation → InkStation) : (s.onInk f).media = s.media := rfl
@[simp] theorem State.onInk_cutter (f : InkStation → InkStation) : (s.onInk f).cutter = s.cutter := rfl
@[simp] theorem State.onInk_colour (f : InkStation → InkStation) : (s.onInk f).colour = s.colour := rfl
@[simp] theorem State.onInk_costing (f : InkStation → InkStation) : (s.onInk f).costing = s.costing := rfl

@[simp] theorem State.onMedia_now (f : Media → Media) : (s.onMedia f).now = s.now := rfl
@[simp] theorem State.onMedia_pending (f : Media → Media) : (s.onMedia f).pending = s.pending := rfl
@[simp] theorem State.onMedia_out (f : Media → Media) : (s.onMedia f).out = s.out := rfl
@[simp] theorem State.onMedia_link (f : Media → Media) : (s.onMedia f).link = s.link := rfl
@[simp] theorem State.onMedia_tables (f : Media → Media) : (s.onMedia f).tables = s.tables := rfl
@[simp] theorem State.onMedia_items (f : Media → Media) : (s.onMedia f).items = s.items := rfl
@[simp] theorem State.onMedia_path (f : Media → Media) : (s.onMedia f).path = s.path := rfl
@[simp] theorem State.onMedia_ink (f : Media → Media) : (s.onMedia f).ink = s.ink := rfl
@[simp] theorem State.onMedia_media (f : Media → Media) : (s.onMedia f).media = f s.media := rfl
@[simp] theorem State.onMedia_cutter (f : Media → Media) : (s.onMedia f).cutter = s.cutter := rfl
@[simp] theorem State.onMedia_colour (f : Media → Media) : (s.onMedia f).colour = s.colour := rfl
@[simp] theorem State.onMedia_costing (f : Media → Media) : (s.onMedia f).costing = s.costing := rfl

@[simp] theorem State.onCutter_now (f : Cutter → Cutter) : (s.onCutter f).now = s.now := rfl
@[simp] theorem State.onCutter_pending (f : Cutter → Cutter) : (s.onCutter f).pending = s.pending := rfl
@[simp] theorem State.onCutter_out (f : Cutter → Cutter) : (s.onCutter f).out = s.out := rfl
@[simp] theorem State.onCutter_link (f : Cutter → Cutter) : (s.onCutter f).link = s.link := rfl
@[simp] theorem State.onCutter_tables (f : Cutter → Cutter) : (s.onCutter f).tables = s.tables := rfl
@[simp] theorem State.onCutter_items (f : Cutter → Cutter) : (s.onCutter f).items = s.items := rfl
@[simp] theorem State.onCutter_path (f : Cutter → Cutter) : (s.onCutter f).path = s.path := rfl
@[simp] theorem State.onCutter_ink (f : Cutter → Cutter) : (s.onCutter f).ink = s.ink := rfl
@[simp] theorem State.onCutter_media (f : Cutter → Cutter) : (s.onCutter f).media = s.media := rfl
@[simp] theorem State.onCutter_cutter (f : Cutter → Cutter) : (s.onCutter f).cutter = f s.cutter := rfl
@[simp] theorem State.onCutter_colour (f : Cutter → Cutter) : (s.onCutter f).colour = s.colour := rfl
@[simp] theorem State.onCutter_costing (f : Cutter → Cutter) : (s.onCutter f).costing = s.costing := rfl

@[simp] theorem State.onColour_now (f : Colour → Colour) : (s.onColour f).now = s.now := rfl
@[simp] theorem State.onColour_pending (f : Colour → Colour) : (s.onColour f).pending = s.pending := rfl
@[simp] theorem State.onColour_out (f : Colour → Colour) : (s.onColour f).out = s.out := rfl
@[simp] theorem State.onColour_link (f : Colour → Colour) : (s.onColour f).link = s.link := rfl
@[simp] theorem State.onColour_tables (f : Colour → Colour) : (s.onColour f).tables = s.tables := rfl
@[simp] theorem State.onColour_items (f : Colour → Colour) : (s.onColour f).items = s.items := rfl
@[simp] theorem State.onColour_path (f : Colour → Colour) : (s.onColour f).path = s.path := rfl
@[simp] theorem State.onColour_ink (f : Colour → Colour) : (s.onColour f).ink = s.ink := rfl
@[simp] theorem State.onColour_media (f : Colour → Colour) : (s.onColour f).media = s.media := rfl
@[simp] theorem State.onColour_cutter (f : Colour → Colour) : (s.onColour f).cutter = s.cutter := rfl
@[simp] theorem State.onColour_colour (f : Colour → Colour) : (s.onColour f).colour = f s.colour := rfl
@[simp] theorem State.onColour_costing (f : Colour → Colour) : (s.onColour f).costing = s.costing := rfl

@[simp] theorem State.onCosting_now (f : Costing → Costing) : (s.onCosting f).now = s.now := rfl
@[simp] theorem State.onCosting_pending (f : Costing → Costing) : (s.onCosting f).pending = s.pending := rfl
@[simp] theorem State.onCosting_out (f : Costing → Costing) : (s.onCosting f).out = s.out := rfl
@[simp] theorem State.onCosting_link (f : Costing → Costing) : (s.onCosting f).link = s.link := rfl
@[simp] theorem State.onCosting_tables (f : Costing → Costing) : (s.onCosting f).tables = s.tables := rfl
@[simp] theorem State.onCosting_items (f : Costing → Costing) : (s.onCosting f).items = s.items := rfl
@[simp] theorem State.onCosting_path (f : Costing → Costing) : (s.onCosting f).path = s.path := rfl
@[simp] theorem State.onCosting_ink (f : Costing → Costing) : (s.onCosting f).ink = s.ink := rfl
@[simp] theorem State.onCosting_media (f : Costing → Costing) : (s.onCosting f).media = s.media := rfl
@[simp] theorem State.onCosting_cutter (f : Costing → Costing) : (s.onCosting f).cutter = s.cutter := rfl
@[simp] theorem State.onCosting_colour (f : Costing → Costing) : (s.onCosting f).colour = s.colour := rfl
@[simp] theorem State.onCosting_costing (f : Costing → Costing) : (s.onCosting f).costing = f s.costing := rfl

@[simp] theorem State.send_now (o : Output) : (s.send o).now = s.now := rfl
@[simp] theorem State.send_pending (o : Output) : (s.send o).pending = s.pending := rfl
@[simp] theorem State.send_out (o : Output) : (s.send o).out = s.out ++ [o] := rfl
@[simp] theorem State.send_link (o : Output) : (s.send o).link = s.link := rfl
@[simp] theorem State.send_tables (o : Output) : (s.send o).tables = s.tables := rfl
@[simp] theorem State.send_items (o : Output) : (s.send o).items = s.items := rfl
@[simp] theorem State.send_path (o : Output) : (s.send o).path = s.path := rfl
@[simp] theorem State.send_ink (o : Output) : (s.send o).ink = s.ink := rfl
@[simp] theorem State.send_media (o : Output) : (s.send o).media = s.media := rfl
@[simp] theorem State.send_cutter (o : Output) : (s.send o).cutter = s.cutter := rfl
@[simp] theorem State.send_colour (o : Output) : (s.send o).colour = s.colour := rfl
@[simp] theorem State.send_costing (o : Output) : (s.send o).costing = s.costing := rfl

@[simp] theorem State.clearOut_now : s.clearOut.now = s.now := rfl
@[simp] theorem State.clearOut_pending : s.clearOut.pending = s.pending := rfl
@[simp] theorem State.clearOut_out : s.clearOut.out = [] := rfl
@[simp] theorem State.clearOut_link : s.clearOut.link = s.link := rfl
@[simp] theorem State.clearOut_tables : s.clearOut.tables = s.tables := rfl
@[simp] theorem State.clearOut_items : s.clearOut.items = s.items := rfl
@[simp] theorem State.clearOut_path : s.clearOut.path = s.path := rfl
@[simp] theorem State.clearOut_ink : s.clearOut.ink = s.ink := rfl
@[simp] theorem State.clearOut_media : s.clearOut.media = s.media := rfl
@[simp] theorem State.clearOut_cutter : s.clearOut.cutter = s.cutter := rfl
@[simp] theorem State.clearOut_colour : s.clearOut.colour = s.colour := rfl
@[simp] theorem State.clearOut_costing : s.clearOut.costing = s.costing := rfl

end Sys2Proof.Machine
end

