-- ==== Sys2Proof/Laws/Frames.lean ====
section
/-! SUPPORT. What each shared operation leaves unchanged: one lemma per operation, its conjuncts the blocks it
cannot change; for those that raise notices, the hold and the number of replies as well; for those that change
the colour check unit, the calibration record. At the end, what holds a slot's band place and which calibration
serves. -/

namespace Sys2Proof.Machine

/-- Taking the oldest notice of a level away removes no reply. -/
theorem countP_dropOldest (level : Nat) (ret : List Entry) :
    (dropOldest level ret).countP Entry.isReply = ret.countP Entry.isReply := by
  induction ret with
  | nil => rfl
  | cons e l ih =>
    unfold dropOldest at ih ⊢
    by_cases h : (!e.isReply && e.level == level) = true
    · have hr : e.isReply = false := by revert h; cases e.isReply <;> simp
      simp only [List.eraseP_cons, h, cond_true]
      simp [hr]
    · simp only [List.eraseP_cons, Bool.not_eq_true] at h ⊢
      simp [h, List.countP_cons, ih]

/-- R13: queueing a notice leaves the replies. -/
theorem queueNotice_replies (e : Entry) (l : Link) (h : e.isReply = false) :
    (queueNotice e l).ret.countP Entry.isReply = l.ret.countP Entry.isReply := by
  unfold queueNotice
  (repeat' split) <;> simp [countP_dropOldest, h]

/-- R13: queueing a notice leaves the hold. -/
theorem queueNotice_hold (e : Entry) (l : Link) : (queueNotice e l).hold = l.hold := by
  unfold queueNotice
  (repeat' split) <;> rfl

@[simp] theorem keepRunOut_frame (s : State) :
    (keepRunOut s).now = s.now ∧
    (keepRunOut s).pending = s.pending ∧
    (keepRunOut s).out = s.out ∧
    (keepRunOut s).link = s.link ∧
    (keepRunOut s).tables = s.tables ∧
    (keepRunOut s).items = s.items ∧
    (keepRunOut s).path = s.path ∧
    (keepRunOut s).ink = s.ink ∧
    (keepRunOut s).cutter = s.cutter ∧
    (keepRunOut s).colour = s.colour ∧
    (keepRunOut s).costing = s.costing := by
  unfold keepRunOut
  split <;> simp

/-- R129: looking at the run-out wait changes none of its conditions. -/
@[simp] theorem runOutReady_keepRunOut (s : State) : runOutReady (keepRunOut s) = runOutReady s := by
  unfold keepRunOut
  split <;> rfl

/-- R129: once it has been looked at, a run-out wait runs only while its conditions hold. -/
theorem runOutReady_of_keepRunOut (s : State) (h : (keepRunOut s).media.runOut.isSome = true) :
    runOutReady (keepRunOut s) = true := by
  rw [runOutReady_keepRunOut]
  unfold keepRunOut at h
  split at h <;> simp_all

/-- R129: where the conditions of a running run-out wait hold, the look changes nothing. -/
theorem keepRunOut_of_ready (s : State) (h : s.media.runOut.isSome = true → runOutReady s = true) :
    keepRunOut s = s := by
  rw [keepRunOut, if_neg]
  rintro ⟨h1, h2⟩
  simp [h h1] at h2

/-- R129: what the look leaves of the media rests on the media, the band path and the sections alone. -/
theorem keepRunOut_media_congr {s u : State} (hm : u.media = s.media) (hp : u.path = s.path)
    (ht : u.tables = s.tables) : (keepRunOut u).media = (keepRunOut s).media := by
  have h : runOutReady u = runOutReady s := by simp [runOutReady, hm, hp, ht]
  unfold keepRunOut
  rw [h, hm]
  split <;> simp [hm]

/-- R129: a second look finds nothing to do. -/
@[simp] theorem keepRunOut_keepRunOut (s : State) : keepRunOut (keepRunOut s) = keepRunOut s :=
  keepRunOut_of_ready _ (runOutReady_of_keepRunOut s)

@[simp] theorem raise_frame (n : Notice) (s : State) :
    (raise n s).now = s.now ∧
    (raise n s).pending = s.pending ∧
    (raise n s).out = s.out ∧
    (raise n s).tables = s.tables ∧
    (raise n s).items = s.items ∧
    (raise n s).path = s.path ∧
    (raise n s).ink = s.ink ∧
    (raise n s).media = s.media ∧
    (raise n s).cutter = s.cutter ∧
    (raise n s).colour = s.colour ∧
    (raise n s).costing = s.costing ∧
    (raise n s).link.hold = s.link.hold ∧
    (raise n s).link.ret.countP Entry.isReply = s.link.ret.countP Entry.isReply := by
  unfold raise
  dsimp only
  split
  · simp
  · have h := queueNotice_replies { level := classLevel s n.cls, tag := 0#8, time := s.now, payload := .notice n } s.link rfl
    simp [h, queueNotice_hold]

@[simp] theorem capture_frame (w : List Byte) (n : Nat) (m : Bool) (s : State) :
    (capture w n m s).now = s.now ∧
    (capture w n m s).pending = s.pending ∧
    (capture w n m s).out = s.out ∧
    (capture w n m s).tables = s.tables ∧
    (capture w n m s).items = s.items ∧
    (capture w n m s).path = s.path ∧
    (capture w n m s).ink = s.ink ∧
    (capture w n m s).media = s.media ∧
    (capture w n m s).cutter = s.cutter ∧
    (capture w n m s).colour = s.colour ∧
    (capture w n m s).costing = s.costing ∧
    (capture w n m s).link.hold = s.link.hold ∧
    (capture w n m s).link.ret.countP Entry.isReply = s.link.ret.countP Entry.isReply := by
  unfold capture
  (repeat' split) <;> simp

@[simp] theorem captureRest_frame (w : List Byte) (s : State) :
    (captureRest w s).now = s.now ∧
    (captureRest w s).pending = s.pending ∧
    (captureRest w s).out = s.out ∧
    (captureRest w s).tables = s.tables ∧
    (captureRest w s).items = s.items ∧
    (captureRest w s).path = s.path ∧
    (captureRest w s).ink = s.ink ∧
    (captureRest w s).media = s.media ∧
    (captureRest w s).cutter = s.cutter ∧
    (captureRest w s).colour = s.colour ∧
    (captureRest w s).costing = s.costing ∧
    (captureRest w s).link.hold = s.link.hold ∧
    (captureRest w s).link.ret.countP Entry.isReply = s.link.ret.countP Entry.isReply := by
  unfold captureRest
  (repeat' split) <;> simp

@[simp] theorem captureIf_frame (st : Status) (w : List Byte) (n : Nat) (s : State) :
    (captureIf st w n s).now = s.now ∧
    (captureIf st w n s).pending = s.pending ∧
    (captureIf st w n s).out = s.out ∧
    (captureIf st w n s).tables = s.tables ∧
    (captureIf st w n s).items = s.items ∧
    (captureIf st w n s).path = s.path ∧
    (captureIf st w n s).ink = s.ink ∧
    (captureIf st w n s).media = s.media ∧
    (captureIf st w n s).cutter = s.cutter ∧
    (captureIf st w n s).colour = s.colour ∧
    (captureIf st w n s).costing = s.costing ∧
    (captureIf st w n s).link.hold = s.link.hold ∧
    (captureIf st w n s).link.ret.countP Entry.isReply = s.link.ret.countP Entry.isReply := by
  unfold captureIf
  (repeat' split) <;> simp

@[simp] theorem mapItem_frame (u : Nat) (f : Item → Item) (s : State) :
    (mapItem u f s).now = s.now ∧
    (mapItem u f s).pending = s.pending ∧
    (mapItem u f s).out = s.out ∧
    (mapItem u f s).link = s.link ∧
    (mapItem u f s).tables = s.tables ∧
    (mapItem u f s).path = s.path ∧
    (mapItem u f s).ink = s.ink ∧
    (mapItem u f s).media = s.media ∧
    (mapItem u f s).cutter = s.cutter ∧
    (mapItem u f s).colour = s.colour ∧
    (mapItem u f s).costing = s.costing := by
  unfold mapItem
  simp

@[simp] theorem mapJob_frame (n : Nat) (f : Job → Job) (s : State) :
    (mapJob n f s).now = s.now ∧
    (mapJob n f s).pending = s.pending ∧
    (mapJob n f s).out = s.out ∧
    (mapJob n f s).link = s.link ∧
    (mapJob n f s).tables = s.tables ∧
    (mapJob n f s).path = s.path ∧
    (mapJob n f s).ink = s.ink ∧
    (mapJob n f s).media = s.media ∧
    (mapJob n f s).cutter = s.cutter ∧
    (mapJob n f s).colour = s.colour ∧
    (mapJob n f s).costing = s.costing := by
  unfold mapJob
  simp

@[simp] theorem mapBand_frame (n : Nat) (f : Band → Band) (s : State) :
    (mapBand n f s).now = s.now ∧
    (mapBand n f s).pending = s.pending ∧
    (mapBand n f s).out = s.out ∧
    (mapBand n f s).link = s.link ∧
    (mapBand n f s).tables = s.tables ∧
    (mapBand n f s).items = s.items ∧
    (mapBand n f s).ink = s.ink ∧
    (mapBand n f s).media = s.media ∧
    (mapBand n f s).cutter = s.cutter ∧
    (mapBand n f s).colour = s.colour ∧
    (mapBand n f s).costing = s.costing := by
  unfold mapBand
  simp

@[simp] theorem movePlan_frame (d : Int) (s : State) :
    (movePlan d s).now = s.now ∧
    (movePlan d s).pending = s.pending ∧
    (movePlan d s).out = s.out ∧
    (movePlan d s).link = s.link ∧
    (movePlan d s).tables = s.tables ∧
    (movePlan d s).path = s.path ∧
    (movePlan d s).ink = s.ink ∧
    (movePlan d s).media = s.media ∧
    (movePlan d s).cutter = s.cutter ∧
    (movePlan d s).colour = s.colour ∧
    (movePlan d s).costing = s.costing := by
  unfold movePlan
  simp

@[simp] theorem raiseItem_frame (c : ItemCode) (u : Nat) (s : State) :
    (raiseItem c u s).now = s.now ∧
    (raiseItem c u s).pending = s.pending ∧
    (raiseItem c u s).out = s.out ∧
    (raiseItem c u s).tables = s.tables ∧
    (raiseItem c u s).items = s.items ∧
    (raiseItem c u s).path = s.path ∧
    (raiseItem c u s).ink = s.ink ∧
    (raiseItem c u s).media = s.media ∧
    (raiseItem c u s).cutter = s.cutter ∧
    (raiseItem c u s).colour = s.colour ∧
    (raiseItem c u s).costing = s.costing ∧
    (raiseItem c u s).link.hold = s.link.hold ∧
    (raiseItem c u s).link.ret.countP Entry.isReply = s.link.ret.countP Entry.isReply := by
  unfold raiseItem
  (repeat' split) <;> simp

@[simp] theorem releaseReservation_frame (u : Nat) (s : State) :
    (releaseReservation u s).now = s.now ∧
    (releaseReservation u s).pending = s.pending ∧
    (releaseReservation u s).out = s.out ∧
    (releaseReservation u s).link = s.link ∧
    (releaseReservation u s).tables = s.tables ∧
    (releaseReservation u s).path = s.path ∧
    (releaseReservation u s).ink = s.ink ∧
    (releaseReservation u s).cutter = s.cutter ∧
    (releaseReservation u s).colour = s.colour ∧
    (releaseReservation u s).costing = s.costing := by
  unfold releaseReservation
  (repeat' split) <;> simp

@[simp] theorem insertStop_frame (t : Stop) (s : State) :
    (insertStop t s).now = s.now ∧
    (insertStop t s).pending = s.pending ∧
    (insertStop t s).out = s.out ∧
    (insertStop t s).link = s.link ∧
    (insertStop t s).tables = s.tables ∧
    (insertStop t s).items = s.items ∧
    (insertStop t s).path = s.path ∧
    (insertStop t s).ink = s.ink ∧
    (insertStop t s).cutter = s.cutter ∧
    (insertStop t s).colour = s.colour ∧
    (insertStop t s).costing = s.costing := by
  unfold insertStop
  (repeat' split) <;> simp

@[simp] theorem takeStopId_frame (s : State) :
    (takeStopId s).now = s.now ∧
    (takeStopId s).pending = s.pending ∧
    (takeStopId s).out = s.out ∧
    (takeStopId s).link = s.link ∧
    (takeStopId s).tables = s.tables ∧
    (takeStopId s).items = s.items ∧
    (takeStopId s).path = s.path ∧
    (takeStopId s).ink = s.ink ∧
    (takeStopId s).cutter = s.cutter ∧
    (takeStopId s).colour = s.colour ∧
    (takeStopId s).costing = s.costing := by
  unfold takeStopId
  simp

@[simp] theorem dropStops_frame (p : Stop → Bool) (s : State) :
    (dropStops p s).now = s.now ∧
    (dropStops p s).pending = s.pending ∧
    (dropStops p s).out = s.out ∧
    (dropStops p s).link = s.link ∧
    (dropStops p s).tables = s.tables ∧
    (dropStops p s).items = s.items ∧
    (dropStops p s).path = s.path ∧
    (dropStops p s).ink = s.ink ∧
    (dropStops p s).cutter = s.cutter ∧
    (dropStops p s).colour = s.colour ∧
    (dropStops p s).costing = s.costing := by
  unfold dropStops
  simp

@[simp] theorem dropStop_frame (u : Nat) (s : State) :
    (dropStop u s).now = s.now ∧
    (dropStop u s).pending = s.pending ∧
    (dropStop u s).out = s.out ∧
    (dropStop u s).link = s.link ∧
    (dropStop u s).tables = s.tables ∧
    (dropStop u s).items = s.items ∧
    (dropStop u s).path = s.path ∧
    (dropStop u s).ink = s.ink ∧
    (dropStop u s).cutter = s.cutter ∧
    (dropStop u s).colour = s.colour ∧
    (dropStop u s).costing = s.costing := by
  unfold dropStop
  simp

@[simp] theorem mapCuts_frame (p : Stop → Bool) (f : CutStop → CutStop) (s : State) :
    (mapCuts p f s).now = s.now ∧
    (mapCuts p f s).pending = s.pending ∧
    (mapCuts p f s).out = s.out ∧
    (mapCuts p f s).link = s.link ∧
    (mapCuts p f s).tables = s.tables ∧
    (mapCuts p f s).items = s.items ∧
    (mapCuts p f s).path = s.path ∧
    (mapCuts p f s).ink = s.ink ∧
    (mapCuts p f s).cutter = s.cutter ∧
    (mapCuts p f s).colour = s.colour ∧
    (mapCuts p f s).costing = s.costing := by
  unfold mapCuts
  simp

@[simp] theorem pauseEngine_frame (s : State) :
    (pauseEngine s).now = s.now ∧
    (pauseEngine s).pending = s.pending ∧
    (pauseEngine s).out = s.out ∧
    (pauseEngine s).link = s.link ∧
    (pauseEngine s).tables = s.tables ∧
    (pauseEngine s).items = s.items ∧
    (pauseEngine s).ink = s.ink ∧
    (pauseEngine s).media = s.media ∧
    (pauseEngine s).cutter = s.cutter ∧
    (pauseEngine s).colour = s.colour ∧
    (pauseEngine s).costing = s.costing := by
  unfold pauseEngine
  (repeat' split) <;> simp

@[simp] theorem proceed_frame (u : Nat) (s : State) :
    (proceed u s).now = s.now ∧
    (proceed u s).pending = s.pending ∧
    (proceed u s).link = s.link ∧
    (proceed u s).tables = s.tables ∧
    (proceed u s).items = s.items ∧
    (proceed u s).ink = s.ink ∧
    (proceed u s).media = s.media ∧
    (proceed u s).cutter = s.cutter ∧
    (proceed u s).colour = s.colour ∧
    (proceed u s).costing = s.costing := by
  unfold proceed
  (repeat' split) <;> simp

@[simp] theorem settleJob_frame (n : Nat) (s : State) :
    (settleJob n s).now = s.now ∧
    (settleJob n s).pending = s.pending ∧
    (settleJob n s).out = s.out ∧
    (settleJob n s).link = s.link ∧
    (settleJob n s).tables = s.tables ∧
    (settleJob n s).path = s.path ∧
    (settleJob n s).ink = s.ink ∧
    (settleJob n s).media = s.media ∧
    (settleJob n s).cutter = s.cutter ∧
    (settleJob n s).colour = s.colour := by
  unfold settleJob
  (repeat' split) <;> simp

@[simp] theorem mapEdition_frame (n : Nat) (f : Edition → Edition) (s : State) :
    (mapEdition n f s).now = s.now ∧
    (mapEdition n f s).pending = s.pending ∧
    (mapEdition n f s).out = s.out ∧
    (mapEdition n f s).link = s.link ∧
    (mapEdition n f s).tables = s.tables ∧
    (mapEdition n f s).items = s.items ∧
    (mapEdition n f s).path = s.path ∧
    (mapEdition n f s).ink = s.ink ∧
    (mapEdition n f s).media = s.media ∧
    (mapEdition n f s).cutter = s.cutter ∧
    (mapEdition n f s).costing = s.costing ∧
    (mapEdition n f s).colour.cal = s.colour.cal := by
  unfold mapEdition
  simp

@[simp] theorem countPrint_frame (i : Item) (s : State) :
    (countPrint i s).now = s.now ∧
    (countPrint i s).pending = s.pending ∧
    (countPrint i s).out = s.out ∧
    (countPrint i s).link = s.link ∧
    (countPrint i s).tables = s.tables ∧
    (countPrint i s).items = s.items ∧
    (countPrint i s).path = s.path ∧
    (countPrint i s).ink = s.ink ∧
    (countPrint i s).media = s.media ∧
    (countPrint i s).cutter = s.cutter ∧
    (countPrint i s).costing = s.costing ∧
    (countPrint i s).colour.cal = s.colour.cal := by
  unfold countPrint
  (repeat' split) <;> simp

@[simp] theorem closeItem_frame (u : Nat) (s : State) :
    (closeItem u s).now = s.now ∧
    (closeItem u s).pending = s.pending ∧
    (closeItem u s).out = s.out ∧
    (closeItem u s).link = s.link ∧
    (closeItem u s).tables = s.tables ∧
    (closeItem u s).path = s.path ∧
    (closeItem u s).ink = s.ink ∧
    (closeItem u s).cutter = s.cutter ∧
    (closeItem u s).colour.cal = s.colour.cal := by
  unfold closeItem
  (repeat' split) <;> simp

@[simp] theorem priceItem_frame (u : Nat) (s : State) :
    (priceItem u s).now = s.now ∧
    (priceItem u s).pending = s.pending ∧
    (priceItem u s).out = s.out ∧
    (priceItem u s).tables = s.tables ∧
    (priceItem u s).path = s.path ∧
    (priceItem u s).ink = s.ink ∧
    (priceItem u s).cutter = s.cutter ∧
    (priceItem u s).colour.cal = s.colour.cal ∧
    (priceItem u s).link.hold = s.link.hold ∧
    (priceItem u s).link.ret.countP Entry.isReply = s.link.ret.countP Entry.isReply := by
  unfold priceItem
  (repeat' split) <;> simp

@[simp] theorem priceJob_frame (n : Nat) (s : State) :
    (priceJob n s).now = s.now ∧
    (priceJob n s).pending = s.pending ∧
    (priceJob n s).out = s.out ∧
    (priceJob n s).tables = s.tables ∧
    (priceJob n s).path = s.path ∧
    (priceJob n s).ink = s.ink ∧
    (priceJob n s).media = s.media ∧
    (priceJob n s).cutter = s.cutter ∧
    (priceJob n s).colour = s.colour ∧
    (priceJob n s).link.hold = s.link.hold ∧
    (priceJob n s).link.ret.countP Entry.isReply = s.link.ret.countP Entry.isReply := by
  unfold priceJob
  (repeat' split) <;> simp

@[simp] theorem toSettling_frame (u : Nat) (s : State) :
    (toSettling u s).now = s.now ∧
    (toSettling u s).pending = s.pending ∧
    (toSettling u s).out = s.out ∧
    (toSettling u s).tables = s.tables ∧
    (toSettling u s).path = s.path ∧
    (toSettling u s).ink = s.ink ∧
    (toSettling u s).media = s.media ∧
    (toSettling u s).cutter = s.cutter ∧
    (toSettling u s).colour = s.colour ∧
    (toSettling u s).costing = s.costing ∧
    (toSettling u s).link.hold = s.link.hold ∧
    (toSettling u s).link.ret.countP Entry.isReply = s.link.ret.countP Entry.isReply := by
  unfold toSettling
  (repeat' split) <;> simp

@[simp] theorem toCosting_frame (u : Nat) (s : State) :
    (toCosting u s).now = s.now ∧
    (toCosting u s).pending = s.pending ∧
    (toCosting u s).out = s.out ∧
    (toCosting u s).tables = s.tables ∧
    (toCosting u s).path = s.path ∧
    (toCosting u s).ink = s.ink ∧
    (toCosting u s).cutter = s.cutter ∧
    (toCosting u s).colour.cal = s.colour.cal ∧
    (toCosting u s).link.hold = s.link.hold ∧
    (toCosting u s).link.ret.countP Entry.isReply = s.link.ret.countP Entry.isReply := by
  unfold toCosting
  dsimp only
  (repeat' split) <;> simp

@[simp] theorem advanceItem_frame (u : Nat) (s : State) :
    (advanceItem u s).now = s.now ∧
    (advanceItem u s).pending = s.pending ∧
    (advanceItem u s).out = s.out ∧
    (advanceItem u s).tables = s.tables ∧
    (advanceItem u s).path = s.path ∧
    (advanceItem u s).ink = s.ink ∧
    (advanceItem u s).cutter = s.cutter ∧
    (advanceItem u s).colour.cal = s.colour.cal ∧
    (advanceItem u s).link.hold = s.link.hold ∧
    (advanceItem u s).link.ret.countP Entry.isReply = s.link.ret.countP Entry.isReply := by
  unfold advanceItem
  simp

@[simp] theorem advanceItems_frame (us : List Nat) (s : State) :
    (advanceItems us s).now = s.now ∧
    (advanceItems us s).pending = s.pending ∧
    (advanceItems us s).out = s.out ∧
    (advanceItems us s).tables = s.tables ∧
    (advanceItems us s).path = s.path ∧
    (advanceItems us s).ink = s.ink ∧
    (advanceItems us s).cutter = s.cutter ∧
    (advanceItems us s).colour.cal = s.colour.cal ∧
    (advanceItems us s).link.hold = s.link.hold ∧
    (advanceItems us s).link.ret.countP Entry.isReply = s.link.ret.countP Entry.isReply := by
  unfold advanceItems
  induction us generalizing s with
  | nil => simp
  | cons a us ih => simp only [List.foldl_cons, ih]; simp

@[simp] theorem removeStop_frame (t : Stop) (s : State) :
    (removeStop t s).now = s.now ∧
    (removeStop t s).pending = s.pending ∧
    (removeStop t s).out = s.out ∧
    (removeStop t s).tables = s.tables ∧
    (removeStop t s).path = s.path ∧
    (removeStop t s).ink = s.ink ∧
    (removeStop t s).cutter = s.cutter ∧
    (removeStop t s).colour.cal = s.colour.cal ∧
    (removeStop t s).link.hold = s.link.hold ∧
    (removeStop t s).link.ret.countP Entry.isReply = s.link.ret.countP Entry.isReply := by
  unfold removeStop
  simp

@[simp] theorem actionEnded_frame (u : Nat) (r : Option Row) (s : State) :
    (actionEnded u r s).now = s.now ∧
    (actionEnded u r s).pending = s.pending ∧
    (actionEnded u r s).tables = s.tables ∧
    (actionEnded u r s).ink = s.ink ∧
    (actionEnded u r s).cutter = s.cutter ∧
    (actionEnded u r s).colour.cal = s.colour.cal ∧
    (actionEnded u r s).link.hold = s.link.hold ∧
    (actionEnded u r s).link.ret.countP Entry.isReply = s.link.ret.countP Entry.isReply := by
  unfold actionEnded
  dsimp only
  (repeat' split) <;> simp

@[simp] theorem mapAccount_frame (c : Chan) (f : Account → Account) (s : State) :
    (mapAccount c f s).now = s.now ∧
    (mapAccount c f s).pending = s.pending ∧
    (mapAccount c f s).out = s.out ∧
    (mapAccount c f s).link = s.link ∧
    (mapAccount c f s).tables = s.tables ∧
    (mapAccount c f s).items = s.items ∧
    (mapAccount c f s).path = s.path ∧
    (mapAccount c f s).media = s.media ∧
    (mapAccount c f s).cutter = s.cutter ∧
    (mapAccount c f s).colour = s.colour ∧
    (mapAccount c f s).costing = s.costing := by
  unfold mapAccount
  simp

@[simp] theorem mapSlot_frame (c : Chan) (f : Slot → Slot) (s : State) :
    (mapSlot c f s).now = s.now ∧
    (mapSlot c f s).pending = s.pending ∧
    (mapSlot c f s).out = s.out ∧
    (mapSlot c f s).link = s.link ∧
    (mapSlot c f s).tables = s.tables ∧
    (mapSlot c f s).items = s.items ∧
    (mapSlot c f s).path = s.path ∧
    (mapSlot c f s).media = s.media ∧
    (mapSlot c f s).cutter = s.cutter ∧
    (mapSlot c f s).colour = s.colour ∧
    (mapSlot c f s).costing = s.costing := by
  unfold mapSlot
  simp

@[simp] theorem mapCart_frame (c : Chan) (f : Cartridge → Cartridge) (s : State) :
    (mapCart c f s).now = s.now ∧
    (mapCart c f s).pending = s.pending ∧
    (mapCart c f s).out = s.out ∧
    (mapCart c f s).link = s.link ∧
    (mapCart c f s).tables = s.tables ∧
    (mapCart c f s).items = s.items ∧
    (mapCart c f s).path = s.path ∧
    (mapCart c f s).media = s.media ∧
    (mapCart c f s).cutter = s.cutter ∧
    (mapCart c f s).colour = s.colour ∧
    (mapCart c f s).costing = s.costing := by
  unfold mapCart
  simp

@[simp] theorem raiseCart_frame (c : Chan) (b : CartState) (k : CartCause) (s : State) :
    (raiseCart c b k s).now = s.now ∧
    (raiseCart c b k s).pending = s.pending ∧
    (raiseCart c b k s).out = s.out ∧
    (raiseCart c b k s).tables = s.tables ∧
    (raiseCart c b k s).items = s.items ∧
    (raiseCart c b k s).path = s.path ∧
    (raiseCart c b k s).ink = s.ink ∧
    (raiseCart c b k s).media = s.media ∧
    (raiseCart c b k s).cutter = s.cutter ∧
    (raiseCart c b k s).colour = s.colour ∧
    (raiseCart c b k s).costing = s.costing ∧
    (raiseCart c b k s).link.hold = s.link.hold ∧
    (raiseCart c b k s).link.ret.countP Entry.isReply = s.link.ret.countP Entry.isReply := by
  unfold raiseCart
  (repeat' split) <;> simp

@[simp] theorem moveCart_frame (c : Chan) (d : CartState) (k : CartCause) (s : State) :
    (moveCart c d k s).now = s.now ∧
    (moveCart c d k s).pending = s.pending ∧
    (moveCart c d k s).out = s.out ∧
    (moveCart c d k s).tables = s.tables ∧
    (moveCart c d k s).items = s.items ∧
    (moveCart c d k s).path = s.path ∧
    (moveCart c d k s).media = s.media ∧
    (moveCart c d k s).cutter = s.cutter ∧
    (moveCart c d k s).colour = s.colour ∧
    (moveCart c d k s).costing = s.costing ∧
    (moveCart c d k s).link.hold = s.link.hold ∧
    (moveCart c d k s).link.ret.countP Entry.isReply = s.link.ret.countP Entry.isReply := by
  unfold moveCart
  dsimp only
  (repeat' split) <;> simp

@[simp] theorem rejectCart_frame (c : Chan) (r : RejectReason) (k : CartCause) (s : State) :
    (rejectCart c r k s).now = s.now ∧
    (rejectCart c r k s).pending = s.pending ∧
    (rejectCart c r k s).out = s.out ∧
    (rejectCart c r k s).tables = s.tables ∧
    (rejectCart c r k s).items = s.items ∧
    (rejectCart c r k s).path = s.path ∧
    (rejectCart c r k s).media = s.media ∧
    (rejectCart c r k s).cutter = s.cutter ∧
    (rejectCart c r k s).colour = s.colour ∧
    (rejectCart c r k s).costing = s.costing ∧
    (rejectCart c r k s).link.hold = s.link.hold ∧
    (rejectCart c r k s).link.ret.countP Entry.isReply = s.link.ret.countP Entry.isReply := by
  unfold rejectCart
  simp

@[simp] theorem sendRead_frame (c : Chan) (s : State) :
    (sendRead c s).now = s.now ∧
    (sendRead c s).pending = s.pending ∧
    (sendRead c s).link = s.link ∧
    (sendRead c s).tables = s.tables ∧
    (sendRead c s).items = s.items ∧
    (sendRead c s).path = s.path ∧
    (sendRead c s).media = s.media ∧
    (sendRead c s).cutter = s.cutter ∧
    (sendRead c s).colour = s.colour ∧
    (sendRead c s).costing = s.costing := by
  unfold sendRead
  simp

@[simp] theorem startWrite_frame (c : Chan) (v : Nat) (s : State) :
    (startWrite c v s).now = s.now ∧
    (startWrite c v s).pending = s.pending ∧
    (startWrite c v s).link = s.link ∧
    (startWrite c v s).tables = s.tables ∧
    (startWrite c v s).items = s.items ∧
    (startWrite c v s).path = s.path ∧
    (startWrite c v s).media = s.media ∧
    (startWrite c v s).cutter = s.cutter ∧
    (startWrite c v s).colour = s.colour ∧
    (startWrite c v s).costing = s.costing := by
  unfold startWrite
  simp

@[simp] theorem writeTest_frame (c : Chan) (s : State) :
    (writeTest c s).now = s.now ∧
    (writeTest c s).pending = s.pending ∧
    (writeTest c s).link = s.link ∧
    (writeTest c s).tables = s.tables ∧
    (writeTest c s).items = s.items ∧
    (writeTest c s).path = s.path ∧
    (writeTest c s).media = s.media ∧
    (writeTest c s).cutter = s.cutter ∧
    (writeTest c s).colour = s.colour ∧
    (writeTest c s).costing = s.costing := by
  unfold writeTest
  dsimp only
  (repeat' split) <;> simp

@[simp] theorem replaceCart_frame (c : Chan) (k : CartCause) (s : State) :
    (replaceCart c k s).now = s.now ∧
    (replaceCart c k s).pending = s.pending ∧
    (replaceCart c k s).out = s.out ∧
    (replaceCart c k s).tables = s.tables ∧
    (replaceCart c k s).items = s.items ∧
    (replaceCart c k s).path = s.path ∧
    (replaceCart c k s).media = s.media ∧
    (replaceCart c k s).cutter = s.cutter ∧
    (replaceCart c k s).colour = s.colour ∧
    (replaceCart c k s).costing = s.costing ∧
    (replaceCart c k s).link.hold = s.link.hold ∧
    (replaceCart c k s).link.ret.countP Entry.isReply = s.link.ret.countP Entry.isReply := by
  unfold replaceCart
  simp

@[simp] theorem refill_frame (c : Chan) (s : State) :
    (refill c s).now = s.now ∧
    (refill c s).pending = s.pending ∧
    (refill c s).tables = s.tables ∧
    (refill c s).items = s.items ∧
    (refill c s).path = s.path ∧
    (refill c s).media = s.media ∧
    (refill c s).cutter = s.cutter ∧
    (refill c s).colour = s.colour ∧
    (refill c s).costing = s.costing ∧
    (refill c s).link.hold = s.link.hold ∧
    (refill c s).link.ret.countP Entry.isReply = s.link.ret.countP Entry.isReply := by
  unfold refill
  dsimp only
  (repeat' split) <;> simp

@[simp] theorem correctLevel_frame (c : Chan) (s : State) :
    (correctLevel c s).now = s.now ∧
    (correctLevel c s).pending = s.pending ∧
    (correctLevel c s).out = s.out ∧
    (correctLevel c s).tables = s.tables ∧
    (correctLevel c s).items = s.items ∧
    (correctLevel c s).path = s.path ∧
    (correctLevel c s).media = s.media ∧
    (correctLevel c s).cutter = s.cutter ∧
    (correctLevel c s).colour = s.colour ∧
    (correctLevel c s).costing = s.costing ∧
    (correctLevel c s).link.hold = s.link.hold ∧
    (correctLevel c s).link.ret.countP Entry.isReply = s.link.ret.countP Entry.isReply := by
  unfold correctLevel
  dsimp only
  (repeat' split) <;> simp

@[simp] theorem applySensed_frame (c : Chan) (s : State) :
    (applySensed c s).now = s.now ∧
    (applySensed c s).pending = s.pending ∧
    (applySensed c s).tables = s.tables ∧
    (applySensed c s).items = s.items ∧
    (applySensed c s).path = s.path ∧
    (applySensed c s).media = s.media ∧
    (applySensed c s).cutter = s.cutter ∧
    (applySensed c s).colour = s.colour ∧
    (applySensed c s).costing = s.costing ∧
    (applySensed c s).link.hold = s.link.hold ∧
    (applySensed c s).link.ret.countP Entry.isReply = s.link.ret.countP Entry.isReply := by
  unfold applySensed
  dsimp only
  (repeat' split) <;> simp

@[simp] theorem listCart_frame (c : Chan) (s : State) :
    (listCart c s).now = s.now ∧
    (listCart c s).pending = s.pending ∧
    (listCart c s).out = s.out ∧
    (listCart c s).link = s.link ∧
    (listCart c s).tables = s.tables ∧
    (listCart c s).items = s.items ∧
    (listCart c s).path = s.path ∧
    (listCart c s).media = s.media ∧
    (listCart c s).cutter = s.cutter ∧
    (listCart c s).colour = s.colour ∧
    (listCart c s).costing = s.costing := by
  unfold listCart
  dsimp only
  (repeat' split) <;> simp

@[simp] theorem placeCart_frame (c : Chan) (t : TagContents) (s : State) :
    (placeCart c t s).now = s.now ∧
    (placeCart c t s).pending = s.pending ∧
    (placeCart c t s).tables = s.tables ∧
    (placeCart c t s).items = s.items ∧
    (placeCart c t s).path = s.path ∧
    (placeCart c t s).media = s.media ∧
    (placeCart c t s).cutter = s.cutter ∧
    (placeCart c t s).colour = s.colour ∧
    (placeCart c t s).costing = s.costing ∧
    (placeCart c t s).link.hold = s.link.hold ∧
    (placeCart c t s).link.ret.countP Entry.isReply = s.link.ret.countP Entry.isReply := by
  unfold placeCart
  simp

@[simp] theorem checkKind_frame (c : Chan) (n : Nat) (t : TagContents) (s : State) :
    (checkKind c n t s).now = s.now ∧
    (checkKind c n t s).pending = s.pending ∧
    (checkKind c n t s).tables = s.tables ∧
    (checkKind c n t s).items = s.items ∧
    (checkKind c n t s).path = s.path ∧
    (checkKind c n t s).media = s.media ∧
    (checkKind c n t s).cutter = s.cutter ∧
    (checkKind c n t s).colour = s.colour ∧
    (checkKind c n t s).costing = s.costing ∧
    (checkKind c n t s).link.hold = s.link.hold ∧
    (checkKind c n t s).link.ret.countP Entry.isReply = s.link.ret.countP Entry.isReply := by
  unfold checkKind
  (repeat' split) <;> simp

@[simp] theorem recheckKind_frame (c : Chan) (s : State) :
    (recheckKind c s).now = s.now ∧
    (recheckKind c s).pending = s.pending ∧
    (recheckKind c s).tables = s.tables ∧
    (recheckKind c s).items = s.items ∧
    (recheckKind c s).path = s.path ∧
    (recheckKind c s).media = s.media ∧
    (recheckKind c s).cutter = s.cutter ∧
    (recheckKind c s).colour = s.colour ∧
    (recheckKind c s).costing = s.costing ∧
    (recheckKind c s).link.hold = s.link.hold ∧
    (recheckKind c s).link.ret.countP Entry.isReply = s.link.ret.countP Entry.isReply := by
  unfold recheckKind
  dsimp only
  (repeat' split) <;> simp

@[simp] theorem replaceByMap_frame (c : Chan) (s : State) :
    (replaceByMap c s).now = s.now ∧
    (replaceByMap c s).pending = s.pending ∧
    (replaceByMap c s).tables = s.tables ∧
    (replaceByMap c s).items = s.items ∧
    (replaceByMap c s).path = s.path ∧
    (replaceByMap c s).media = s.media ∧
    (replaceByMap c s).cutter = s.cutter ∧
    (replaceByMap c s).colour = s.colour ∧
    (replaceByMap c s).costing = s.costing ∧
    (replaceByMap c s).link.hold = s.link.hold ∧
    (replaceByMap c s).link.ret.countP Entry.isReply = s.link.ret.countP Entry.isReply := by
  unfold replaceByMap
  dsimp only
  (repeat' split) <;> simp

@[simp] theorem forReplaceByMap_frame (cs : List Chan) (s : State) :
    (forChannels cs replaceByMap s).now = s.now ∧
    (forChannels cs replaceByMap s).pending = s.pending ∧
    (forChannels cs replaceByMap s).tables = s.tables ∧
    (forChannels cs replaceByMap s).items = s.items ∧
    (forChannels cs replaceByMap s).path = s.path ∧
    (forChannels cs replaceByMap s).media = s.media ∧
    (forChannels cs replaceByMap s).cutter = s.cutter ∧
    (forChannels cs replaceByMap s).colour = s.colour ∧
    (forChannels cs replaceByMap s).costing = s.costing ∧
    (forChannels cs replaceByMap s).link.hold = s.link.hold ∧
    (forChannels cs replaceByMap s).link.ret.countP Entry.isReply = s.link.ret.countP Entry.isReply := by
  unfold forChannels
  induction cs generalizing s with
  | nil => simp
  | cons a cs ih => simp only [List.foldl_cons, ih]; simp

@[simp] theorem forRecheckKind_frame (cs : List Chan) (s : State) :
    (forChannels cs recheckKind s).now = s.now ∧
    (forChannels cs recheckKind s).pending = s.pending ∧
    (forChannels cs recheckKind s).tables = s.tables ∧
    (forChannels cs recheckKind s).items = s.items ∧
    (forChannels cs recheckKind s).path = s.path ∧
    (forChannels cs recheckKind s).media = s.media ∧
    (forChannels cs recheckKind s).cutter = s.cutter ∧
    (forChannels cs recheckKind s).colour = s.colour ∧
    (forChannels cs recheckKind s).costing = s.costing ∧
    (forChannels cs recheckKind s).link.hold = s.link.hold ∧
    (forChannels cs recheckKind s).link.ret.countP Entry.isReply = s.link.ret.countP Entry.isReply := by
  unfold forChannels
  induction cs generalizing s with
  | nil => simp
  | cons a cs ih => simp only [List.foldl_cons, ih]; simp

@[simp] theorem recheckMap_frame (s : State) :
    (recheckMap s).now = s.now ∧
    (recheckMap s).pending = s.pending ∧
    (recheckMap s).tables = s.tables ∧
    (recheckMap s).items = s.items ∧
    (recheckMap s).path = s.path ∧
    (recheckMap s).media = s.media ∧
    (recheckMap s).cutter = s.cutter ∧
    (recheckMap s).colour = s.colour ∧
    (recheckMap s).costing = s.costing ∧
    (recheckMap s).link.hold = s.link.hold ∧
    (recheckMap s).link.ret.countP Entry.isReply = s.link.ret.countP Entry.isReply := by
  unfold recheckMap
  simp

@[simp] theorem grantInk_frame (l : List (Chan × Nat)) (s : State) :
    (grantInk l s).now = s.now ∧
    (grantInk l s).pending = s.pending ∧
    (grantInk l s).out = s.out ∧
    (grantInk l s).link = s.link ∧
    (grantInk l s).tables = s.tables ∧
    (grantInk l s).items = s.items ∧
    (grantInk l s).path = s.path ∧
    (grantInk l s).media = s.media ∧
    (grantInk l s).cutter = s.cutter ∧
    (grantInk l s).colour = s.colour ∧
    (grantInk l s).costing = s.costing := by
  unfold grantInk
  induction l generalizing s with
  | nil => simp
  | cons a l ih => simp only [List.foldl_cons, ih]; simp

@[simp] theorem releaseInk_frame (l : List (Chan × Nat)) (s : State) :
    (releaseInk l s).now = s.now ∧
    (releaseInk l s).pending = s.pending ∧
    (releaseInk l s).out = s.out ∧
    (releaseInk l s).link = s.link ∧
    (releaseInk l s).tables = s.tables ∧
    (releaseInk l s).items = s.items ∧
    (releaseInk l s).path = s.path ∧
    (releaseInk l s).media = s.media ∧
    (releaseInk l s).cutter = s.cutter ∧
    (releaseInk l s).colour = s.colour ∧
    (releaseInk l s).costing = s.costing := by
  unfold releaseInk
  induction l generalizing s with
  | nil => simp
  | cons a l ih => simp only [List.foldl_cons, ih]; simp

@[simp] theorem setWait_frame (c : Chan) (v : Bool) (s : State) :
    (setWait c v s).now = s.now ∧
    (setWait c v s).pending = s.pending ∧
    (setWait c v s).out = s.out ∧
    (setWait c v s).link = s.link ∧
    (setWait c v s).tables = s.tables ∧
    (setWait c v s).items = s.items ∧
    (setWait c v s).path = s.path ∧
    (setWait c v s).media = s.media ∧
    (setWait c v s).cutter = s.cutter ∧
    (setWait c v s).colour = s.colour ∧
    (setWait c v s).costing = s.costing := by
  unfold setWait
  simp

@[simp] theorem endWait_frame (w : Asker) (l : List (Chan × Nat)) (c : Chan) (s : State) :
    (endWait w l c s).now = s.now ∧
    (endWait w l c s).pending = s.pending ∧
    (endWait w l c s).out = s.out ∧
    (endWait w l c s).tables = s.tables ∧
    (endWait w l c s).items = s.items ∧
    (endWait w l c s).path = s.path ∧
    (endWait w l c s).media = s.media ∧
    (endWait w l c s).cutter = s.cutter ∧
    (endWait w l c s).colour = s.colour ∧
    (endWait w l c s).costing = s.costing ∧
    (endWait w l c s).link.hold = s.link.hold ∧
    (endWait w l c s).link.ret.countP Entry.isReply = s.link.ret.countP Entry.isReply := by
  unfold endWait
  (repeat' split) <;> simp

@[simp] theorem startWait_frame (w : Asker) (l : List (Chan × Nat)) (c : Chan) (s : State) :
    (startWait w l c s).now = s.now ∧
    (startWait w l c s).pending = s.pending ∧
    (startWait w l c s).out = s.out ∧
    (startWait w l c s).tables = s.tables ∧
    (startWait w l c s).items = s.items ∧
    (startWait w l c s).path = s.path ∧
    (startWait w l c s).media = s.media ∧
    (startWait w l c s).cutter = s.cutter ∧
    (startWait w l c s).colour = s.colour ∧
    (startWait w l c s).costing = s.costing ∧
    (startWait w l c s).link.hold = s.link.hold ∧
    (startWait w l c s).link.ret.countP Entry.isReply = s.link.ret.countP Entry.isReply := by
  unfold startWait
  (repeat' split) <;> simp

@[simp] theorem forEndWait_frame (w : Asker) (l : List (Chan × Nat)) (cs : List Chan) (s : State) :
    (forChannels cs (endWait w l) s).now = s.now ∧
    (forChannels cs (endWait w l) s).pending = s.pending ∧
    (forChannels cs (endWait w l) s).out = s.out ∧
    (forChannels cs (endWait w l) s).tables = s.tables ∧
    (forChannels cs (endWait w l) s).items = s.items ∧
    (forChannels cs (endWait w l) s).path = s.path ∧
    (forChannels cs (endWait w l) s).media = s.media ∧
    (forChannels cs (endWait w l) s).cutter = s.cutter ∧
    (forChannels cs (endWait w l) s).colour = s.colour ∧
    (forChannels cs (endWait w l) s).costing = s.costing ∧
    (forChannels cs (endWait w l) s).link.hold = s.link.hold ∧
    (forChannels cs (endWait w l) s).link.ret.countP Entry.isReply = s.link.ret.countP Entry.isReply := by
  unfold forChannels
  induction cs generalizing s with
  | nil => simp
  | cons a cs ih => simp only [List.foldl_cons, ih]; simp

@[simp] theorem endWaits_frame (w : Asker) (l : List (Chan × Nat)) (s : State) :
    (endWaits w l s).now = s.now ∧
    (endWaits w l s).pending = s.pending ∧
    (endWaits w l s).out = s.out ∧
    (endWaits w l s).tables = s.tables ∧
    (endWaits w l s).items = s.items ∧
    (endWaits w l s).path = s.path ∧
    (endWaits w l s).media = s.media ∧
    (endWaits w l s).cutter = s.cutter ∧
    (endWaits w l s).colour = s.colour ∧
    (endWaits w l s).costing = s.costing ∧
    (endWaits w l s).link.hold = s.link.hold ∧
    (endWaits w l s).link.ret.countP Entry.isReply = s.link.ret.countP Entry.isReply := by
  unfold endWaits
  simp

@[simp] theorem declineWait_frame (w : Asker) (l : List (Chan × Nat)) (c : Chan) (s : State) :
    (declineWait w l c s).now = s.now ∧
    (declineWait w l c s).pending = s.pending ∧
    (declineWait w l c s).out = s.out ∧
    (declineWait w l c s).tables = s.tables ∧
    (declineWait w l c s).items = s.items ∧
    (declineWait w l c s).path = s.path ∧
    (declineWait w l c s).media = s.media ∧
    (declineWait w l c s).cutter = s.cutter ∧
    (declineWait w l c s).colour = s.colour ∧
    (declineWait w l c s).costing = s.costing ∧
    (declineWait w l c s).link.hold = s.link.hold ∧
    (declineWait w l c s).link.ret.countP Entry.isReply = s.link.ret.countP Entry.isReply := by
  unfold declineWait
  (repeat' split) <;> simp

@[simp] theorem forDeclineWait_frame (w : Asker) (l : List (Chan × Nat)) (cs : List Chan) (s : State) :
    (forChannels cs (declineWait w l) s).now = s.now ∧
    (forChannels cs (declineWait w l) s).pending = s.pending ∧
    (forChannels cs (declineWait w l) s).out = s.out ∧
    (forChannels cs (declineWait w l) s).tables = s.tables ∧
    (forChannels cs (declineWait w l) s).items = s.items ∧
    (forChannels cs (declineWait w l) s).path = s.path ∧
    (forChannels cs (declineWait w l) s).media = s.media ∧
    (forChannels cs (declineWait w l) s).cutter = s.cutter ∧
    (forChannels cs (declineWait w l) s).colour = s.colour ∧
    (forChannels cs (declineWait w l) s).costing = s.costing ∧
    (forChannels cs (declineWait w l) s).link.hold = s.link.hold ∧
    (forChannels cs (declineWait w l) s).link.ret.countP Entry.isReply = s.link.ret.countP Entry.isReply := by
  unfold forChannels
  induction cs generalizing s with
  | nil => simp
  | cons a cs ih => simp only [List.foldl_cons, ih]; simp

@[simp] theorem declineWaits_frame (n : Nat) (w : Asker) (l : List (Chan × Nat)) (s : State) :
    (declineWaits n w l s).now = s.now ∧
    (declineWaits n w l s).pending = s.pending ∧
    (declineWaits n w l s).out = s.out ∧
    (declineWaits n w l s).tables = s.tables ∧
    (declineWaits n w l s).items = s.items ∧
    (declineWaits n w l s).path = s.path ∧
    (declineWaits n w l s).media = s.media ∧
    (declineWaits n w l s).cutter = s.cutter ∧
    (declineWaits n w l s).colour = s.colour ∧
    (declineWaits n w l s).costing = s.costing ∧
    (declineWaits n w l s).link.hold = s.link.hold ∧
    (declineWaits n w l s).link.ret.countP Entry.isReply = s.link.ret.countP Entry.isReply := by
  unfold declineWaits
  simp

@[simp] theorem forRefill_frame (cs : List Chan) (s : State) :
    (forChannels cs refill s).now = s.now ∧
    (forChannels cs refill s).pending = s.pending ∧
    (forChannels cs refill s).tables = s.tables ∧
    (forChannels cs refill s).items = s.items ∧
    (forChannels cs refill s).path = s.path ∧
    (forChannels cs refill s).media = s.media ∧
    (forChannels cs refill s).cutter = s.cutter ∧
    (forChannels cs refill s).colour = s.colour ∧
    (forChannels cs refill s).costing = s.costing ∧
    (forChannels cs refill s).link.hold = s.link.hold ∧
    (forChannels cs refill s).link.ret.countP Entry.isReply = s.link.ret.countP Entry.isReply := by
  unfold forChannels
  induction cs generalizing s with
  | nil => simp
  | cons a cs ih => simp only [List.foldl_cons, ih]; simp

@[simp] theorem reportHold_frame (s : State) :
    (reportHold s).now = s.now ∧
    (reportHold s).pending = s.pending ∧
    (reportHold s).out = s.out ∧
    (reportHold s).tables = s.tables ∧
    (reportHold s).items = s.items ∧
    (reportHold s).path = s.path ∧
    (reportHold s).ink = s.ink ∧
    (reportHold s).media = s.media ∧
    (reportHold s).colour = s.colour ∧
    (reportHold s).costing = s.costing ∧
    (reportHold s).link.hold = s.link.hold ∧
    (reportHold s).link.ret.countP Entry.isReply = s.link.ret.countP Entry.isReply := by
  unfold reportHold
  (repeat' split) <;> simp

@[simp] theorem dispatchCut_frame (u : Nat) (s : State) :
    (dispatchCut u s).now = s.now ∧
    (dispatchCut u s).pending = s.pending ∧
    (dispatchCut u s).out = s.out ∧
    (dispatchCut u s).tables = s.tables ∧
    (dispatchCut u s).items = s.items ∧
    (dispatchCut u s).path = s.path ∧
    (dispatchCut u s).ink = s.ink ∧
    (dispatchCut u s).media = s.media ∧
    (dispatchCut u s).colour = s.colour ∧
    (dispatchCut u s).costing = s.costing ∧
    (dispatchCut u s).link.hold = s.link.hold ∧
    (dispatchCut u s).link.ret.countP Entry.isReply = s.link.ret.countP Entry.isReply := by
  unfold dispatchCut
  (repeat' split) <;> simp

@[simp] theorem holdCuts_frame (u n : Nat) (s : State) :
    (holdCuts u n s).now = s.now ∧
    (holdCuts u n s).pending = s.pending ∧
    (holdCuts u n s).out = s.out ∧
    (holdCuts u n s).tables = s.tables ∧
    (holdCuts u n s).items = s.items ∧
    (holdCuts u n s).path = s.path ∧
    (holdCuts u n s).ink = s.ink ∧
    (holdCuts u n s).colour = s.colour ∧
    (holdCuts u n s).costing = s.costing ∧
    (holdCuts u n s).link.hold = s.link.hold ∧
    (holdCuts u n s).link.ret.countP Entry.isReply = s.link.ret.countP Entry.isReply := by
  unfold holdCuts
  (repeat' split) <;> simp

@[simp] theorem clearHolds_frame (u : Nat) (s : State) :
    (clearHolds u s).now = s.now ∧
    (clearHolds u s).pending = s.pending ∧
    (clearHolds u s).out = s.out ∧
    (clearHolds u s).link = s.link ∧
    (clearHolds u s).tables = s.tables ∧
    (clearHolds u s).items = s.items ∧
    (clearHolds u s).path = s.path ∧
    (clearHolds u s).ink = s.ink ∧
    (clearHolds u s).cutter = s.cutter ∧
    (clearHolds u s).colour = s.colour ∧
    (clearHolds u s).costing = s.costing := by
  unfold clearHolds
  simp

@[simp] theorem dropHeldCut_frame (u : Nat) (s : State) :
    (dropHeldCut u s).now = s.now ∧
    (dropHeldCut u s).pending = s.pending ∧
    (dropHeldCut u s).tables = s.tables ∧
    (dropHeldCut u s).ink = s.ink ∧
    (dropHeldCut u s).colour.cal = s.colour.cal ∧
    (dropHeldCut u s).link.hold = s.link.hold ∧
    (dropHeldCut u s).link.ret.countP Entry.isReply = s.link.ret.countP Entry.isReply := by
  unfold dropHeldCut
  simp

@[simp] theorem startCut_frame (s : State) :
    (startCut s).now = s.now ∧
    (startCut s).pending = s.pending ∧
    (startCut s).link = s.link ∧
    (startCut s).tables = s.tables ∧
    (startCut s).items = s.items ∧
    (startCut s).path = s.path ∧
    (startCut s).ink = s.ink ∧
    (startCut s).media = s.media ∧
    (startCut s).colour = s.colour ∧
    (startCut s).costing = s.costing := by
  unfold startCut
  simp

@[simp] theorem completeCut_frame (t : Stop) (c : CutStop) (s : State) :
    (completeCut t c s).now = s.now ∧
    (completeCut t c s).pending = s.pending ∧
    (completeCut t c s).tables = s.tables ∧
    (completeCut t c s).ink = s.ink ∧
    (completeCut t c s).colour.cal = s.colour.cal ∧
    (completeCut t c s).link.hold = s.link.hold ∧
    (completeCut t c s).link.ret.countP Entry.isReply = s.link.ret.countP Entry.isReply := by
  unfold completeCut
  dsimp only
  (repeat' split) <;> simp

@[simp] theorem failCut_frame (c : CutFault) (s : State) :
    (failCut c s).now = s.now ∧
    (failCut c s).pending = s.pending ∧
    (failCut c s).out = s.out ∧
    (failCut c s).tables = s.tables ∧
    (failCut c s).items = s.items ∧
    (failCut c s).ink = s.ink ∧
    (failCut c s).media = s.media ∧
    (failCut c s).colour = s.colour ∧
    (failCut c s).costing = s.costing ∧
    (failCut c s).link.hold = s.link.hold ∧
    (failCut c s).link.ret.countP Entry.isReply = s.link.ret.countP Entry.isReply := by
  unfold failCut
  dsimp only
  (repeat' split) <;> simp

@[simp] theorem beginRetry_frame (u : Nat) (s : State) :
    (beginRetry u s).now = s.now ∧
    (beginRetry u s).pending = s.pending ∧
    (beginRetry u s).tables = s.tables ∧
    (beginRetry u s).ink = s.ink ∧
    (beginRetry u s).colour.cal = s.colour.cal ∧
    (beginRetry u s).link.hold = s.link.hold ∧
    (beginRetry u s).link.ret.countP Entry.isReply = s.link.ret.countP Entry.isReply := by
  unfold beginRetry
  (repeat' split) <;> simp

@[simp] theorem disableCutter_frame (s : State) :
    (disableCutter s).now = s.now ∧
    (disableCutter s).pending = s.pending ∧
    (disableCutter s).tables = s.tables ∧
    (disableCutter s).ink = s.ink ∧
    (disableCutter s).colour.cal = s.colour.cal ∧
    (disableCutter s).link.hold = s.link.hold ∧
    (disableCutter s).link.ret.countP Entry.isReply = s.link.ret.countP Entry.isReply := by
  unfold disableCutter
  dsimp only
  (repeat' split) <;> simp

@[simp] theorem touchEdition_frame (n : Option Nat) (s : State) :
    (touchEdition n s).now = s.now ∧
    (touchEdition n s).pending = s.pending ∧
    (touchEdition n s).out = s.out ∧
    (touchEdition n s).link = s.link ∧
    (touchEdition n s).tables = s.tables ∧
    (touchEdition n s).items = s.items ∧
    (touchEdition n s).path = s.path ∧
    (touchEdition n s).ink = s.ink ∧
    (touchEdition n s).media = s.media ∧
    (touchEdition n s).cutter = s.cutter ∧
    (touchEdition n s).costing = s.costing ∧
    (touchEdition n s).colour.cal = s.colour.cal := by
  unfold touchEdition
  (repeat' split) <;> simp

@[simp] theorem holdItem_frame (u : Nat) (s : State) :
    (holdItem u s).now = s.now ∧
    (holdItem u s).pending = s.pending ∧
    (holdItem u s).out = s.out ∧
    (holdItem u s).tables = s.tables ∧
    (holdItem u s).path = s.path ∧
    (holdItem u s).ink = s.ink ∧
    (holdItem u s).media = s.media ∧
    (holdItem u s).cutter = s.cutter ∧
    (holdItem u s).colour = s.colour ∧
    (holdItem u s).costing = s.costing ∧
    (holdItem u s).link.hold = s.link.hold ∧
    (holdItem u s).link.ret.countP Entry.isReply = s.link.ret.countP Entry.isReply := by
  unfold holdItem
  (repeat' split) <;> simp

@[simp] theorem mergeVerdict_frame (u n : Nat) (v : Verdict) (s : State) :
    (mergeVerdict u n v s).now = s.now ∧
    (mergeVerdict u n v s).pending = s.pending ∧
    (mergeVerdict u n v s).out = s.out ∧
    (mergeVerdict u n v s).tables = s.tables ∧
    (mergeVerdict u n v s).path = s.path ∧
    (mergeVerdict u n v s).ink = s.ink ∧
    (mergeVerdict u n v s).costing = s.costing ∧
    (mergeVerdict u n v s).colour.cal = s.colour.cal ∧
    (mergeVerdict u n v s).link.hold = s.link.hold ∧
    (mergeVerdict u n v s).link.ret.countP Entry.isReply = s.link.ret.countP Entry.isReply := by
  unfold mergeVerdict
  dsimp only
  (repeat' split) <;> simp

@[simp] theorem recordUnread_frame (t : Stop) (m : MeasureStop) (s : State) :
    (recordUnread t m s).now = s.now ∧
    (recordUnread t m s).pending = s.pending ∧
    (recordUnread t m s).out = s.out ∧
    (recordUnread t m s).tables = s.tables ∧
    (recordUnread t m s).path = s.path ∧
    (recordUnread t m s).ink = s.ink ∧
    (recordUnread t m s).costing = s.costing ∧
    (recordUnread t m s).colour.cal = s.colour.cal ∧
    (recordUnread t m s).link.hold = s.link.hold ∧
    (recordUnread t m s).link.ret.countP Entry.isReply = s.link.ret.countP Entry.isReply := by
  unfold recordUnread
  simp

@[simp] theorem unreadIfMeasure_frame (t : Stop) (s : State) :
    (unreadIfMeasure t s).now = s.now ∧
    (unreadIfMeasure t s).pending = s.pending ∧
    (unreadIfMeasure t s).out = s.out ∧
    (unreadIfMeasure t s).tables = s.tables ∧
    (unreadIfMeasure t s).path = s.path ∧
    (unreadIfMeasure t s).ink = s.ink ∧
    (unreadIfMeasure t s).costing = s.costing ∧
    (unreadIfMeasure t s).colour.cal = s.colour.cal ∧
    (unreadIfMeasure t s).link.hold = s.link.hold ∧
    (unreadIfMeasure t s).link.ret.countP Entry.isReply = s.link.ret.countP Entry.isReply := by
  unfold unreadIfMeasure
  dsimp only
  (repeat' split) <;> simp

@[simp] theorem unreadStops_frame (l : List Stop) (s : State) :
    (unreadStops l s).now = s.now ∧
    (unreadStops l s).pending = s.pending ∧
    (unreadStops l s).out = s.out ∧
    (unreadStops l s).tables = s.tables ∧
    (unreadStops l s).path = s.path ∧
    (unreadStops l s).ink = s.ink ∧
    (unreadStops l s).costing = s.costing ∧
    (unreadStops l s).colour.cal = s.colour.cal ∧
    (unreadStops l s).link.hold = s.link.hold ∧
    (unreadStops l s).link.ret.countP Entry.isReply = s.link.ret.countP Entry.isReply := by
  unfold unreadStops
  induction l generalizing s with
  | nil => simp
  | cons a l ih => simp only [List.foldl_cons, ih]; simp

@[simp] theorem endMeasureUnread_frame (s : State) :
    (endMeasureUnread s).now = s.now ∧
    (endMeasureUnread s).pending = s.pending ∧
    (endMeasureUnread s).tables = s.tables ∧
    (endMeasureUnread s).ink = s.ink ∧
    (endMeasureUnread s).colour.cal = s.colour.cal ∧
    (endMeasureUnread s).link.hold = s.link.hold ∧
    (endMeasureUnread s).link.ret.countP Entry.isReply = s.link.ret.countP Entry.isReply := by
  unfold endMeasureUnread
  dsimp only
  (repeat' split) <;> simp

@[simp] theorem startScan_frame (t : Stop) (m : MeasureStop) (n : Nat) (p : Vector PatchLayout 8) (s : State) :
    (startScan t m n p s).now = s.now ∧
    (startScan t m n p s).pending = s.pending ∧
    (startScan t m n p s).link = s.link ∧
    (startScan t m n p s).tables = s.tables ∧
    (startScan t m n p s).items = s.items ∧
    (startScan t m n p s).path = s.path ∧
    (startScan t m n p s).ink = s.ink ∧
    (startScan t m n p s).media = s.media ∧
    (startScan t m n p s).cutter = s.cutter ∧
    (startScan t m n p s).costing = s.costing ∧
    (startScan t m n p s).colour.cal = s.colour.cal := by
  unfold startScan
  simp

@[simp] theorem takeReading_frame (n : Nat) (f : Filter) (r : Nat) (s : State) :
    (takeReading n f r s).now = s.now ∧
    (takeReading n f r s).pending = s.pending ∧
    (takeReading n f r s).out = s.out ∧
    (takeReading n f r s).link = s.link ∧
    (takeReading n f r s).tables = s.tables ∧
    (takeReading n f r s).items = s.items ∧
    (takeReading n f r s).path = s.path ∧
    (takeReading n f r s).ink = s.ink ∧
    (takeReading n f r s).media = s.media ∧
    (takeReading n f r s).cutter = s.cutter ∧
    (takeReading n f r s).costing = s.costing ∧
    (takeReading n f r s).colour.cal = s.colour.cal := by
  unfold takeReading
  (repeat' split) <;> simp

@[simp] theorem endScan_frame (e : EndCause) (s : State) :
    (endScan e s).now = s.now ∧
    (endScan e s).pending = s.pending ∧
    (endScan e s).tables = s.tables ∧
    (endScan e s).ink = s.ink ∧
    (endScan e s).cutter = s.cutter ∧
    (endScan e s).colour.cal = s.colour.cal ∧
    (endScan e s).link.hold = s.link.hold ∧
    (endScan e s).link.ret.countP Entry.isReply = s.link.ret.countP Entry.isReply := by
  unfold endScan
  (repeat' split) <;> simp

@[simp] theorem computeVerdict_frame (c : Scan) (p : Vector PatchLayout 8) (l : Vector Limits 8) (s : State) :
    (computeVerdict c p l s).now = s.now ∧
    (computeVerdict c p l s).pending = s.pending ∧
    (computeVerdict c p l s).out = s.out ∧
    (computeVerdict c p l s).tables = s.tables ∧
    (computeVerdict c p l s).path = s.path ∧
    (computeVerdict c p l s).ink = s.ink ∧
    (computeVerdict c p l s).costing = s.costing ∧
    (computeVerdict c p l s).colour.cal = s.colour.cal ∧
    (computeVerdict c p l s).link.hold = s.link.hold ∧
    (computeVerdict c p l s).link.ret.countP Entry.isReply = s.link.ret.countP Entry.isReply := by
  unfold computeVerdict
  dsimp only
  (repeat' split) <;> simp

@[simp] theorem onVerify_frame (f : Verify → Verify) (s : State) :
    (onVerify f s).now = s.now ∧
    (onVerify f s).pending = s.pending ∧
    (onVerify f s).out = s.out ∧
    (onVerify f s).link = s.link ∧
    (onVerify f s).tables = s.tables ∧
    (onVerify f s).items = s.items ∧
    (onVerify f s).path = s.path ∧
    (onVerify f s).ink = s.ink ∧
    (onVerify f s).media = s.media ∧
    (onVerify f s).cutter = s.cutter ∧
    (onVerify f s).costing = s.costing ∧
    (onVerify f s).colour.cal = s.colour.cal := by
  unfold onVerify
  simp

@[simp] theorem endTest_frame (t : TestRun) (b : Bool) (s : State) :
    (endTest t b s).now = s.now ∧
    (endTest t b s).pending = s.pending ∧
    (endTest t b s).out = s.out ∧
    (endTest t b s).tables = s.tables ∧
    (endTest t b s).items = s.items ∧
    (endTest t b s).path = s.path ∧
    (endTest t b s).ink = s.ink ∧
    (endTest t b s).media = s.media ∧
    (endTest t b s).cutter = s.cutter ∧
    (endTest t b s).costing = s.costing ∧
    (endTest t b s).colour.cal = s.colour.cal ∧
    (endTest t b s).link.hold = s.link.hold ∧
    (endTest t b s).link.ret.countP Entry.isReply = s.link.ret.countP Entry.isReply := by
  unfold endTest
  (repeat' split) <;> simp

@[simp] theorem partEnded_frame (o : PartOutcome) (s : State) :
    (partEnded o s).now = s.now ∧
    (partEnded o s).pending = s.pending ∧
    (partEnded o s).out = s.out ∧
    (partEnded o s).tables = s.tables ∧
    (partEnded o s).items = s.items ∧
    (partEnded o s).path = s.path ∧
    (partEnded o s).ink = s.ink ∧
    (partEnded o s).media = s.media ∧
    (partEnded o s).cutter = s.cutter ∧
    (partEnded o s).costing = s.costing ∧
    (partEnded o s).colour.cal = s.colour.cal ∧
    (partEnded o s).link.hold = s.link.hold ∧
    (partEnded o s).link.ret.countP Entry.isReply = s.link.ret.countP Entry.isReply := by
  unfold partEnded
  dsimp only
  (repeat' split) <;> simp

@[simp] theorem judgePart_frame (p : Part) (s : State) :
    (judgePart p s).now = s.now ∧
    (judgePart p s).pending = s.pending ∧
    (judgePart p s).out = s.out ∧
    (judgePart p s).tables = s.tables ∧
    (judgePart p s).items = s.items ∧
    (judgePart p s).path = s.path ∧
    (judgePart p s).ink = s.ink ∧
    (judgePart p s).media = s.media ∧
    (judgePart p s).cutter = s.cutter ∧
    (judgePart p s).costing = s.costing ∧
    (judgePart p s).link.hold = s.link.hold ∧
    (judgePart p s).link.ret.countP Entry.isReply = s.link.ret.countP Entry.isReply := by
  unfold judgePart
  dsimp only
  (repeat' split) <;> simp

@[simp] theorem failPart_frame (p : Part) (c : PartFailure) (s : State) :
    (failPart p c s).now = s.now ∧
    (failPart p c s).pending = s.pending ∧
    (failPart p c s).out = s.out ∧
    (failPart p c s).tables = s.tables ∧
    (failPart p c s).items = s.items ∧
    (failPart p c s).path = s.path ∧
    (failPart p c s).ink = s.ink ∧
    (failPart p c s).media = s.media ∧
    (failPart p c s).cutter = s.cutter ∧
    (failPart p c s).costing = s.costing ∧
    (failPart p c s).colour.cal = s.colour.cal ∧
    (failPart p c s).link.hold = s.link.hold ∧
    (failPart p c s).link.ret.countP Entry.isReply = s.link.ret.countP Entry.isReply := by
  unfold failPart
  simp

@[simp] theorem insertCut_frame (i : Item) (p : Option Nat) (r : Row) (c : CutStop) (s : State) :
    (insertCut i p r c s).1.now = s.now ∧
    (insertCut i p r c s).1.pending = s.pending ∧
    (insertCut i p r c s).1.out = s.out ∧
    (insertCut i p r c s).1.link = s.link ∧
    (insertCut i p r c s).1.tables = s.tables ∧
    (insertCut i p r c s).1.items = s.items ∧
    (insertCut i p r c s).1.path = s.path ∧
    (insertCut i p r c s).1.ink = s.ink ∧
    (insertCut i p r c s).1.cutter = s.cutter ∧
    (insertCut i p r c s).1.colour = s.colour ∧
    (insertCut i p r c s).1.costing = s.costing := by
  unfold insertCut
  (repeat' split) <;> simp

@[simp] theorem addGutter_frame (u b r : Nat) (s : State) :
    (addGutter u b r s).now = s.now ∧
    (addGutter u b r s).pending = s.pending ∧
    (addGutter u b r s).out = s.out ∧
    (addGutter u b r s).link = s.link ∧
    (addGutter u b r s).tables = s.tables ∧
    (addGutter u b r s).items = s.items ∧
    (addGutter u b r s).ink = s.ink ∧
    (addGutter u b r s).media = s.media ∧
    (addGutter u b r s).cutter = s.cutter ∧
    (addGutter u b r s).colour = s.colour ∧
    (addGutter u b r s).costing = s.costing := by
  unfold addGutter
  simp

@[simp] theorem closePanel_frame (u : Nat) (l : Bool) (t : Option Time) (s : State) :
    (closePanel u l t s).now = s.now ∧
    (closePanel u l t s).pending = s.pending ∧
    (closePanel u l t s).out = s.out ∧
    (closePanel u l t s).tables = s.tables ∧
    (closePanel u l t s).ink = s.ink ∧
    (closePanel u l t s).cutter = s.cutter ∧
    (closePanel u l t s).colour = s.colour ∧
    (closePanel u l t s).costing = s.costing ∧
    (closePanel u l t s).link.hold = s.link.hold ∧
    (closePanel u l t s).link.ret.countP Entry.isReply = s.link.ret.countP Entry.isReply := by
  unfold closePanel
  dsimp only
  (repeat' split) <;> simp

/-- R56: an abort feed goes behind the waiting ones up to the first whose owner was aborted after its own. -/
theorem insertAbort_spec (s : State) (o : Op) (l : List Op) :
    ∃ older younger, l = older ++ younger ∧ insertAbort s o l = older ++ o :: younger ∧
      (∀ w ∈ older, w.abortOrder s ≤ o.abortOrder s) ∧ ∀ w ∈ younger.head?, o.abortOrder s < w.abortOrder s := by
  induction l with
  | nil => exact ⟨[], [], rfl, rfl, by simp, by simp⟩
  | cons w rest ih =>
    unfold insertAbort
    split
    · exact ⟨[], w :: rest, rfl, rfl, by simp, by simpa⟩
    · obtain ⟨older, younger, rfl, h, ho, hy⟩ := ih
      exact ⟨w :: older, younger, rfl, by rw [h]; rfl, by simp_all, hy⟩

/-- R56: the number of a new abort is above that of every live item. -/
theorem abortOrder_lt_nextAbort (s : State) (i : Item) (h : i ∈ s.items.live) : i.abortOrder < nextAbort s := by
  have key (l : List Nat) : ∀ m, m ≤ l.foldl max m ∧ ∀ n ∈ l, n ≤ l.foldl max m := by
    induction l with
    | nil => simp
    | cons a l ih =>
      intro m
      obtain ⟨h1, h2⟩ := ih (max m a)
      refine ⟨by simp only [List.foldl_cons]; omega, fun n hn => ?_⟩
      rcases List.mem_cons.mp hn with rfl | hn
      · simp only [List.foldl_cons]; omega
      · exact h2 n hn
  exact Nat.lt_succ_of_le ((key _ 0).2 _ (List.mem_map_of_mem h))

@[simp] theorem joinAbortFeed_frame (u r : Nat) (s : State) :
    (joinAbortFeed u r s).now = s.now ∧
    (joinAbortFeed u r s).pending = s.pending ∧
    (joinAbortFeed u r s).out = s.out ∧
    (joinAbortFeed u r s).link = s.link ∧
    (joinAbortFeed u r s).tables = s.tables ∧
    (joinAbortFeed u r s).ink = s.ink ∧
    (joinAbortFeed u r s).media = s.media ∧
    (joinAbortFeed u r s).cutter = s.cutter ∧
    (joinAbortFeed u r s).colour = s.colour ∧
    (joinAbortFeed u r s).costing = s.costing := by
  unfold joinAbortFeed
  dsimp only
  (repeat' split) <;> simp

@[simp] theorem dropBand_frame (n : Nat) (s : State) :
    (dropBand n s).now = s.now ∧
    (dropBand n s).pending = s.pending ∧
    (dropBand n s).out = s.out ∧
    (dropBand n s).link = s.link ∧
    (dropBand n s).tables = s.tables ∧
    (dropBand n s).items = s.items ∧
    (dropBand n s).ink = s.ink ∧
    (dropBand n s).media = s.media ∧
    (dropBand n s).cutter = s.cutter ∧
    (dropBand n s).colour = s.colour ∧
    (dropBand n s).costing = s.costing := by
  unfold dropBand
  simp

@[simp] theorem discardBand_frame (b : Band) (s : State) :
    (discardBand b s).now = s.now ∧
    (discardBand b s).pending = s.pending ∧
    (discardBand b s).out = s.out ∧
    (discardBand b s).tables = s.tables ∧
    (discardBand b s).media = s.media ∧
    (discardBand b s).cutter = s.cutter ∧
    (discardBand b s).costing = s.costing ∧
    (discardBand b s).colour.cal = s.colour.cal ∧
    (discardBand b s).link.hold = s.link.hold ∧
    (discardBand b s).link.ret.countP Entry.isReply = s.link.ret.countP Entry.isReply := by
  unfold discardBand
  dsimp only
  (repeat' split) <;> simp

@[simp] theorem discardBands_frame (l : List Band) (s : State) :
    (discardBands l s).1.now = s.now ∧
    (discardBands l s).1.pending = s.pending ∧
    (discardBands l s).1.out = s.out ∧
    (discardBands l s).1.tables = s.tables ∧
    (discardBands l s).1.media = s.media ∧
    (discardBands l s).1.cutter = s.cutter ∧
    (discardBands l s).1.costing = s.costing ∧
    (discardBands l s).1.colour.cal = s.colour.cal ∧
    (discardBands l s).1.link.hold = s.link.hold ∧
    (discardBands l s).1.link.ret.countP Entry.isReply = s.link.ret.countP Entry.isReply := by
  induction l generalizing s with
  | nil => simp [discardBands]
  | cons a l ih => simp [discardBands, ih]

@[simp] theorem dropMeasures_frame (u : Nat) (s : State) :
    (dropMeasures u s).now = s.now ∧
    (dropMeasures u s).pending = s.pending ∧
    (dropMeasures u s).tables = s.tables ∧
    (dropMeasures u s).ink = s.ink ∧
    (dropMeasures u s).costing = s.costing ∧
    (dropMeasures u s).colour.cal = s.colour.cal ∧
    (dropMeasures u s).link.hold = s.link.hold ∧
    (dropMeasures u s).link.ret.countP Entry.isReply = s.link.ret.countP Entry.isReply := by
  unfold dropMeasures
  dsimp only
  (repeat' split) <;> simp

@[simp] theorem fixAbortTimes_frame (i : Item) (t : Time) (s : State) :
    (fixAbortTimes i t s).now = s.now ∧
    (fixAbortTimes i t s).pending = s.pending ∧
    (fixAbortTimes i t s).out = s.out ∧
    (fixAbortTimes i t s).link = s.link ∧
    (fixAbortTimes i t s).tables = s.tables ∧
    (fixAbortTimes i t s).items = s.items ∧
    (fixAbortTimes i t s).path = s.path ∧
    (fixAbortTimes i t s).ink = s.ink ∧
    (fixAbortTimes i t s).cutter = s.cutter ∧
    (fixAbortTimes i t s).colour = s.colour ∧
    (fixAbortTimes i t s).costing = s.costing := by
  unfold fixAbortTimes
  simp

@[simp] theorem closeAborted_frame (u : Nat) (t : Time) (s : State) :
    (closeAborted u t s).1.now = s.now ∧
    (closeAborted u t s).1.pending = s.pending ∧
    (closeAborted u t s).1.out = s.out ∧
    (closeAborted u t s).1.tables = s.tables ∧
    (closeAborted u t s).1.ink = s.ink ∧
    (closeAborted u t s).1.cutter = s.cutter ∧
    (closeAborted u t s).1.colour = s.colour ∧
    (closeAborted u t s).1.costing = s.costing ∧
    (closeAborted u t s).1.link.hold = s.link.hold ∧
    (closeAborted u t s).1.link.ret.countP Entry.isReply = s.link.ret.countP Entry.isReply := by
  unfold closeAborted
  (repeat' split) <;> simp

@[simp] theorem abortItem_frame (u : Nat) (c : AbortCause) (s : State) :
    (abortItem u c s).now = s.now ∧
    (abortItem u c s).pending = s.pending ∧
    (abortItem u c s).tables = s.tables ∧
    (abortItem u c s).colour.cal = s.colour.cal ∧
    (abortItem u c s).link.hold = s.link.hold ∧
    (abortItem u c s).link.ret.countP Entry.isReply = s.link.ret.countP Entry.isReply := by
  unfold abortItem
  (repeat' split) <;> simp

@[simp] theorem closePending_frame (u : Nat) (t : Time) (s : State) :
    (closePending u t s).now = s.now ∧
    (closePending u t s).pending = s.pending ∧
    (closePending u t s).out = s.out ∧
    (closePending u t s).tables = s.tables ∧
    (closePending u t s).ink = s.ink ∧
    (closePending u t s).cutter = s.cutter ∧
    (closePending u t s).colour.cal = s.colour.cal ∧
    (closePending u t s).link.hold = s.link.hold ∧
    (closePending u t s).link.ret.countP Entry.isReply = s.link.ret.countP Entry.isReply := by
  unfold closePending
  simp

@[simp] theorem settleAccounts_frame (b : Band) (e : Ending) (s : State) :
    (settleAccounts b e s).now = s.now ∧
    (settleAccounts b e s).pending = s.pending ∧
    (settleAccounts b e s).out = s.out ∧
    (settleAccounts b e s).link = s.link ∧
    (settleAccounts b e s).tables = s.tables ∧
    (settleAccounts b e s).items = s.items ∧
    (settleAccounts b e s).path = s.path ∧
    (settleAccounts b e s).media = s.media ∧
    (settleAccounts b e s).cutter = s.cutter ∧
    (settleAccounts b e s).colour = s.colour ∧
    (settleAccounts b e s).costing = s.costing := by
  unfold settleAccounts
  generalize b.held = l
  induction l generalizing s with
  | nil => simp
  | cons a l ih => simp only [List.foldl_cons, ih]; simp

@[simp] theorem settleBand_frame (b : Band) (e : Ending) (s : State) :
    (settleBand b e s).now = s.now ∧
    (settleBand b e s).pending = s.pending ∧
    (settleBand b e s).tables = s.tables ∧
    (settleBand b e s).cutter = s.cutter ∧
    (settleBand b e s).colour = s.colour ∧
    (settleBand b e s).costing = s.costing ∧
    (settleBand b e s).link.hold = s.link.hold ∧
    (settleBand b e s).link.ret.countP Entry.isReply = s.link.ret.countP Entry.isReply := by
  unfold settleBand
  simp

@[simp] theorem chargeFlush_frame (l : List (Chan × Nat)) (s : State) :
    (chargeFlush l s).now = s.now ∧
    (chargeFlush l s).pending = s.pending ∧
    (chargeFlush l s).out = s.out ∧
    (chargeFlush l s).link = s.link ∧
    (chargeFlush l s).tables = s.tables ∧
    (chargeFlush l s).path = s.path ∧
    (chargeFlush l s).ink = s.ink ∧
    (chargeFlush l s).media = s.media ∧
    (chargeFlush l s).cutter = s.cutter ∧
    (chargeFlush l s).colour = s.colour ∧
    (chargeFlush l s).costing = s.costing := by
  unfold chargeFlush
  (repeat' split) <;> simp

@[simp] theorem flushAccounts_frame (l : List (Chan × Nat)) (s : State) :
    (flushAccounts l s).now = s.now ∧
    (flushAccounts l s).pending = s.pending ∧
    (flushAccounts l s).out = s.out ∧
    (flushAccounts l s).link = s.link ∧
    (flushAccounts l s).tables = s.tables ∧
    (flushAccounts l s).items = s.items ∧
    (flushAccounts l s).path = s.path ∧
    (flushAccounts l s).media = s.media ∧
    (flushAccounts l s).cutter = s.cutter ∧
    (flushAccounts l s).colour = s.colour ∧
    (flushAccounts l s).costing = s.costing := by
  unfold flushAccounts
  induction l generalizing s with
  | nil => simp
  | cons a l ih => simp only [List.foldl_cons, ih]; simp

@[simp] theorem spendClean_frame (l : List (Chan × Nat)) (s : State) :
    (spendClean l s).now = s.now ∧
    (spendClean l s).pending = s.pending ∧
    (spendClean l s).tables = s.tables ∧
    (spendClean l s).path = s.path ∧
    (spendClean l s).media = s.media ∧
    (spendClean l s).cutter = s.cutter ∧
    (spendClean l s).colour = s.colour ∧
    (spendClean l s).costing = s.costing ∧
    (spendClean l s).link.hold = s.link.hold ∧
    (spendClean l s).link.ret.countP Entry.isReply = s.link.ret.countP Entry.isReply := by
  unfold spendClean
  simp

@[simp] theorem queueRunOut_frame (s : State) :
    (queueRunOut s).now = s.now ∧
    (queueRunOut s).pending = s.pending ∧
    (queueRunOut s).out = s.out ∧
    (queueRunOut s).link = s.link ∧
    (queueRunOut s).tables = s.tables ∧
    (queueRunOut s).ink = s.ink ∧
    (queueRunOut s).cutter = s.cutter ∧
    (queueRunOut s).colour = s.colour ∧
    (queueRunOut s).costing = s.costing := by
  unfold queueRunOut
  (repeat' split) <;> simp

@[simp] theorem completeWork_frame (w : FlightWork) (e : Ending) (s : State) :
    (completeWork w e s).now = s.now ∧
    (completeWork w e s).pending = s.pending ∧
    (completeWork w e s).tables = s.tables ∧
    (completeWork w e s).cutter = s.cutter ∧
    (completeWork w e s).costing = s.costing ∧
    (completeWork w e s).link.hold = s.link.hold ∧
    (completeWork w e s).link.ret.countP Entry.isReply = s.link.ret.countP Entry.isReply := by
  unfold completeWork
  (repeat' split) <;> simp

@[simp] theorem queueRemainder_frame (s : State) :
    (queueRemainder s).now = s.now ∧
    (queueRemainder s).pending = s.pending ∧
    (queueRemainder s).out = s.out ∧
    (queueRemainder s).link = s.link ∧
    (queueRemainder s).tables = s.tables ∧
    (queueRemainder s).items = s.items ∧
    (queueRemainder s).ink = s.ink ∧
    (queueRemainder s).cutter = s.cutter ∧
    (queueRemainder s).colour = s.colour ∧
    (queueRemainder s).costing = s.costing := by
  unfold queueRemainder
  (repeat' split) <;> simp

@[simp] theorem endMove_frame (f : Flight) (e : Ending) (s : State) :
    (endMove f e s).now = s.now ∧
    (endMove f e s).pending = s.pending ∧
    (endMove f e s).out = s.out ∧
    (endMove f e s).tables = s.tables ∧
    (endMove f e s).ink = s.ink ∧
    (endMove f e s).cutter = s.cutter ∧
    (endMove f e s).colour = s.colour ∧
    (endMove f e s).costing = s.costing ∧
    (endMove f e s).link.hold = s.link.hold ∧
    (endMove f e s).link.ret.countP Entry.isReply = s.link.ret.countP Entry.isReply := by
  unfold endMove
  dsimp only
  (repeat' split) <;> simp

@[simp] theorem endAbortFeed_frame (w : FlightWork) (s : State) :
    (endAbortFeed w s).now = s.now ∧
    (endAbortFeed w s).pending = s.pending ∧
    (endAbortFeed w s).out = s.out ∧
    (endAbortFeed w s).link = s.link ∧
    (endAbortFeed w s).tables = s.tables ∧
    (endAbortFeed w s).path = s.path ∧
    (endAbortFeed w s).ink = s.ink ∧
    (endAbortFeed w s).media = s.media ∧
    (endAbortFeed w s).cutter = s.cutter ∧
    (endAbortFeed w s).colour = s.colour ∧
    (endAbortFeed w s).costing = s.costing := by
  unfold endAbortFeed
  (repeat' split) <;> simp

@[simp] theorem linkIdle_frame (s : State) :
    (linkIdle s).now = s.now ∧
    (linkIdle s).pending = s.pending ∧
    (linkIdle s).out = s.out ∧
    (linkIdle s).link = s.link ∧
    (linkIdle s).tables = s.tables ∧
    (linkIdle s).items = s.items ∧
    (linkIdle s).ink = s.ink ∧
    (linkIdle s).media = s.media ∧
    (linkIdle s).cutter = s.cutter ∧
    (linkIdle s).colour = s.colour ∧
    (linkIdle s).costing = s.costing := by
  unfold linkIdle
  simp

@[simp] theorem endFlight_frame (f : Flight) (e : Ending) (s : State) :
    (endFlight f e s).now = s.now ∧
    (endFlight f e s).pending = s.pending ∧
    (endFlight f e s).tables = s.tables ∧
    (endFlight f e s).cutter = s.cutter ∧
    (endFlight f e s).link.hold = s.link.hold ∧
    (endFlight f e s).link.ret.countP Entry.isReply = s.link.ret.countP Entry.isReply := by
  unfold endFlight
  dsimp only
  (repeat' split) <;> simp

@[simp] theorem finishDone_frame (f : Flight) (s : State) :
    (finishDone f s).now = s.now ∧
    (finishDone f s).pending = s.pending ∧
    (finishDone f s).tables = s.tables ∧
    (finishDone f s).cutter = s.cutter ∧
    (finishDone f s).link.hold = s.link.hold ∧
    (finishDone f s).link.ret.countP Entry.isReply = s.link.ret.countP Entry.isReply := by
  unfold finishDone
  dsimp only
  (repeat' split) <;> simp

@[simp] theorem finishAborted_frame (f : Flight) (d : Nat) (s : State) :
    (finishAborted f d s).now = s.now ∧
    (finishAborted f d s).pending = s.pending ∧
    (finishAborted f d s).tables = s.tables ∧
    (finishAborted f d s).link.hold = s.link.hold ∧
    (finishAborted f d s).link.ret.countP Entry.isReply = s.link.ret.countP Entry.isReply := by
  unfold finishAborted
  simp

@[simp] theorem headFault_frame (c : FaultCause) (s : State) :
    (headFault c s).now = s.now ∧
    (headFault c s).pending = s.pending ∧
    (headFault c s).tables = s.tables ∧
    (headFault c s).link.hold = s.link.hold ∧
    (headFault c s).link.ret.countP Entry.isReply = s.link.ret.countP Entry.isReply := by
  unfold headFault
  dsimp only
  (repeat' split) <;> simp

@[simp] theorem handOver_frame (w : FlightWork) (n : Nat) (l : List PausePoint) (s : State) :
    (handOver w n l s).now = s.now ∧
    (handOver w n l s).pending = s.pending ∧
    (handOver w n l s).link = s.link ∧
    (handOver w n l s).tables = s.tables ∧
    (handOver w n l s).items = s.items ∧
    (handOver w n l s).ink = s.ink ∧
    (handOver w n l s).media = s.media ∧
    (handOver w n l s).cutter = s.cutter ∧
    (handOver w n l s).colour = s.colour ∧
    (handOver w n l s).costing = s.costing := by
  unfold handOver
  simp

@[simp] theorem startMove_frame (o : Option Op) (s : State) :
    (startMove o s).now = s.now ∧
    (startMove o s).pending = s.pending ∧
    (startMove o s).out = s.out ∧
    (startMove o s).link = s.link ∧
    (startMove o s).tables = s.tables ∧
    (startMove o s).items = s.items ∧
    (startMove o s).path = s.path ∧
    (startMove o s).ink = s.ink ∧
    (startMove o s).cutter = s.cutter ∧
    (startMove o s).colour = s.colour ∧
    (startMove o s).costing = s.costing := by
  unfold startMove
  simp

@[simp] theorem offerBand_frame (b : Band) (s : State) :
    (offerBand b s).now = s.now ∧
    (offerBand b s).pending = s.pending ∧
    (offerBand b s).link = s.link ∧
    (offerBand b s).tables = s.tables ∧
    (offerBand b s).items = s.items ∧
    (offerBand b s).ink = s.ink ∧
    (offerBand b s).cutter = s.cutter ∧
    (offerBand b s).colour = s.colour ∧
    (offerBand b s).costing = s.costing := by
  unfold offerBand
  simp

@[simp] theorem offerOp_frame (o : Op) (s : State) :
    (offerOp o s).now = s.now ∧
    (offerOp o s).pending = s.pending ∧
    (offerOp o s).link = s.link ∧
    (offerOp o s).tables = s.tables ∧
    (offerOp o s).items = s.items ∧
    (offerOp o s).ink = s.ink ∧
    (offerOp o s).cutter = s.cutter ∧
    (offerOp o s).colour = s.colour ∧
    (offerOp o s).costing = s.costing := by
  unfold offerOp
  (repeat' split) <;> simp

@[simp] theorem offerVerify_frame (p : Part) (s : State) :
    (offerVerify p s).now = s.now ∧
    (offerVerify p s).pending = s.pending ∧
    (offerVerify p s).link = s.link ∧
    (offerVerify p s).tables = s.tables ∧
    (offerVerify p s).items = s.items ∧
    (offerVerify p s).ink = s.ink ∧
    (offerVerify p s).media = s.media ∧
    (offerVerify p s).cutter = s.cutter ∧
    (offerVerify p s).costing = s.costing ∧
    (offerVerify p s).colour.cal = s.colour.cal := by
  unfold offerVerify
  simp

@[simp] theorem offerQueued_frame (s : State) :
    (offerQueued s).now = s.now ∧
    (offerQueued s).pending = s.pending ∧
    (offerQueued s).link = s.link ∧
    (offerQueued s).tables = s.tables ∧
    (offerQueued s).items = s.items ∧
    (offerQueued s).ink = s.ink ∧
    (offerQueued s).cutter = s.cutter ∧
    (offerQueued s).colour = s.colour ∧
    (offerQueued s).costing = s.costing := by
  unfold offerQueued
  (repeat' split) <;> simp

@[simp] theorem arbitrate_frame (s : State) :
    (arbitrate s).now = s.now ∧
    (arbitrate s).pending = s.pending ∧
    (arbitrate s).link = s.link ∧
    (arbitrate s).tables = s.tables ∧
    (arbitrate s).items = s.items ∧
    (arbitrate s).ink = s.ink ∧
    (arbitrate s).cutter = s.cutter ∧
    (arbitrate s).costing = s.costing ∧
    (arbitrate s).colour.cal = s.colour.cal := by
  unfold arbitrate
  (repeat' split) <;> simp

@[simp] theorem offerAgain_frame (f : Flight) (n : Nat) (s : State) :
    (offerAgain f n s).now = s.now ∧
    (offerAgain f n s).pending = s.pending ∧
    (offerAgain f n s).tables = s.tables ∧
    (offerAgain f n s).link.hold = s.link.hold ∧
    (offerAgain f n s).link.ret.countP Entry.isReply = s.link.ret.countP Entry.isReply := by
  unfold offerAgain
  (repeat' split) <;> simp

@[simp] theorem dispatchStop_frame (u : Nat) (s : State) :
    (dispatchStop u s).now = s.now ∧
    (dispatchStop u s).pending = s.pending ∧
    (dispatchStop u s).tables = s.tables ∧
    (dispatchStop u s).items = s.items ∧
    (dispatchStop u s).ink = s.ink ∧
    (dispatchStop u s).media = s.media ∧
    (dispatchStop u s).costing = s.costing ∧
    (dispatchStop u s).colour.cal = s.colour.cal ∧
    (dispatchStop u s).link.hold = s.link.hold ∧
    (dispatchStop u s).link.ret.countP Entry.isReply = s.link.ret.countP Entry.isReply := by
  unfold dispatchStop
  (repeat' split) <;> simp

@[simp] theorem pauseAt_frame (f : Flight) (n : Nat) (s : State) :
    (pauseAt f n s).now = s.now ∧
    (pauseAt f n s).pending = s.pending ∧
    (pauseAt f n s).tables = s.tables ∧
    (pauseAt f n s).link.hold = s.link.hold ∧
    (pauseAt f n s).link.ret.countP Entry.isReply = s.link.ret.countP Entry.isReply := by
  unfold pauseAt
  (repeat' split) <;> simp

@[simp] theorem placeStrip_frame (n : Nat) (t : Stop) (s : State) :
    (placeStrip n t s).now = s.now ∧
    (placeStrip n t s).pending = s.pending ∧
    (placeStrip n t s).out = s.out ∧
    (placeStrip n t s).link = s.link ∧
    (placeStrip n t s).tables = s.tables ∧
    (placeStrip n t s).items = s.items ∧
    (placeStrip n t s).ink = s.ink ∧
    (placeStrip n t s).cutter = s.cutter ∧
    (placeStrip n t s).colour = s.colour ∧
    (placeStrip n t s).costing = s.costing := by
  unfold placeStrip
  simp

@[simp] theorem handStrip_frame (b : Band) (s : State) :
    (handStrip b s).now = s.now ∧
    (handStrip b s).pending = s.pending ∧
    (handStrip b s).out = s.out ∧
    (handStrip b s).link = s.link ∧
    (handStrip b s).tables = s.tables ∧
    (handStrip b s).items = s.items ∧
    (handStrip b s).ink = s.ink ∧
    (handStrip b s).cutter = s.cutter ∧
    (handStrip b s).costing = s.costing ∧
    (handStrip b s).colour.cal = s.colour.cal := by
  unfold handStrip
  dsimp only
  (repeat' split) <;> simp

@[simp] theorem completeCount_frame (j : CountJob) (s : State) :
    (completeCount j s).now = s.now ∧
    (completeCount j s).pending = s.pending ∧
    (completeCount j s).out = s.out ∧
    (completeCount j s).tables = s.tables ∧
    (completeCount j s).cutter = s.cutter ∧
    (completeCount j s).colour.cal = s.colour.cal ∧
    (completeCount j s).link.hold = s.link.hold ∧
    (completeCount j s).link.ret.countP Entry.isReply = s.link.ret.countP Entry.isReply := by
  unfold completeCount
  dsimp only
  (repeat' split) <;> simp

@[simp] theorem settleAsker_frame (r : Request) (b : Bool) (s : State) :
    (settleAsker r b s).now = s.now ∧
    (settleAsker r b s).pending = s.pending ∧
    (settleAsker r b s).out = s.out ∧
    (settleAsker r b s).link = s.link ∧
    (settleAsker r b s).tables = s.tables ∧
    (settleAsker r b s).items = s.items ∧
    (settleAsker r b s).ink = s.ink ∧
    (settleAsker r b s).media = s.media ∧
    (settleAsker r b s).cutter = s.cutter ∧
    (settleAsker r b s).colour = s.colour ∧
    (settleAsker r b s).costing = s.costing := by
  unfold settleAsker
  (repeat' split) <;> simp

@[simp] theorem answerRequest_frame (r : Request) (s : State) :
    (answerRequest r s).now = s.now ∧
    (answerRequest r s).pending = s.pending ∧
    (answerRequest r s).out = s.out ∧
    (answerRequest r s).tables = s.tables ∧
    (answerRequest r s).items = s.items ∧
    (answerRequest r s).media = s.media ∧
    (answerRequest r s).cutter = s.cutter ∧
    (answerRequest r s).colour = s.colour ∧
    (answerRequest r s).costing = s.costing ∧
    (answerRequest r s).link.hold = s.link.hold ∧
    (answerRequest r s).link.ret.countP Entry.isReply = s.link.ret.countP Entry.isReply := by
  unfold answerRequest
  (repeat' split) <;> simp

@[simp] theorem enterQueue_frame (s : State) :
    (enterQueue s).now = s.now ∧
    (enterQueue s).pending = s.pending ∧
    (enterQueue s).out = s.out ∧
    (enterQueue s).link = s.link ∧
    (enterQueue s).tables = s.tables ∧
    (enterQueue s).ink = s.ink ∧
    (enterQueue s).media = s.media ∧
    (enterQueue s).cutter = s.cutter ∧
    (enterQueue s).colour = s.colour ∧
    (enterQueue s).costing = s.costing := by
  unfold enterQueue
  dsimp only
  (repeat' split) <;> simp

@[simp] theorem enterAbortFeed_frame (s : State) :
    (enterAbortFeed s).now = s.now ∧
    (enterAbortFeed s).pending = s.pending ∧
    (enterAbortFeed s).out = s.out ∧
    (enterAbortFeed s).link = s.link ∧
    (enterAbortFeed s).tables = s.tables ∧
    (enterAbortFeed s).items = s.items ∧
    (enterAbortFeed s).ink = s.ink ∧
    (enterAbortFeed s).media = s.media ∧
    (enterAbortFeed s).cutter = s.cutter ∧
    (enterAbortFeed s).colour = s.colour ∧
    (enterAbortFeed s).costing = s.costing := by
  unfold enterAbortFeed
  (repeat' split) <;> simp

@[simp] theorem commitContent_frame (c : Content) (s : State) :
    (commitContent c s).now = s.now ∧
    (commitContent c s).pending = s.pending ∧
    (commitContent c s).colour.cal = s.colour.cal ∧
    (commitContent c s).link.hold = s.link.hold ∧
    (commitContent c s).link.ret.countP Entry.isReply = s.link.ret.countP Entry.isReply := by
  unfold commitContent
  (repeat' split) <;> simp

@[simp] theorem tableBegin_frame (b : List Byte) (s : State) :
    (tableBegin b s).1.now = s.now ∧
    (tableBegin b s).1.pending = s.pending ∧
    (tableBegin b s).1.out = s.out ∧
    (tableBegin b s).1.link = s.link ∧
    (tableBegin b s).1.items = s.items ∧
    (tableBegin b s).1.path = s.path ∧
    (tableBegin b s).1.ink = s.ink ∧
    (tableBegin b s).1.media = s.media ∧
    (tableBegin b s).1.cutter = s.cutter ∧
    (tableBegin b s).1.colour = s.colour ∧
    (tableBegin b s).1.costing = s.costing := by
  unfold tableBegin
  (repeat' split) <;> simp

@[simp] theorem tablePart_frame (b : List Byte) (s : State) :
    (tablePart b s).1.now = s.now ∧
    (tablePart b s).1.pending = s.pending ∧
    (tablePart b s).1.out = s.out ∧
    (tablePart b s).1.link = s.link ∧
    (tablePart b s).1.items = s.items ∧
    (tablePart b s).1.path = s.path ∧
    (tablePart b s).1.ink = s.ink ∧
    (tablePart b s).1.media = s.media ∧
    (tablePart b s).1.cutter = s.cutter ∧
    (tablePart b s).1.colour = s.colour ∧
    (tablePart b s).1.costing = s.costing := by
  unfold tablePart
  (repeat' split) <;> simp

@[simp] theorem tableCommit_frame (b : List Byte) (s : State) :
    (tableCommit b s).1.now = s.now ∧
    (tableCommit b s).1.pending = s.pending ∧
    (tableCommit b s).1.colour.cal = s.colour.cal ∧
    (tableCommit b s).1.link.hold = s.link.hold ∧
    (tableCommit b s).1.link.ret.countP Entry.isReply = s.link.ret.countP Entry.isReply := by
  unfold tableCommit
  dsimp only
  (repeat' split) <;> simp

@[simp] theorem expireLock_frame (s : State) :
    (expireLock s).now = s.now ∧
    (expireLock s).pending = s.pending ∧
    (expireLock s).out = s.out ∧
    (expireLock s).items = s.items ∧
    (expireLock s).path = s.path ∧
    (expireLock s).ink = s.ink ∧
    (expireLock s).media = s.media ∧
    (expireLock s).cutter = s.cutter ∧
    (expireLock s).colour = s.colour ∧
    (expireLock s).costing = s.costing ∧
    (expireLock s).link.hold = s.link.hold ∧
    (expireLock s).link.ret.countP Entry.isReply = s.link.ret.countP Entry.isReply := by
  unfold expireLock
  (repeat' split) <;> simp

@[simp] theorem judgeJobOpen_frame (b : List Byte) (s : State) :
    (judgeJobOpen b s).1.now = s.now ∧
    (judgeJobOpen b s).1.pending = s.pending ∧
    (judgeJobOpen b s).1.out = s.out ∧
    (judgeJobOpen b s).1.link = s.link ∧
    (judgeJobOpen b s).1.tables = s.tables ∧
    (judgeJobOpen b s).1.path = s.path ∧
    (judgeJobOpen b s).1.ink = s.ink ∧
    (judgeJobOpen b s).1.media = s.media ∧
    (judgeJobOpen b s).1.cutter = s.cutter ∧
    (judgeJobOpen b s).1.colour = s.colour ∧
    (judgeJobOpen b s).1.costing = s.costing := by
  unfold judgeJobOpen
  (repeat' split) <;> simp

@[simp] theorem judgeJobClose_frame (b : List Byte) (s : State) :
    (judgeJobClose b s).1.now = s.now ∧
    (judgeJobClose b s).1.pending = s.pending ∧
    (judgeJobClose b s).1.out = s.out ∧
    (judgeJobClose b s).1.link = s.link ∧
    (judgeJobClose b s).1.tables = s.tables ∧
    (judgeJobClose b s).1.path = s.path ∧
    (judgeJobClose b s).1.ink = s.ink ∧
    (judgeJobClose b s).1.media = s.media ∧
    (judgeJobClose b s).1.cutter = s.cutter ∧
    (judgeJobClose b s).1.colour = s.colour := by
  unfold judgeJobClose
  (repeat' split) <;> simp

@[simp] theorem admitItem_frame (i : Item) (s : State) :
    (admitItem i s).now = s.now ∧
    (admitItem i s).pending = s.pending ∧
    (admitItem i s).out = s.out ∧
    (admitItem i s).link = s.link ∧
    (admitItem i s).tables = s.tables ∧
    (admitItem i s).path = s.path ∧
    (admitItem i s).ink = s.ink ∧
    (admitItem i s).cutter = s.cutter ∧
    (admitItem i s).colour = s.colour ∧
    (admitItem i s).costing = s.costing := by
  unfold admitItem
  simp

@[simp] theorem judgeItemOpen_frame (b : List Byte) (s : State) :
    (judgeItemOpen b s).1.now = s.now ∧
    (judgeItemOpen b s).1.pending = s.pending ∧
    (judgeItemOpen b s).1.out = s.out ∧
    (judgeItemOpen b s).1.link = s.link ∧
    (judgeItemOpen b s).1.tables = s.tables ∧
    (judgeItemOpen b s).1.path = s.path ∧
    (judgeItemOpen b s).1.ink = s.ink ∧
    (judgeItemOpen b s).1.cutter = s.cutter ∧
    (judgeItemOpen b s).1.costing = s.costing ∧
    (judgeItemOpen b s).1.colour.cal = s.colour.cal := by
  unfold judgeItemOpen
  dsimp only
  (repeat' split) <;> simp

@[simp] theorem closeItemTake_frame (i : Item) (s : State) :
    (closeItemTake i s).now = s.now ∧
    (closeItemTake i s).pending = s.pending ∧
    (closeItemTake i s).out = s.out ∧
    (closeItemTake i s).tables = s.tables ∧
    (closeItemTake i s).ink = s.ink ∧
    (closeItemTake i s).cutter = s.cutter ∧
    (closeItemTake i s).colour.cal = s.colour.cal ∧
    (closeItemTake i s).link.hold = s.link.hold ∧
    (closeItemTake i s).link.ret.countP Entry.isReply = s.link.ret.countP Entry.isReply := by
  unfold closeItemTake
  dsimp only
  (repeat' split) <;> simp

@[simp] theorem judgeItemClose_frame (b : List Byte) (s : State) :
    (judgeItemClose b s).1.now = s.now ∧
    (judgeItemClose b s).1.pending = s.pending ∧
    (judgeItemClose b s).1.out = s.out ∧
    (judgeItemClose b s).1.tables = s.tables ∧
    (judgeItemClose b s).1.ink = s.ink ∧
    (judgeItemClose b s).1.cutter = s.cutter ∧
    (judgeItemClose b s).1.colour.cal = s.colour.cal ∧
    (judgeItemClose b s).1.link.hold = s.link.hold ∧
    (judgeItemClose b s).1.link.ret.countP Entry.isReply = s.link.ret.countP Entry.isReply := by
  unfold judgeItemClose
  (repeat' split) <;> simp

@[simp] theorem extendReservation_frame (u : Nat) (s : State) :
    (extendReservation u s).now = s.now ∧
    (extendReservation u s).pending = s.pending ∧
    (extendReservation u s).out = s.out ∧
    (extendReservation u s).link = s.link ∧
    (extendReservation u s).tables = s.tables ∧
    (extendReservation u s).path = s.path ∧
    (extendReservation u s).ink = s.ink ∧
    (extendReservation u s).cutter = s.cutter ∧
    (extendReservation u s).colour = s.colour ∧
    (extendReservation u s).costing = s.costing := by
  unfold extendReservation
  simp

@[simp] theorem planLead_frame (i : Item) (s : State) :
    (planLead i s).now = s.now ∧
    (planLead i s).pending = s.pending ∧
    (planLead i s).out = s.out ∧
    (planLead i s).link = s.link ∧
    (planLead i s).tables = s.tables ∧
    (planLead i s).path = s.path ∧
    (planLead i s).ink = s.ink ∧
    (planLead i s).cutter = s.cutter ∧
    (planLead i s).colour = s.colour ∧
    (planLead i s).costing = s.costing := by
  unfold planLead
  dsimp only
  (repeat' split) <;> simp

@[simp] theorem acceptBand_frame (e : IntakeEntry) (b : BandBody) (m : Vector MapEntry 12) (i : Item) (s : State) :
    (acceptBand e b m i s).now = s.now ∧
    (acceptBand e b m i s).pending = s.pending ∧
    (acceptBand e b m i s).out = s.out ∧
    (acceptBand e b m i s).tables = s.tables ∧
    (acceptBand e b m i s).ink = s.ink ∧
    (acceptBand e b m i s).cutter = s.cutter ∧
    (acceptBand e b m i s).colour = s.colour ∧
    (acceptBand e b m i s).costing = s.costing ∧
    (acceptBand e b m i s).link.hold = s.link.hold ∧
    (acceptBand e b m i s).link.ret.countP Entry.isReply = s.link.ret.countP Entry.isReply := by
  unfold acceptBand
  dsimp only
  (repeat' split) <;> simp

@[simp] theorem ariseOp_frame (w : Work) (s : State) :
    (ariseOp w s).now = s.now ∧
    (ariseOp w s).pending = s.pending ∧
    (ariseOp w s).out = s.out ∧
    (ariseOp w s).link = s.link ∧
    (ariseOp w s).tables = s.tables ∧
    (ariseOp w s).items = s.items ∧
    (ariseOp w s).ink = s.ink ∧
    (ariseOp w s).media = s.media ∧
    (ariseOp w s).cutter = s.cutter ∧
    (ariseOp w s).colour = s.colour ∧
    (ariseOp w s).costing = s.costing := by
  unfold ariseOp
  simp

@[simp] theorem judgeClean_frame (b : List Byte) (s : State) :
    (judgeClean b s).1.now = s.now ∧
    (judgeClean b s).1.pending = s.pending ∧
    (judgeClean b s).1.out = s.out ∧
    (judgeClean b s).1.link = s.link ∧
    (judgeClean b s).1.tables = s.tables ∧
    (judgeClean b s).1.items = s.items ∧
    (judgeClean b s).1.ink = s.ink ∧
    (judgeClean b s).1.media = s.media ∧
    (judgeClean b s).1.cutter = s.cutter ∧
    (judgeClean b s).1.colour = s.colour ∧
    (judgeClean b s).1.costing = s.costing := by
  unfold judgeClean
  (repeat' split) <;> simp

@[simp] theorem judgeTableLoad_frame (b : List Byte) (s : State) :
    (judgeTableLoad b s).1.now = s.now ∧
    (judgeTableLoad b s).1.pending = s.pending ∧
    (judgeTableLoad b s).1.colour.cal = s.colour.cal ∧
    (judgeTableLoad b s).1.link.hold = s.link.hold ∧
    (judgeTableLoad b s).1.link.ret.countP Entry.isReply = s.link.ret.countP Entry.isReply := by
  unfold judgeTableLoad
  (repeat' split) <;> simp

@[simp] theorem halt_frame (b : List Byte) (s : State) :
    (halt b s).1.now = s.now ∧
    (halt b s).1.pending = s.pending ∧
    (halt b s).1.out = s.out ∧
    (halt b s).1.link = s.link ∧
    (halt b s).1.tables = s.tables ∧
    (halt b s).1.items = s.items ∧
    (halt b s).1.ink = s.ink ∧
    (halt b s).1.media = s.media ∧
    (halt b s).1.cutter = s.cutter ∧
    (halt b s).1.colour = s.colour ∧
    (halt b s).1.costing = s.costing := by
  unfold halt
  (repeat' split) <;> simp

@[simp] theorem resume_frame (b : List Byte) (s : State) :
    (resume b s).1.now = s.now ∧
    (resume b s).1.pending = s.pending ∧
    (resume b s).1.out = s.out ∧
    (resume b s).1.link = s.link ∧
    (resume b s).1.tables = s.tables ∧
    (resume b s).1.items = s.items ∧
    (resume b s).1.ink = s.ink ∧
    (resume b s).1.media = s.media ∧
    (resume b s).1.cutter = s.cutter ∧
    (resume b s).1.colour = s.colour ∧
    (resume b s).1.costing = s.costing := by
  unfold resume
  (repeat' split) <;> simp

@[simp] theorem itemAbort_frame (b : List Byte) (s : State) :
    (itemAbort b s).1.now = s.now ∧
    (itemAbort b s).1.pending = s.pending ∧
    (itemAbort b s).1.tables = s.tables ∧
    (itemAbort b s).1.colour.cal = s.colour.cal ∧
    (itemAbort b s).1.link.hold = s.link.hold ∧
    (itemAbort b s).1.link.ret.countP Entry.isReply = s.link.ret.countP Entry.isReply := by
  unfold itemAbort
  (repeat' split) <;> simp

@[simp] theorem releaseHoldOf_frame (u : Nat) (s : State) :
    (releaseHoldOf u s).now = s.now ∧
    (releaseHoldOf u s).pending = s.pending ∧
    (releaseHoldOf u s).out = s.out ∧
    (releaseHoldOf u s).tables = s.tables ∧
    (releaseHoldOf u s).path = s.path ∧
    (releaseHoldOf u s).ink = s.ink ∧
    (releaseHoldOf u s).cutter = s.cutter ∧
    (releaseHoldOf u s).colour.cal = s.colour.cal ∧
    (releaseHoldOf u s).link.hold = s.link.hold ∧
    (releaseHoldOf u s).link.ret.countP Entry.isReply = s.link.ret.countP Entry.isReply := by
  unfold releaseHoldOf
  simp

@[simp] theorem holdRelease_frame (b : List Byte) (s : State) :
    (holdRelease b s).1.now = s.now ∧
    (holdRelease b s).1.pending = s.pending ∧
    (holdRelease b s).1.tables = s.tables ∧
    (holdRelease b s).1.colour.cal = s.colour.cal ∧
    (holdRelease b s).1.link.hold = s.link.hold ∧
    (holdRelease b s).1.link.ret.countP Entry.isReply = s.link.ret.countP Entry.isReply := by
  unfold holdRelease
  (repeat' split) <;> simp

@[simp] theorem dropEveryStop_frame (s : State) :
    (dropEveryStop s).now = s.now ∧
    (dropEveryStop s).pending = s.pending ∧
    (dropEveryStop s).out = s.out ∧
    (dropEveryStop s).tables = s.tables ∧
    (dropEveryStop s).path = s.path ∧
    (dropEveryStop s).ink = s.ink ∧
    (dropEveryStop s).colour.cal = s.colour.cal ∧
    (dropEveryStop s).link.hold = s.link.hold ∧
    (dropEveryStop s).link.ret.countP Entry.isReply = s.link.ret.countP Entry.isReply := by
  unfold dropEveryStop
  dsimp only
  (repeat' split) <;> simp

@[simp] theorem replaceRoll_frame (p : MediaProfile) (n : Nat) (s : State) :
    (replaceRoll p n s).now = s.now ∧
    (replaceRoll p n s).pending = s.pending ∧
    (replaceRoll p n s).out = s.out ∧
    (replaceRoll p n s).tables = s.tables ∧
    (replaceRoll p n s).path = s.path ∧
    (replaceRoll p n s).ink = s.ink ∧
    (replaceRoll p n s).colour.cal = s.colour.cal ∧
    (replaceRoll p n s).link.hold = s.link.hold ∧
    (replaceRoll p n s).link.ret.countP Entry.isReply = s.link.ret.countP Entry.isReply := by
  unfold replaceRoll
  simp

@[simp] theorem rollLoad_frame (b : List Byte) (s : State) :
    (rollLoad b s).1.now = s.now ∧
    (rollLoad b s).1.pending = s.pending ∧
    (rollLoad b s).1.out = s.out ∧
    (rollLoad b s).1.tables = s.tables ∧
    (rollLoad b s).1.path = s.path ∧
    (rollLoad b s).1.ink = s.ink ∧
    (rollLoad b s).1.colour.cal = s.colour.cal ∧
    (rollLoad b s).1.link.hold = s.link.hold ∧
    (rollLoad b s).1.link.ret.countP Entry.isReply = s.link.ret.countP Entry.isReply := by
  unfold rollLoad
  (repeat' split) <;> simp

@[simp] theorem sensorVerify_frame (b : List Byte) (s : State) :
    (sensorVerify b s).1.now = s.now ∧
    (sensorVerify b s).1.pending = s.pending ∧
    (sensorVerify b s).1.out = s.out ∧
    (sensorVerify b s).1.link = s.link ∧
    (sensorVerify b s).1.tables = s.tables ∧
    (sensorVerify b s).1.items = s.items ∧
    (sensorVerify b s).1.path = s.path ∧
    (sensorVerify b s).1.ink = s.ink ∧
    (sensorVerify b s).1.media = s.media ∧
    (sensorVerify b s).1.cutter = s.cutter ∧
    (sensorVerify b s).1.costing = s.costing ∧
    (sensorVerify b s).1.colour.cal = s.colour.cal := by
  unfold sensorVerify
  dsimp only
  (repeat' split) <;> simp

@[simp] theorem verifyClear_frame (b : List Byte) (s : State) :
    (verifyClear b s).1.now = s.now ∧
    (verifyClear b s).1.pending = s.pending ∧
    (verifyClear b s).1.out = s.out ∧
    (verifyClear b s).1.tables = s.tables ∧
    (verifyClear b s).1.items = s.items ∧
    (verifyClear b s).1.path = s.path ∧
    (verifyClear b s).1.ink = s.ink ∧
    (verifyClear b s).1.media = s.media ∧
    (verifyClear b s).1.cutter = s.cutter ∧
    (verifyClear b s).1.costing = s.costing ∧
    (verifyClear b s).1.colour.cal = s.colour.cal ∧
    (verifyClear b s).1.link.hold = s.link.hold ∧
    (verifyClear b s).1.link.ret.countP Entry.isReply = s.link.ret.countP Entry.isReply := by
  unfold verifyClear
  (repeat' split) <;> simp

@[simp] theorem editionReset_frame (b : List Byte) (s : State) :
    (editionReset b s).1.now = s.now ∧
    (editionReset b s).1.pending = s.pending ∧
    (editionReset b s).1.out = s.out ∧
    (editionReset b s).1.link = s.link ∧
    (editionReset b s).1.tables = s.tables ∧
    (editionReset b s).1.items = s.items ∧
    (editionReset b s).1.path = s.path ∧
    (editionReset b s).1.ink = s.ink ∧
    (editionReset b s).1.media = s.media ∧
    (editionReset b s).1.cutter = s.cutter ∧
    (editionReset b s).1.costing = s.costing ∧
    (editionReset b s).1.colour.cal = s.colour.cal := by
  unfold editionReset
  (repeat' split) <;> simp

@[simp] theorem cutterClear_frame (b : List Byte) (s : State) :
    (cutterClear b s).1.now = s.now ∧
    (cutterClear b s).1.pending = s.pending ∧
    (cutterClear b s).1.out = s.out ∧
    (cutterClear b s).1.tables = s.tables ∧
    (cutterClear b s).1.items = s.items ∧
    (cutterClear b s).1.path = s.path ∧
    (cutterClear b s).1.ink = s.ink ∧
    (cutterClear b s).1.media = s.media ∧
    (cutterClear b s).1.colour = s.colour ∧
    (cutterClear b s).1.costing = s.costing ∧
    (cutterClear b s).1.link.hold = s.link.hold ∧
    (cutterClear b s).1.link.ret.countP Entry.isReply = s.link.ret.countP Entry.isReply := by
  unfold cutterClear
  dsimp only
  (repeat' split) <;> simp

@[simp] theorem dumpRecord_frame (n : Nat) (s : State) :
    (dumpRecord s n).now = s.now ∧
    (dumpRecord s n).pending = s.pending ∧
    (dumpRecord s n).out = s.out ∧
    (dumpRecord s n).tables = s.tables ∧
    (dumpRecord s n).items = s.items ∧
    (dumpRecord s n).path = s.path ∧
    (dumpRecord s n).ink = s.ink ∧
    (dumpRecord s n).media = s.media ∧
    (dumpRecord s n).cutter = s.cutter ∧
    (dumpRecord s n).colour = s.colour ∧
    (dumpRecord s n).costing = s.costing ∧
    (dumpRecord s n).link.hold = s.link.hold ∧
    (dumpRecord s n).link.ret.countP Entry.isReply = s.link.ret.countP Entry.isReply := by
  unfold dumpRecord
  (repeat' split) <;> simp

@[simp] theorem clearCounters_frame (s : State) :
    (clearCounters s).now = s.now ∧
    (clearCounters s).pending = s.pending ∧
    (clearCounters s).out = s.out ∧
    (clearCounters s).link = s.link ∧
    (clearCounters s).tables = s.tables ∧
    (clearCounters s).items = s.items ∧
    (clearCounters s).path = s.path ∧
    (clearCounters s).colour = s.colour ∧
    (clearCounters s).costing = s.costing := by
  unfold clearCounters
  simp

@[simp] theorem abortOpenJob_frame (s : State) :
    (abortOpenJob s).now = s.now ∧
    (abortOpenJob s).pending = s.pending ∧
    (abortOpenJob s).out = s.out ∧
    (abortOpenJob s).link = s.link ∧
    (abortOpenJob s).tables = s.tables ∧
    (abortOpenJob s).path = s.path ∧
    (abortOpenJob s).ink = s.ink ∧
    (abortOpenJob s).media = s.media ∧
    (abortOpenJob s).cutter = s.cutter ∧
    (abortOpenJob s).colour = s.colour := by
  unfold abortOpenJob
  (repeat' split) <;> simp

@[simp] theorem abortOpenItem_frame (s : State) :
    (abortOpenItem s).now = s.now ∧
    (abortOpenItem s).pending = s.pending ∧
    (abortOpenItem s).tables = s.tables ∧
    (abortOpenItem s).colour.cal = s.colour.cal ∧
    (abortOpenItem s).link.hold = s.link.hold ∧
    (abortOpenItem s).link.ret.countP Entry.isReply = s.link.ret.countP Entry.isReply := by
  unfold abortOpenItem
  (repeat' split) <;> simp

@[simp] theorem spendRow_frame (s : State) :
    (spendRow s).now = s.now ∧
    (spendRow s).pending = s.pending ∧
    (spendRow s).out = s.out ∧
    (spendRow s).tables = s.tables ∧
    (spendRow s).items = s.items ∧
    (spendRow s).path = s.path ∧
    (spendRow s).ink = s.ink ∧
    (spendRow s).cutter = s.cutter ∧
    (spendRow s).colour = s.colour ∧
    (spendRow s).costing = s.costing ∧
    (spendRow s).link.hold = s.link.hold ∧
    (spendRow s).link.ret.countP Entry.isReply = s.link.ret.countP Entry.isReply := by
  unfold spendRow
  dsimp only
  (repeat' split) <;> simp

@[simp] theorem spendReservation_frame (s : State) :
    (spendReservation s).now = s.now ∧
    (spendReservation s).pending = s.pending ∧
    (spendReservation s).out = s.out ∧
    (spendReservation s).link = s.link ∧
    (spendReservation s).tables = s.tables ∧
    (spendReservation s).path = s.path ∧
    (spendReservation s).ink = s.ink ∧
    (spendReservation s).cutter = s.cutter ∧
    (spendReservation s).colour = s.colour ∧
    (spendReservation s).costing = s.costing := by
  unfold spendReservation
  (repeat' split) <;> simp

@[simp] theorem strayRow_frame (s : State) :
    (strayRow s).now = s.now ∧
    (strayRow s).pending = s.pending ∧
    (strayRow s).out = s.out ∧
    (strayRow s).tables = s.tables ∧
    (strayRow s).ink = s.ink ∧
    (strayRow s).cutter = s.cutter ∧
    (strayRow s).colour = s.colour ∧
    (strayRow s).costing = s.costing ∧
    (strayRow s).link.hold = s.link.hold ∧
    (strayRow s).link.ret.countP Entry.isReply = s.link.ret.countP Entry.isReply := by
  unfold strayRow
  dsimp only
  (repeat' split) <;> simp

@[simp] theorem feedRow_frame (s : State) :
    (feedRow s).now = s.now ∧
    (feedRow s).pending = s.pending ∧
    (feedRow s).out = s.out ∧
    (feedRow s).tables = s.tables ∧
    (feedRow s).ink = s.ink ∧
    (feedRow s).cutter = s.cutter ∧
    (feedRow s).colour = s.colour ∧
    (feedRow s).costing = s.costing ∧
    (feedRow s).link.hold = s.link.hold ∧
    (feedRow s).link.ret.countP Entry.isReply = s.link.ret.countP Entry.isReply := by
  unfold feedRow
  dsimp only
  (repeat' split) <;> simp

@[simp] theorem feedRows_frame (n : Nat) (s : State) :
    (feedRows n s).now = s.now ∧
    (feedRows n s).pending = s.pending ∧
    (feedRows n s).out = s.out ∧
    (feedRows n s).tables = s.tables ∧
    (feedRows n s).ink = s.ink ∧
    (feedRows n s).cutter = s.cutter ∧
    (feedRows n s).colour = s.colour ∧
    (feedRows n s).costing = s.costing ∧
    (feedRows n s).link.hold = s.link.hold ∧
    (feedRows n s).link.ret.countP Entry.isReply = s.link.ret.countP Entry.isReply := by
  induction n generalizing s with
  | zero => simp [feedRows]
  | succ n ih =>
    unfold feedRows
    simp [ih]

@[simp] theorem takeEdge_frame (s : State) :
    (takeEdge s).now = s.now ∧
    (takeEdge s).pending = s.pending ∧
    (takeEdge s).out = s.out ∧
    (takeEdge s).tables = s.tables ∧
    (takeEdge s).ink = s.ink ∧
    (takeEdge s).colour = s.colour ∧
    (takeEdge s).costing = s.costing ∧
    (takeEdge s).link.hold = s.link.hold ∧
    (takeEdge s).link.ret.countP Entry.isReply = s.link.ret.countP Entry.isReply := by
  unfold takeEdge
  simp

@[simp] theorem releaseCosting_frame (s : State) :
    (releaseCosting s).now = s.now ∧
    (releaseCosting s).pending = s.pending ∧
    (releaseCosting s).out = s.out ∧
    (releaseCosting s).link = s.link ∧
    (releaseCosting s).tables = s.tables ∧
    (releaseCosting s).path = s.path ∧
    (releaseCosting s).ink = s.ink ∧
    (releaseCosting s).cutter = s.cutter ∧
    (releaseCosting s).colour = s.colour ∧
    (releaseCosting s).costing = s.costing := by
  unfold releaseCosting
  generalize s.items.live.filter _ = l
  induction l generalizing s with
  | nil => simp
  | cons a l ih => simp only [List.foldl_cons, ih]; simp

@[simp] theorem abortYoungest_frame (n : Nat) (s : State) :
    (abortYoungest n s).1.now = s.now ∧
    (abortYoungest n s).1.pending = s.pending ∧
    (abortYoungest n s).1.tables = s.tables ∧
    (abortYoungest n s).1.colour.cal = s.colour.cal ∧
    (abortYoungest n s).1.link.hold = s.link.hold ∧
    (abortYoungest n s).1.link.ret.countP Entry.isReply = s.link.ret.countP Entry.isReply := by
  induction n generalizing s with
  | zero => simp [abortYoungest]
  | succ n ih =>
    unfold abortYoungest
    (repeat' split) <;> simp [ih]

@[simp] theorem rollEnd_frame (s : State) :
    (rollEnd s).now = s.now ∧
    (rollEnd s).pending = s.pending ∧
    (rollEnd s).tables = s.tables ∧
    (rollEnd s).colour.cal = s.colour.cal ∧
    (rollEnd s).link.hold = s.link.hold ∧
    (rollEnd s).link.ret.countP Entry.isReply = s.link.ret.countP Entry.isReply := by
  unfold rollEnd
  dsimp only
  (repeat' split) <;> simp

@[simp] theorem assertRollEnd_frame (s : State) :
    (assertRollEnd s).now = s.now ∧
    (assertRollEnd s).pending = s.pending ∧
    (assertRollEnd s).tables = s.tables ∧
    (assertRollEnd s).colour.cal = s.colour.cal ∧
    (assertRollEnd s).link.hold = s.link.hold ∧
    (assertRollEnd s).link.ret.countP Entry.isReply = s.link.ret.countP Entry.isReply := by
  unfold assertRollEnd
  dsimp only
  (repeat' split) <;> simp

@[simp] theorem startRunOut_frame (s : State) :
    (startRunOut s).now = s.now ∧
    (startRunOut s).pending = s.pending ∧
    (startRunOut s).out = s.out ∧
    (startRunOut s).link = s.link ∧
    (startRunOut s).tables = s.tables ∧
    (startRunOut s).items = s.items ∧
    (startRunOut s).path = s.path ∧
    (startRunOut s).ink = s.ink ∧
    (startRunOut s).cutter = s.cutter ∧
    (startRunOut s).colour = s.colour ∧
    (startRunOut s).costing = s.costing := by
  unfold startRunOut
  (repeat' split) <;> simp

@[simp] theorem endRunOut_frame (s : State) :
    (endRunOut s).now = s.now ∧
    (endRunOut s).pending = s.pending ∧
    (endRunOut s).out = s.out ∧
    (endRunOut s).link = s.link ∧
    (endRunOut s).tables = s.tables ∧
    (endRunOut s).ink = s.ink ∧
    (endRunOut s).cutter = s.cutter ∧
    (endRunOut s).colour = s.colour ∧
    (endRunOut s).costing = s.costing := by
  unfold endRunOut
  (repeat' split) <;> simp

@[simp] theorem assertSeat_frame (c : Chan) (s : State) :
    (assertSeat c s).now = s.now ∧
    (assertSeat c s).pending = s.pending ∧
    (assertSeat c s).out = s.out ∧
    (assertSeat c s).tables = s.tables ∧
    (assertSeat c s).items = s.items ∧
    (assertSeat c s).path = s.path ∧
    (assertSeat c s).media = s.media ∧
    (assertSeat c s).cutter = s.cutter ∧
    (assertSeat c s).colour = s.colour ∧
    (assertSeat c s).costing = s.costing ∧
    (assertSeat c s).link.hold = s.link.hold ∧
    (assertSeat c s).link.ret.countP Entry.isReply = s.link.ret.countP Entry.isReply := by
  unfold assertSeat
  dsimp only
  (repeat' split) <;> simp

@[simp] theorem assertDetect_frame (c : Chan) (l : DetectLine) (s : State) :
    (assertDetect c l s).now = s.now ∧
    (assertDetect c l s).pending = s.pending ∧
    (assertDetect c l s).out = s.out ∧
    (assertDetect c l s).tables = s.tables ∧
    (assertDetect c l s).items = s.items ∧
    (assertDetect c l s).path = s.path ∧
    (assertDetect c l s).media = s.media ∧
    (assertDetect c l s).cutter = s.cutter ∧
    (assertDetect c l s).colour = s.colour ∧
    (assertDetect c l s).costing = s.costing ∧
    (assertDetect c l s).link.hold = s.link.hold ∧
    (assertDetect c l s).link.ret.countP Entry.isReply = s.link.ret.countP Entry.isReply := by
  unfold assertDetect
  dsimp only
  (repeat' split) <;> simp

@[simp] theorem releaseDetect_frame (c : Chan) (l : DetectLine) (s : State) :
    (releaseDetect c l s).now = s.now ∧
    (releaseDetect c l s).pending = s.pending ∧
    (releaseDetect c l s).out = s.out ∧
    (releaseDetect c l s).tables = s.tables ∧
    (releaseDetect c l s).items = s.items ∧
    (releaseDetect c l s).path = s.path ∧
    (releaseDetect c l s).media = s.media ∧
    (releaseDetect c l s).cutter = s.cutter ∧
    (releaseDetect c l s).colour = s.colour ∧
    (releaseDetect c l s).costing = s.costing ∧
    (releaseDetect c l s).link.hold = s.link.hold ∧
    (releaseDetect c l s).link.ret.countP Entry.isReply = s.link.ret.countP Entry.isReply := by
  unfold releaseDetect
  dsimp only
  (repeat' split) <;> simp

@[simp] theorem seatDebounced_frame (c : Chan) (s : State) :
    (seatDebounced c s).now = s.now ∧
    (seatDebounced c s).pending = s.pending ∧
    (seatDebounced c s).tables = s.tables ∧
    (seatDebounced c s).items = s.items ∧
    (seatDebounced c s).path = s.path ∧
    (seatDebounced c s).media = s.media ∧
    (seatDebounced c s).cutter = s.cutter ∧
    (seatDebounced c s).colour = s.colour ∧
    (seatDebounced c s).costing = s.costing ∧
    (seatDebounced c s).link.hold = s.link.hold ∧
    (seatDebounced c s).link.ret.countP Entry.isReply = s.link.ret.countP Entry.isReply := by
  unfold seatDebounced
  (repeat' split) <;> simp

@[simp] theorem removeCart_frame (c : Chan) (s : State) :
    (removeCart c s).now = s.now ∧
    (removeCart c s).pending = s.pending ∧
    (removeCart c s).out = s.out ∧
    (removeCart c s).tables = s.tables ∧
    (removeCart c s).items = s.items ∧
    (removeCart c s).path = s.path ∧
    (removeCart c s).media = s.media ∧
    (removeCart c s).cutter = s.cutter ∧
    (removeCart c s).colour = s.colour ∧
    (removeCart c s).costing = s.costing ∧
    (removeCart c s).link.hold = s.link.hold ∧
    (removeCart c s).link.ret.countP Entry.isReply = s.link.ret.countP Entry.isReply := by
  unfold removeCart
  dsimp only
  (repeat' split) <;> simp

@[simp] theorem changeLevel_frame (c : Chan) (a b : Bool) (s : State) :
    (changeLevel c a b s).now = s.now ∧
    (changeLevel c a b s).pending = s.pending ∧
    (changeLevel c a b s).out = s.out ∧
    (changeLevel c a b s).link = s.link ∧
    (changeLevel c a b s).tables = s.tables ∧
    (changeLevel c a b s).items = s.items ∧
    (changeLevel c a b s).path = s.path ∧
    (changeLevel c a b s).media = s.media ∧
    (changeLevel c a b s).cutter = s.cutter ∧
    (changeLevel c a b s).colour = s.colour ∧
    (changeLevel c a b s).costing = s.costing := by
  unfold changeLevel
  dsimp only
  (repeat' split) <;> simp

@[simp] theorem senseLevel_frame (c : Chan) (s : State) :
    (senseLevel c s).now = s.now ∧
    (senseLevel c s).pending = s.pending ∧
    (senseLevel c s).tables = s.tables ∧
    (senseLevel c s).items = s.items ∧
    (senseLevel c s).path = s.path ∧
    (senseLevel c s).media = s.media ∧
    (senseLevel c s).cutter = s.cutter ∧
    (senseLevel c s).colour = s.colour ∧
    (senseLevel c s).costing = s.costing ∧
    (senseLevel c s).link.hold = s.link.hold ∧
    (senseLevel c s).link.ret.countP Entry.isReply = s.link.ret.countP Entry.isReply := by
  unfold senseLevel
  dsimp only
  (repeat' split) <;> simp

@[simp] theorem failRead_frame (c : Chan) (s : State) :
    (failRead c s).now = s.now ∧
    (failRead c s).pending = s.pending ∧
    (failRead c s).tables = s.tables ∧
    (failRead c s).items = s.items ∧
    (failRead c s).path = s.path ∧
    (failRead c s).media = s.media ∧
    (failRead c s).cutter = s.cutter ∧
    (failRead c s).colour = s.colour ∧
    (failRead c s).costing = s.costing ∧
    (failRead c s).link.hold = s.link.hold ∧
    (failRead c s).link.ret.countP Entry.isReply = s.link.ret.countP Entry.isReply := by
  unfold failRead
  dsimp only
  split <;> simp

@[simp] theorem acceptRead_frame (c : Chan) (t : TagContents) (s : State) :
    (acceptRead c t s).now = s.now ∧
    (acceptRead c t s).pending = s.pending ∧
    (acceptRead c t s).out = s.out ∧
    (acceptRead c t s).tables = s.tables ∧
    (acceptRead c t s).items = s.items ∧
    (acceptRead c t s).path = s.path ∧
    (acceptRead c t s).media = s.media ∧
    (acceptRead c t s).cutter = s.cutter ∧
    (acceptRead c t s).colour = s.colour ∧
    (acceptRead c t s).costing = s.costing ∧
    (acceptRead c t s).link.hold = s.link.hold ∧
    (acceptRead c t s).link.ret.countP Entry.isReply = s.link.ret.countP Entry.isReply := by
  unfold acceptRead
  dsimp only
  split <;> simp

@[simp] theorem endOldWrite_frame (c : Chan) (s : State) :
    (endOldWrite c s).now = s.now ∧
    (endOldWrite c s).pending = s.pending ∧
    (endOldWrite c s).link = s.link ∧
    (endOldWrite c s).tables = s.tables ∧
    (endOldWrite c s).items = s.items ∧
    (endOldWrite c s).path = s.path ∧
    (endOldWrite c s).media = s.media ∧
    (endOldWrite c s).cutter = s.cutter ∧
    (endOldWrite c s).colour = s.colour ∧
    (endOldWrite c s).costing = s.costing := by
  unfold endOldWrite
  simp

@[simp] theorem answerRead_frame (c : Chan) (t : TagContents) (g : Bool) (s : State) :
    (answerRead c t g s).now = s.now ∧
    (answerRead c t g s).pending = s.pending ∧
    (answerRead c t g s).tables = s.tables ∧
    (answerRead c t g s).items = s.items ∧
    (answerRead c t g s).path = s.path ∧
    (answerRead c t g s).media = s.media ∧
    (answerRead c t g s).cutter = s.cutter ∧
    (answerRead c t g s).colour = s.colour ∧
    (answerRead c t g s).costing = s.costing ∧
    (answerRead c t g s).link.hold = s.link.hold ∧
    (answerRead c t g s).link.ret.countP Entry.isReply = s.link.ret.countP Entry.isReply := by
  unfold answerRead
  dsimp only
  (repeat' split) <;> simp

@[simp] theorem timeoutRead_frame (c : Chan) (s : State) :
    (timeoutRead c s).now = s.now ∧
    (timeoutRead c s).pending = s.pending ∧
    (timeoutRead c s).tables = s.tables ∧
    (timeoutRead c s).items = s.items ∧
    (timeoutRead c s).path = s.path ∧
    (timeoutRead c s).media = s.media ∧
    (timeoutRead c s).cutter = s.cutter ∧
    (timeoutRead c s).colour = s.colour ∧
    (timeoutRead c s).costing = s.costing ∧
    (timeoutRead c s).link.hold = s.link.hold ∧
    (timeoutRead c s).link.ret.countP Entry.isReply = s.link.ret.countP Entry.isReply := by
  unfold timeoutRead
  dsimp only
  (repeat' split) <;> simp

@[simp] theorem kindCheck_frame (c : Chan) (a b : Bool) (s : State) :
    (kindCheck c a b s).now = s.now ∧
    (kindCheck c a b s).pending = s.pending ∧
    (kindCheck c a b s).tables = s.tables ∧
    (kindCheck c a b s).items = s.items ∧
    (kindCheck c a b s).path = s.path ∧
    (kindCheck c a b s).media = s.media ∧
    (kindCheck c a b s).cutter = s.cutter ∧
    (kindCheck c a b s).colour = s.colour ∧
    (kindCheck c a b s).costing = s.costing ∧
    (kindCheck c a b s).link.hold = s.link.hold ∧
    (kindCheck c a b s).link.ret.countP Entry.isReply = s.link.ret.countP Entry.isReply := by
  unfold kindCheck
  dsimp only
  (repeat' split) <;> simp

@[simp] theorem confirmWrite_frame (c : Chan) (s : State) :
    (confirmWrite c s).now = s.now ∧
    (confirmWrite c s).pending = s.pending ∧
    (confirmWrite c s).tables = s.tables ∧
    (confirmWrite c s).items = s.items ∧
    (confirmWrite c s).path = s.path ∧
    (confirmWrite c s).media = s.media ∧
    (confirmWrite c s).cutter = s.cutter ∧
    (confirmWrite c s).colour = s.colour ∧
    (confirmWrite c s).costing = s.costing ∧
    (confirmWrite c s).link.hold = s.link.hold ∧
    (confirmWrite c s).link.ret.countP Entry.isReply = s.link.ret.countP Entry.isReply := by
  unfold confirmWrite
  dsimp only
  (repeat' split) <;> simp

@[simp] theorem timeoutWrite_frame (c : Chan) (s : State) :
    (timeoutWrite c s).now = s.now ∧
    (timeoutWrite c s).pending = s.pending ∧
    (timeoutWrite c s).tables = s.tables ∧
    (timeoutWrite c s).items = s.items ∧
    (timeoutWrite c s).path = s.path ∧
    (timeoutWrite c s).media = s.media ∧
    (timeoutWrite c s).cutter = s.cutter ∧
    (timeoutWrite c s).colour = s.colour ∧
    (timeoutWrite c s).costing = s.costing ∧
    (timeoutWrite c s).link.hold = s.link.hold ∧
    (timeoutWrite c s).link.ret.countP Entry.isReply = s.link.ret.countP Entry.isReply := by
  unfold timeoutWrite
  dsimp only
  (repeat' split) <;> simp

/-! ## The band place of a remainder (R127) and the calibration that serves (R154) -/

/-- A band place is held exactly where a remainder of a BAND of its slot stands in the queue or is still to come. -/
theorem placeOfBandHeld_iff (s : State) (slot : Fin 4) :
    placeOfBandHeld s slot = true ↔
      ∃ o rows, (QEntry.op o ∈ s.path.queue ∨ s.media.remainder = some o) ∧ o.work = .feed (.bandRest slot) rows := by
  unfold placeOfBandHeld
  simp only [List.any_eq_true, List.mem_append, List.mem_filterMap, Option.mem_toList]
  constructor
  · rintro ⟨o, ho, hw⟩
    split at hw
    · rename_i n rows h
      refine ⟨o, rows, ?_, ?_⟩
      · obtain ⟨q, hq, he⟩ | h := ho
        · cases q <;> simp_all [QEntry.op?]
        · exact .inr h
      · simp_all
    · cases hw
  · rintro ⟨o, rows, ho, hw⟩
    exact ⟨o, ho.imp (fun h => ⟨_, h, rfl⟩) id, by simp [hw]⟩

@[simp] theorem Calibration.used_valid (cal : Calibration) : cal.used.valid = cal.valid := by
  unfold Calibration.used
  split <;> rfl

theorem Calibration.used_of_valid (cal : Calibration) (h : cal.valid = true) : cal.used = cal := by
  simp [Calibration.used, h]

theorem Calibration.used_of_not_valid (cal : Calibration) (h : cal.valid = false) (f : Filter) :
    cal.used.white[f] = 60000 ∧ cal.used.black[f] = 1200 := by
  simp [Calibration.used, h, Calibration.reset]

end Sys2Proof.Machine
end

