-- ==== Sys2Proof/WellFormed.lean ====
section
/-! DEFINITION. Which command terms stand for a command that can be sent. exec is total: an ill-formed
term has a meaning too (log 2, log 12). -/

namespace Sys2Proof

/-- An express row stands for a record that has passed R4: its body has at most 4,096 bytes. -/
def wfExpressBody (body : List Byte) : Bool := decide (body.length ≤ 4096)

/-- Operation ids on the head link are 1..65,535 (R73). -/
def wfOpId (opId : Nat) : Bool := decide (1 ≤ opId) && decide (opId ≤ 65535)

/-- Well-formed commands: a whole record of good CRC is not a BAND (a BAND arrives by BAND_HEADER_ARRIVAL
and its last byte, R3, R4; the kind byte of a damaged record may be any), a BAND's fixed part has 16 bytes, fewer where
its header's body length is less (1.8), express bodies keep R4's bound, and operation ids lie in R73's range. So no
well-formed command stands for a BAND of which fewer than 16 body bytes come though its header gives 16 or more
(log 53). -/
def wellFormed : Instr → Bool
  | .recordArrival r => !Machine.crcGood r || decide (r.kind ≠ 0x14#8)
  | .bandHeaderArrival _ _ _ length fixed => decide (fixed.length = min 16 length.toNat)
  | .statusQuery _ b | .faultDump _ b | .halt _ b | .resume _ b | .itemAbort _ b | .tableBegin _ b
  | .tablePart _ b | .tableCommit _ b | .rollLoad _ b | .verifyClear _ b | .editionReset _ b
  | .cutterClear _ b | .costDump _ b => wfExpressBody b
  | .engineResetAll _ rest | .engineResetStream _ rest | .sensorVerifyWhite _ rest
  | .sensorVerifyDark _ rest | .sensorVerifyLamp _ rest | .sensorVerifyFull _ rest
  | .counterDumpRead _ rest | .counterDumpClear _ rest => wfExpressBody (0#8 :: rest)
  | .holdReleaseContinue _ item rest | .holdReleaseAbort _ item rest =>
      wfExpressBody (item :: 0#8 :: rest)
  | .accept n | .refuse n | .scanDone n | .done n => wfOpId n
  | .paused n _ | .aborted n _ => wfOpId n
  | .reading n _ _ _ => wfOpId n
  | .powerOn | .linkReset | .bandLastByte _ _ | .returnEntrySend | .jobOpen | .jobClose | .itemOpen
  | .itemClose | .band | .feed | .clean | .tableLoad | .lockExpired | .countStart
  | .countCompletion | .measureStopPlacement | .inkRequest | .queueEntry | .abortFeedEntry
  | .abortPanelClose | .offer | .answerDeadline | .runningTimerLimit | .engineFault | .engineReady
  | .scanStart | .scanDeadline | .verdictComputation | .encoderEdge | .rollEndAssert
  | .rollEndRelease | .runOutWaitStart | .runOutFeed | .cutStart | .cutDone | .cutJam
  | .cutDeadline | .cutterRetry | .detectLineAssert _ _ | .detectLineRelease _ _
  | .seatingDebounce _ | .removal _ | .levelSenseLineChange _ _ _ | .sensedLevelChange _
  | .tagReadAnswer _ _ _ | .tagReadTimeout _ | .kindCheck _ _ _ | .tagWriteConfirm _
  | .tagWriteTimeout _ | .itemPricing | .jobPricing | .droppedBandLastByte _ => true

end Sys2Proof
end

