-- ==== Sys2Proof/Tests/Slice0.lean ====
section
/-! SUPPORT. Tests of the model: ill-formed terms refused, worked figures of the spec, and for each statement with
hypotheses a state and operands that meet them. Every expected value is the spec's own or is worked out by hand from
its rules; the source stands with each test. -/

open Sys2Proof Sys2Proof.Machine

namespace Sys2Proof.Tests

/-! ## Well-formed terms -/

/-- R3, R4: a BAND is no whole record. -/
theorem test_wf_band_record :
    wellFormed (.recordArrival
      { kind := 0x14#8, flags := 0#8, tag := 1#8, reserved := 0#8, length := 0#32, body := [],
        crc := crc32 [0x14#8, 0#8, 1#8, 0#8, 0#8, 0#8, 0#8, 0#8] }) = false := by decide +kernel
/-- 1.8: the fixed part of a BAND has 16 bytes where its body has that many. -/
theorem test_wf_band_header : wellFormed (.bandHeaderArrival 0#8 1#8 0#8 40#32 [0#8]) = false := by decide
/-- R4: an express body has at most 4,096 bytes. -/
theorem test_wf_express_body : wellFormed (.halt 1#8 (List.replicate 4097 0#8)) = false := by decide +kernel
/-- R4: the byte a row fixes counts in the body. -/
theorem test_wf_fixed_byte : wellFormed (.engineResetAll 1#8 (List.replicate 4096 0#8)) = false := by decide +kernel
/-- R4: the two bytes of HOLD_RELEASE count in the body. -/
theorem test_wf_two_bytes : wellFormed (.holdReleaseAbort 1#8 2#8 (List.replicate 4095 0#8)) = false := by
  decide +kernel
/-- R73: operation ids begin at 1. -/
theorem test_wf_id_zero : wellFormed (.accept 0) = false ∧ wellFormed (.reading 0 0 0 0#16) = false := by decide
/-- R73: operation ids end at 65,535. -/
theorem test_wf_id_high : wellFormed (.done 65536) = false ∧ wellFormed (.aborted 65536 0) = false ∧
    wellFormed (.paused 65536 0) = false := by decide
/-- The same terms with legal operands. -/
theorem test_wf_legal : wellFormed (.done 65535) = true ∧ wellFormed (.bandHeaderArrival 0#8 1#8 0#8 4#32
    [0#8, 0#8, 0#8, 0#8]) = true ∧ wellFormed (.halt 1#8 []) = true := by decide

/-! ## Fixtures -/

/-- A MEDIA_PROFILE within R24's ranges. -/
def profile : MediaProfile :=
  { rollKind := 2, width := 1118, sensor := 3000, cutter := 6000, gutter := 96, maxPanel := 2048, startDepth := 2,
    divisor := 4, runOutDelay := 1500, dryTime := 60000, cutterEnabled := true }

/-- A CHANNEL_MAP with every channel enabled, kind 7 and a low mark of 20,000,000 nL. -/
def chanMap : Vector MapEntry 12 :=
  Vector.ofFn fun c => { enabled := true, inkKind := 7, headRow := c.val, lowMark := 20000000 }

/-- A DROP with the volumes of the worked settlement (05). -/
def drop : Vector DropEntry 12 :=
  Vector.replicate 12 { levels := #v[0, 1, 2, 3], volumes := #v[15, 42, 90] }

/-- The PRICE of the worked cost record (11). -/
def price : Price :=
  { perMl := #v[0, 0, 0, 3800, 0, 2500, 0, 0, 0, 0, 0, 0], perM2 := #v[0, 0, 185000, 0, 0, 0, 0, 0], cutCharge := 1500 }

/-- The layout of the worked strip (09), in every place. -/
def patches : Vector PatchLayout 8 :=
  Vector.replicate 8
    { count := 3, integration := 8,
      patches := Vector.ofFn fun k =>
        if k.val = 0 then { start := 0, width := 256, mode := 0, filter := 0, targets := #v[2060, 1050, 20, 4080] }
        else if k.val = 1 then
          { start := 256, width := 256, mode := 2, filter := 1, targets := #v[2000, 1100, 500, 3000] }
        else { start := 512, width := 256, mode := 0, filter := 0, targets := #v[3050, 2900, 1700, 900] } }

/-- The tables with every section committed. -/
def tables : TableStore :=
  { TableStore.reset with
    channelMap := some chanMap, drop := some drop, mediaProfile := some profile, price := some price,
    patch := some patches, tolerance := some (Vector.replicate 8 { warn := 40, fail := 80 }),
    maintenance := some (Vector.replicate 12 #v[60000, 120000, 240000]), priceVersion := 42 }

/-- A printer with its tables, a roll of 2,000,000 rows and a RUNNING engine. -/
def ready : State :=
  { State.reset with
    now := 100000#32, tables := tables,
    path := { BandPath.reset with engine := .running },
    media := { Media.reset with roll := { Roll.reset with
      loaded := true, kind := 2, width := 1118, remaining := 2000000 } } }

/-- A live item of job 8. -/
def item : Item :=
  { uid := 5, id := 12, job := 8, edition := some 517, print := 12, policy := .holdCut, declared := 5120,
    allowance := 5120, state := .opened, under := none, fate := .complete, rowsReceived := 0, rowsPrinted := 0,
    imageDpl := Vector.replicate 12 0, checkDpl := Vector.replicate 12 0, flushNl := Vector.replicate 12 0,
    imageRows := 0, checkRows := 0, gutterRows := 0, leadRows := 0, reservation := 17408, panels := [],
    openRows := 0, firstRow := none, cutCount := 0, abortFeedRows := 0, started := false, pendingClose := none,
    lastSettled := none, abortOrder := 0, dryMark := none, noteKind := 2, noteWidth := 1118 }

/-- Job 8, OPEN. -/
def job : Job :=
  { number := 8, state := .opened, itemsClosed := 0, total := 0, flush := Vector.replicate 12 0, fate := .complete }

/-- A printer with job 8 and some items. -/
def withItems (items : List Item) : State :=
  { ready with
    items := { ItemManager.reset with jobs := [job], live := items, nextUid := 6 },
    media := { ready.media with roll := { ready.media.roll with
      reserved := (items.map Item.reservation).sum } } }

/-- A panel that has two bands. -/
def panel : Panel :=
  { index := 1, startRow := 0, rows := 64, last := false, cutA := none, cutB := none, verdict := .pass,
    firstBand := 3, lastBand := 3 }

/-- The channel of the worked settlement: the drop counts of its four quarters (05). -/
def counted : BandChannel :=
  { chan := 3, headRow := 3, plane := [],
    counts := #v[#v[52100, 12040, 2480], #v[50917, 11800, 2515], #v[49600, 12170, 2450], #v[48720, 12200, 2456]],
    volumes := #v[15, 42, 90], demand := 5935965, reserve := 594 }

/-- A band of the item. -/
def band : Band :=
  { serial := 3, slot := 0, item := 5, itemId := 12, index := 0, startRow := 0, rows := 32, columns := 4,
    channels := [counted], check := false, layout := 2, panel := 1, stopPlaced := false, state := .inFlight }

/-- An operation in flight. -/
def flight (work : FlightWork) (phase : LinkPhase) : Flight :=
  { opId := 9, work := work, phase := phase, elapsed := 0, commanded := 32, points := [], reported := 0 }

/-- A FEED or CLEAN of no item. -/
def op (work : Work) : Op := { serial := 4, owner := none, work := work, rest := false }

/-- A cut stop of the item. -/
def cutStop : CutStop :=
  { role := .a, cutRow := 114048, notBefore := some 100000#32, hold := false, lastBand := none }

/-- Its entry of the stop list. -/
def cutAt (c : CutStop) : Stop :=
  { uid := 7, position := 120048, item := 5, itemId := 12, panel := some 1, kind := .cut c }

/-- A measure stop of the item. -/
def measureAt : Stop :=
  { uid := 8, position := 120048, item := 5, itemId := 12, panel := some 1, kind := .measure { layout := 2, strip := 6 } }

/-- A printer whose position stands at its only stop. -/
def atStop (u : Stop) (s : State) : State :=
  { s with media := { s.media with stops := [u], roll := { s.media.roll with position := 120048 } } }

/-- Puts an operation in flight. -/
def flying (f : Flight) (s : State) : State := { s with path := { s.path with flight := some f } }

/-- A stop's cutter. -/
def holding (state : CutterState) (s : State) : State :=
  { s with cutter := { s.cutter with
    state := state, held := some 7, dispatchedAt := some 90000#32, startedAt := some 95000#32,
    deadline := some 103000#32 } }

/-- The tag of cartridge B of the worked cartridge change (06). -/
def tag : TagContents :=
  { serial := 66#64, kind := 7#8, sizeClass := 2, fill := 700000000#32, remaining := 700000000#32, lot := 1#32 }

/-- A cartridge in a state. -/
def cart (state : CartState) : Cartridge := { Cartridge.cleared with state := state }

/-- Puts a slot in place 7. -/
def slotted (x : Slot) (s : State) : State :=
  { s with ink := { s.ink with slots := s.ink.slots.set 7 x } }

/-- The slot of place 7 with both detect lines asserted. -/
def seated (k : Cartridge) : Slot := { Slot.reset with d1 := true, d2 := true, bothSince := some 99750#32, cart := k }

/-- Puts records of the stream in the intake queue. -/
def intake (kind : StreamKind) (body : List Byte) (s : State) : State :=
  { s with link := { s.link with intake := [{ kind := kind, tag := 9#8, length := body.length, body := body }] } }

/-- A state that an outcome holds; the fault and the refusal do not arise. -/
def after (o : Host.Outcome State Fault Refusal) : State :=
  match o with
  | .next t => t
  | .fault _ => State.reset
  | .refused _ => State.reset

/-! ## Worked figures of the spec -/

/-- R3: the check value of CRC-32 on the nine digits. -/
theorem test_crc_check_value :
    crc32 [0x31#8, 0x32#8, 0x33#8, 0x34#8, 0x35#8, 0x36#8, 0x37#8, 0x38#8, 0x39#8] = 0xCBF43926#32 := by
  decide +kernel
/-- 05, worked settlement: a DONE with 5,935,965 dpL against a residue of 7,400. -/
theorem test_settle_done :
    ({ subTank := 1862000, reserved := 594, residue := 7400, consumed := 0, flushed := 0, refilled := 0 } :
      Account).settle 5935965 594 =
    { subTank := 1861406, reserved := 0, residue := 3365, consumed := 594, flushed := 0, refilled := 0 } := by
  decide
/-- 05, worked settlement: the same band ABORTED at 13 rows. -/
theorem test_settle_aborted :
    counted.quarterDemand 2 = 2996085 ∧ counted.quarterDemand 4 = 5935965 ∧
    ({ subTank := 1862000, reserved := 594, residue := 7400, consumed := 0, flushed := 0, refilled := 0 } :
      Account).settle 2996085 594 =
    { subTank := 1861700, reserved := 0, residue := 3485, consumed := 300, flushed := 0, refilled := 0 } := by
  decide
/-- 03, worked sequence: 5,120 rows in panels of 2,048 with gutters of 96 need 17,408 rows behind 6,000 blank ones. -/
theorem test_reservation : reservationOf profile 5120 6000 = 17408 ∧ reservationOf profile 5120 0 = 11408 := by
  decide
/-- 09, worked strip: the reflectances of patch 0 and the mean of patch 1. -/
theorem test_reflectance :
    reflectance 52000 1500 27345 = 2096 ∧ reflectance 50000 1000 13250 = 1024 ∧ reflectance 48000 1200 1000 = 0 ∧
    reflectance 61000 1000 64000 = 4095 ∧ roundHalfUp 53003 4 = 13251 := by decide
/-- 10, worked sequence: means of eight values. -/
theorem test_part_means : roundHalfUp 8164 8 = 1021 ∧ roundHalfUp 528000 8 = 66000 ∧ roundHalfUp 11843 8 = 1480 := by
  decide

/-- The item of the worked cost record (11). -/
def costed : Item :=
  { item with
    state := .costing, reservation := 0, imageRows := 6140, checkRows := 64, gutterRows := 288, leadRows := 6000,
    cutCount := 7, panels := [panel],
    imageDpl := #v[0, 0, 0, 123456789000, 0, 40000000000, 0, 0, 0, 0, 0, 0],
    checkDpl := #v[0, 0, 0, 512345678, 0, 300000000, 0, 0, 0, 0, 0, 0],
    flushNl := #v[0, 0, 0, 60250, 0, 60000, 0, 0, 0, 0, 0, 0] }

/-- The printer that prices it. -/
def pricing : State := { withItems [costed] with costing := { Costing.reset with queue := [5] } }

/-- 11, worked cost record: its components, its total, and the job's running total. -/
theorem test_cost_record :
    (costOf costed price 1 42).imageInk[3] = 46914 ∧ (costOf costed price 1 42).imageInk[5] = 10000 ∧
    (costOf costed price 1 42).checkInk = 270 ∧ (costOf costed price 1 42).flush = 379 ∧
    (costOf costed price 1 42).imageMedia = 26880 ∧ (costOf costed price 1 42).checkMedia = 280 ∧
    (costOf costed price 1 42).wasteMedia = 27528 ∧ (costOf costed price 1 42).cuts = 10500 ∧
    (costOf costed price 1 42).total = 122751 := by decide
/-- 11: the pricing adds the total to job 8 and takes the item to CLOSED. -/
theorem test_item_pricing :
    (after (exec .itemPricing pricing)).items.jobs.map Job.total = [122751] ∧
    (after (exec .itemPricing pricing)).items.live = [] ∧
    (after (exec .itemPricing pricing)).costing.nextRecord = 2 := by decide

/-! ## One step -/

/-- 06, worked cartridge change at 4,410: cartridge B passes its checks, fills the sub-tank and has its tag written. -/
theorem test_kind_check_places :
    let s := slotted (seated { cart .reading with contents := some tag, readAttempts := 2 })
      { ready with ink := { ready.ink with
        accounts := ready.ink.accounts.set 7 { Account.reset with subTank := 184000, reserved := 30000 } } }
    let t := after (exec (.kindCheck 7 false true) s)
    t.ink.slots[7].cart.state = .ready ∧ t.ink.slots[7].cart.estimate = some 698184000 ∧
      t.ink.accounts[7].subTank = 2000000 ∧ t.out = [.tagWrite 7 698184000] := by decide
/-- R104: a key of class 0 refuses the same tag. -/
theorem test_kind_check_key :
    (after (exec (.kindCheck 7 false false)
      (slotted (seated { cart .reading with contents := some tag }) ready))).ink.slots[7].cart.reason =
      some .keyMismatch := by decide
/-- 06, worked cartridge change at 4,280: both lines held 250 ms. -/
theorem test_seating_debounce :
    (after (exec (.seatingDebounce 7) (slotted (seated (cart .seating)) ready))).out = [.tagRead 7] := by
  decide
/-- 07, worked overrun: a row at the first stop becomes overrun. -/
theorem test_edge_at_stop :
    let s := atStop (cutAt cutStop) ready
    let t := after (exec .encoderEdge { s with media := { s.media with roll := { s.media.roll with edges := 3 } } })
    t.media.overrun = 1 ∧ t.media.roll.position = 120048 ∧ t.media.roll.edges = 0 := by decide
/-- R139: CUT_START in WAITING with every condition met. -/
theorem test_cut_start :
    (after (exec .cutStart (holding .waiting (atStop (cutAt cutStop) ready)))).out = [.cutStart] := by decide
/-- R137: no CUT_START 19 ms after the last edge. -/
theorem test_cut_not_still :
    let s := holding .waiting (atStop (cutAt cutStop) ready)
    (after (exec .cutStart { s with cutter := { s.cutter with lastEdge := 99981#32 } })).cutter.state = .waiting := by
  decide
/-- R139, R130: a completed cut counts, leaves the list and sets the last cut row. -/
theorem test_cut_done :
    let t := after (exec .cutDone (holding .cutting (atStop (cutAt cutStop) (withItems [item]))))
    t.cutter.bladeCount = 1 ∧ t.media.stops = [] ∧ t.media.roll.lastCutRow = 114048 ∧ t.cutter.state = .idle := by
  decide
/-- R140: the deadline of a cut. -/
theorem test_cut_deadline :
    let s := holding .cutting (atStop (cutAt cutStop) ready)
    (after (exec .cutDeadline { s with now := 103000#32 })).cutter.cause = some .timeout ∧
    (after (exec .cutDeadline { s with now := 102999#32 })).cutter.cause = none := by decide
/-- R40: a JOB_OPEN of job 9 while job 8 is OPEN. -/
theorem test_job_open_refused :
    (after (exec .jobOpen (intake .jobOpen [9#8, 0#8, 0#8, 0#8, 0#8, 0#8, 0#8, 0#8] (withItems [])))).link.ret.map
      Entry.payload = [.reply .refusedState .empty] := by decide
/-- R43, R44: an ITEM_OPEN is admitted with its reservation. -/
theorem test_item_open :
    (after (exec .itemOpen (intake .itemOpen
      [12#8, 1#8, 1#8, 0#8, 8#8, 0#8, 0#8, 0#8, 5#8, 2#8, 0#8, 0#8, 12#8, 0#8, 0#8, 0#8, 0#8, 20#8, 0#8, 0#8]
      (withItems [])))).media.roll.reserved = 11408 := by decide
/-- R70: 96,001 rows are no FEED. -/
theorem test_feed_too_long :
    (after (exec .feed (intake .feed [0x01#8, 0x77#8, 1#8, 0#8] ready))).link.ret.map Entry.payload =
      [.reply .badRecord .empty] := by decide
/-- R167: a sensor test while one is busy. -/
theorem test_verify_busy :
    let s := after (exec (.sensorVerifyFull 1#8 []) ready)
    s.colour.verify.pending = some .dark ∧
    ((after (exec (.sensorVerifyWhite 2#8 []) s)).link.ret.map Entry.payload).getLast? =
      some (.reply .busy .empty) := by decide
/-- R73: an ACCEPT of the operation in flight. -/
theorem test_accept :
    (after (exec (.accept 9) (flying (flight (.verify .white) (.offering 3 100500#32)) ready))).path.flight =
      some (flight (.verify .white) (.running 100000#32)) := by decide
/-- R129: the run-out feed goes to the first stop. -/
theorem test_run_out_feed :
    let s := atStop (cutAt cutStop) ready
    (after (exec .runOutFeed { s with media := { s.media with
      runOut := some 100000#32, roll := { s.media.roll with position := 120000 } } })).path.queue =
      [.op { serial := 0, owner := none, work := .feed .runOut 48, rest := false }] := by decide

/-! ## Witnesses: concrete states and operands that meet the hypotheses of a statement, clause by clause -/

/-- StepRunsFront. -/
theorem witness_StepRunsFront :
    { ready with pending := [.linkReset, .powerOn] }.pending = .linkReset :: [.powerOn] ∧ ready.pending = [] :=
  ⟨rfl, rfl⟩

/-- ResiduesStayBelow: the highest residue on channel 0. -/
theorem witness_ResiduesStayBelow :
    let s := { ready with ink := { ready.ink with
      accounts := ready.ink.accounts.set 0 { Account.reset with residue := 9999 } } }
    ResiduesBelow s ∧ ∃ t, step s = .next t :=
  ⟨show ∀ c : Chan, _ from by decide, _, rfl⟩

/-- CalibrationStaysApart: the lowest white and the highest black. -/
theorem witness_CalibrationStaysApart :
    let s := { ready with colour := { ready.colour with cal := { Calibration.reset with
      white := Vector.replicate 4 20000, black := Vector.replicate 4 8000 } } }
    CalibrationApart s ∧ ∃ t, step s = .next t :=
  ⟨show ∀ f : Filter, _ from by decide, _, rfl⟩

/-- A reply in the return queue. -/
def oneReply : Entry := { level := 8, tag := 1#8, time := 0#32, payload := .reply .ok .empty }

/-- A notice in the return queue. -/
def oneNotice (level : Nat) : Entry := { level := level, tag := 0#8, time := 0#32, payload := .notice .headReady }

/-- A printer with some entries queued and some held. -/
def queued (ret : List Entry) (hold : List HoldEntry) : State :=
  { ready with link := { ready.link with ret := ret, hold := hold } }

/-- ReturnQueueStaysBounded: 4 replies, 28 notices, 8 entries held, NOTICE at its highest levels. -/
theorem witness_ReturnQueueStaysBounded :
    let q := queued (List.replicate 28 (oneNotice 7) ++ List.replicate 4 oneReply)
      (List.replicate 8 (.reply 1#8 .ok))
    let s := { q with tables := { q.tables with notice := some (Vector.replicate 11 7) } }
    ReturnBounded s ∧ ∃ t, step s = .next t := by
  refine ⟨⟨by decide, by decide +kernel, by decide +kernel, by decide +kernel, by decide +kernel, ?_⟩, _, rfl⟩
  intro levels h
  cases h
  decide

/-- ListsStayBounded: a full stop list. -/
theorem witness_ListsStayBounded :
    let s := { ready with media := { ready.media with stops := List.replicate 32 (cutAt cutStop) } }
    StopsOrdered s ∧ RecentDistinct s ∧ StagingFits s ∧ CapacitiesKept s ∧ ∃ t, step s = .next t := by
  refine ⟨?_, ?_, fun sec h => (nomatch h), ?_, _, rfl⟩
  · unfold StopsOrdered
    decide
  · unfold RecentDistinct
    decide
  · unfold CapacitiesKept
    decide

/-- The image of a MEDIA_PROFILE with the highest dry time and run-out delay. -/
def profileImage : List Byte :=
  [2, 1118, 3000, 6000, 96, 2048, 2, 4, 60000, 3600000, 1].flatMap (leBytes 4)

/-- DeadlinePassed: a delay of 24 days, the latest moment that is still seen, and a judged profile. -/
theorem witness_DeadlinePassed :
    24 * 86400000 ≤ 24 * 86400000 ∧ 2147483647 < 2147483648 ∧
    judgeImage .mediaProfile profileImage = some (.mediaProfile (mediaProfileOf (fieldsOf profileImage))) := by
  decide

/-- NoticeQueued: level 0; a free place; a full queue with a lower and with an equal level. -/
theorem witness_NoticeQueued :
    let off := { ready with tables := { ready.tables with notice := some (Vector.replicate 11 0) } }
    classLevel off .head = 0 ∧ classLevel ready .head = 4 ∧
    notices (queued (List.replicate 27 (oneNotice 4)) []) < 28 ∧
    28 ≤ notices (queued (List.replicate 28 (oneNotice 4)) []) ∧
    (queued (oneNotice 4 :: oneNotice 3 :: List.replicate 26 (oneNotice 4)) []).link.ret =
      [oneNotice 4] ++ oneNotice 3 :: List.replicate 26 (oneNotice 4) ∧
    (∀ e ∈ [oneNotice 4], e.isReply = false → 3 < e.level) ∧
    (∀ e ∈ List.replicate 26 (oneNotice 4), e.isReply = false → 3 ≤ e.level) ∧ (oneNotice 3).isReply = false := by
  decide

/-- A record with its CRC. -/
def record (kind flags : Byte) (body : List Byte) : Record :=
  let r : Record :=
    { kind := kind, flags := flags, tag := 1#8, reserved := 0#8, length := BitVec.ofNat 32 body.length, body := body,
      crc := 0#32 }
  { r with crc := crc32 (recordHead r) }

/-- RecordArrives: a full hold; a bad CRC; a BAND; a stream record behind a BAND; a bad header; a stream record with room
and without. -/
theorem witness_RecordArrives :
    ready.link.hold.length < 8 ∧
    8 ≤ (queued [] (List.replicate 8 (.reply 1#8 .linkError))).link.hold.length ∧
    crc32 (recordHead { record 0x10#8 0#8 [] with crc := 1#32 }) ≠ 1#32 ∧
    crc32 (recordHead (record 0x14#8 0#8 [])) = (record 0x14#8 0#8 []).crc ∧
    crc32 (recordHead (record 0x10#8 4#8 [])) = (record 0x10#8 4#8 []).crc ∧
    headerKind (record 0x10#8 4#8 []) = none ∧ (record 0x10#8 4#8 []).kind ≠ 0x14#8 ∧ ready.link.rx = .idle ∧
    (record StreamKind.jobOpen.code 0#8 [8#8]).kind = StreamKind.jobOpen.code ∧ Rx.waiting ≠ Rx.idle ∧
    headerKind (record StreamKind.jobOpen.code 0#8 [8#8]) = some (.stream .jobOpen) ∧
    crc32 (recordHead (record StreamKind.jobOpen.code 0#8 [8#8])) = (record StreamKind.jobOpen.code 0#8 [8#8]).crc ∧
    intakeFill ready + (8 + [8#8].length) ≤ 65536 := by decide +kernel
/-- RecordArrives, the last clause: an intake queue filled to 65,528 bytes has no room for a record with a body. -/
theorem witness_RecordArrives_full :
    65536 < intakeFill (intake .tableLoad (List.replicate 65520 0#8) ready) + (8 + [8#8].length) := by
  have h (body : List Byte) : intakeFill (intake .tableLoad body ready) = 8 + body.length := rfl
  rw [h, List.length_replicate]
  decide

/-- ExpressRecordArrives: a kind without a fixed byte, and the kinds that fix one; a full hold, a hold with an entry, and
4 replies queued. -/
theorem witness_ExpressRecordArrives :
    headerKind (record ExpressKind.statusQuery.code 1#8 []) = some (.express .statusQuery) ∧
    headerKind (record ExpressKind.engineReset.code 1#8 [2#8]) = some (.express .engineReset) ∧
    headerKind (record ExpressKind.holdRelease.code 1#8 [12#8, 1#8, 0#8, 0#8]) = some (.express .holdRelease) ∧
    headerKind (record ExpressKind.sensorVerify.code 1#8 [5#8]) = some (.express .sensorVerify) ∧
    headerKind (record ExpressKind.counterDump.code 1#8 [1#8]) = some (.express .counterDump) ∧
    crc32 (recordHead (record ExpressKind.counterDump.code 1#8 [1#8])) =
      (record ExpressKind.counterDump.code 1#8 [1#8]).crc ∧
    8 ≤ (queued [] (List.replicate 8 (.reply 1#8 .linkError))).link.hold.length ∧
    (queued [] [.reply 1#8 .linkError]).link.hold.length < 8 ∧ (queued [] [.reply 1#8 .linkError]).link.hold ≠ [] ∧
    (queued (List.replicate 4 oneReply) []).link.hold.length < 8 ∧
    4 ≤ replies (queued (List.replicate 4 oneReply) []) := by decide +kernel
/-- ExpressRecordArrives: an empty body, and bodies whose action byte no row fixes. -/
theorem witness_ExpressRecordArrives_no_row :
    headerKind (record ExpressKind.engineReset.code 1#8 [3#8]) = some (.express .engineReset) ∧ actsAtOnce ready = true ∧
    (∀ rest, ([3#8] : List Byte) ≠ 1#8 :: rest ∧ ([3#8] : List Byte) ≠ 2#8 :: rest) ∧
    (∀ item rest, ([12#8, 2#8] : List Byte) ≠ item :: 0#8 :: rest ∧ ([12#8, 2#8] : List Byte) ≠ item :: 1#8 :: rest) ∧
    (∀ rest, ([] : List Byte) ≠ 2#8 :: rest ∧ ([] : List Byte) ≠ 3#8 :: rest ∧ ([] : List Byte) ≠ 4#8 :: rest ∧
      ([] : List Byte) ≠ 5#8 :: rest) ∧
    (∀ rest, ([2#8] : List Byte) ≠ 0#8 :: rest ∧ ([2#8] : List Byte) ≠ 1#8 :: rest) :=
  ⟨by decide +kernel, by decide, fun _ => by simp, fun _ _ => by simp, fun _ => by simp, fun _ => by simp⟩
/-- R14, R17: an ENGINE_RESET body with a byte no row fixes changes nothing but the capture and the reply. -/
theorem test_engine_reset_unknown :
    let t := after (exec (.recordArrival (record ExpressKind.engineReset.code 1#8 [3#8])) (withItems [item]))
    t.link.ret.map Entry.payload = [.reply .badRecord .empty] ∧ t.items.live = [item] ∧ t.link.capture.length = 13 := by
  decide +kernel

/-- BandArrives, the header: the longest body and a body of 15 bytes. -/
theorem witness_BandArrives_header :
    ready.link.hold.length < 8 ∧ ready.link.rx = .idle ∧
    (0#8 = 0#8 ∧ 0#8 = 0#8 ∧ 16 ≤ (3686416#32).toNat ∧ (3686416#32).toNat ≤ 3686416) ∧
    intakeFill ready + (8 + (List.replicate 16 0#8).length) ≤ 65536 ∧
    ¬(0#8 = 0#8 ∧ 0#8 = 0#8 ∧ 16 ≤ (15#32).toNat ∧ (15#32).toNat ≤ 3686416) := by decide

/-- BandArrives, withheld: a hold of 8 entries, another BAND that waits for its take, and an intake queue whose free
space is one byte short of the fixed part. -/
theorem witness_BandArrives_withheld :
    let full := { ready with link := { ready.link with hold := List.replicate 8 (.reply 1#8 .linkError) } }
    let coming := { ready with link := { ready.link with rx := .waiting } }
    let body : List Byte := List.replicate 16 0#8
    8 ≤ full.link.hold.length ∧ coming.link.rx ≠ .idle ∧ ready.link.rx ≠ .dropping ∧
    (∀ band wire length tag, ready.link.rx ≠ .filling band wire length tag) ∧
    65536 < intakeFill (intake .itemOpen (List.replicate 65505 0#8) ready) + (8 + body.length) := by
  refine ⟨by decide, by decide, by decide, fun _ _ _ _ h => (nomatch h), ?_⟩
  simp only [intake, intakeFill, List.map_cons, List.map_nil, IntakeEntry.occupancy, List.length_replicate]
  decide

/-- A printer whose item has a band that fills. -/
def filling (length : Nat) : State :=
  let s := withItems [item]
  { s with
    path := { s.path with store := [{ band with state := .filling }] },
    link := { s.link with rx := .filling 3 [] length 1#8 } }

/-- BandArrives, the last byte: whole, failed by its length, and dropped. -/
theorem witness_BandArrives_last :
    (filling 16).link.rx = .filling 3 [] 16 1#8 ∧ 16 = 16 + ([] : List Byte).length ∧
    crc32 ([] ++ []) = crc32 [] ∧ ¬(17 = 16 + ([] : List Byte).length) ∧
    findBand (filling 17) 3 = some { band with state := .filling } ∧
    { ready with link := { ready.link with rx := .dropping } }.link.rx = .dropping := by decide

/-- ReturnEntrySent: a notice behind a lower one, and a reply with an entry held of either kind. -/
theorem witness_ReturnEntrySent :
    (queued [oneNotice 3, oneNotice 4, oneNotice 4] []).link.ret =
      [oneNotice 3] ++ oneNotice 4 :: [oneNotice 4] ∧
    (∀ x ∈ [oneNotice 3], x.level < (oneNotice 4).level) ∧
    (∀ x ∈ [oneNotice 4], x.level ≤ (oneNotice 4).level) ∧ (oneNotice 4).isReply = false ∧
    (queued (List.replicate 4 oneReply) [.reply 1#8 .linkError]).link.ret =
      [] ++ oneReply :: List.replicate 3 oneReply ∧
    (∀ x ∈ List.replicate 3 oneReply, x.level ≤ oneReply.level) ∧ oneReply.isReply = true ∧
    replies (queued (List.replicate 4 oneReply) [.reply 1#8 .linkError]) = 4 ∧
    (queued (List.replicate 4 oneReply) [.express .halt 1#8 []]).link.hold = [.express .halt 1#8 []] ∧
    (ExpressKind.halt ≠ .engineReset ∨ ([.reply 1#8 .ok] : List HoldEntry) = []) := by
  decide

/-- PowerOnValues and LinkResetEffects: an ENGINE_RESET of each code held with 3 arrival replies behind it; a body that
goes on. -/
theorem witness_resets_from_hold (code : Byte) :
    let held : List (Byte × Status) := List.replicate 3 (2#8, .linkError)
    let s := queued (List.replicate 4 oneReply) (.express .engineReset 1#8 [code] :: held.map fun h => .reply h.1 h.2)
    s.link.ret = [] ++ oneReply :: List.replicate 3 oneReply ∧ (∀ x ∈ List.replicate 3 oneReply, x.level ≤ oneReply.level) ∧
    oneReply.isReply = true ∧ replies s = 4 ∧ held.length ≤ 3 ∧
    s.link.hold = .express .engineReset 1#8 [code] :: held.map (fun h => .reply h.1 h.2) ∧ ([0#8] : List Byte) ≠ [] :=
  ⟨rfl, by decide, rfl, rfl, by decide, rfl, by decide⟩
/-- R6, R17, R18: a reset acted on from the hold is answered before what arrived after it. -/
theorem test_reset_from_hold :
    let s code := queued (oneNotice 3 :: List.replicate 4 oneReply)
      [.express .engineReset 7#8 [code], .reply 2#8 .linkError]
    (after (exec .returnEntrySend (s 1#8))).link.ret.map (fun e => (e.tag, e.payload)) =
      [(7#8, .reply .ok .empty), (2#8, .reply .linkError .empty)] ∧
    (after (exec .returnEntrySend (s 2#8))).link.ret.map (fun e => (e.tag, e.payload)) =
      [(7#8, .reply .ok .empty), (2#8, .reply .linkError .empty)] ∧
    (after (exec .returnEntrySend (s 1#8))).link.displaced = true ∧
    (after (exec .returnEntrySend (s 2#8))).out.getLast? = some .headReset := by decide
/-- RollEvents and R129: RUNNING ceases at a HALT acted on from the hold, and the wait is idle after the RESUME behind
it. -/
theorem test_hold_ends_run_out_wait :
    let q := queued (List.replicate 4 oneReply)
      [.express .engineReset 7#8 [1#8], .express .halt 8#8 [], .express .resume 9#8 []]
    let s := atStop (cutAt cutStop) { q with media := { q.media with runOut := some 160000#32 } }
    let t := after (exec .returnEntrySend s)
    replies s = 4 ∧ s.path.engine = .running ∧ runOutReady s = true ∧
    t.path.engine = .running ∧ runOutReady t = true ∧ t.media.runOut = none := by decide

/-- Every statement about an express record: the link port acts at once. -/
theorem witness_acts_at_once : actsAtOnce ready = true ∧ actsAtOnce (withItems [item]) = true ∧
    actsAtOnce (queued (List.replicate 3 oneReply) []) = true := by decide

/-- A printer whose item has a band in flight. -/
def flyingBand (s : State) : State :=
  let s := flying (flight (.band 3) (.running 90000#32)) s
  { s with path := { s.path with store := [band] } }

/-- LinkResetEffects: nothing open; an open item; an OPEN job with a live item and with none. -/
theorem witness_LinkResetEffects :
    openItem ready = none ∧ openJob ready = none ∧ openItem (withItems [item]) = some item ∧ item.fate = .complete ∧
    findItem (withItems [item]) item.uid = some item ∧ openItem (withItems []) = none ∧
    openJob (withItems [item]) = some job ∧ openJob (withItems []) = some job ∧
    ((withItems [item]).items.jobs.map Job.number).Nodup ∧
    (∃ i ∈ (abortItem 5 .linkReset (flyingBand (withItems [item]))).items.live, i.job = job.number) ∧
    (∀ i ∈ (withItems []).items.live, i.job ≠ job.number) := by decide +kernel
/-- R61: a link reset aborts the open item, and its job is DONE where no item of it stays live. -/
theorem test_link_reset :
    (after (exec .linkReset (flyingBand (withItems [item])))).items.live.map Item.fate = [.aborted] ∧
    (after (exec .linkReset (flyingBand (withItems [item])))).items.jobs.map Job.state = [.closing] ∧
    (after (exec .linkReset (withItems []))).items.jobs.map Job.state = [.done] ∧
    (after (exec .linkReset (withItems []))).costing.jobQueue = [8] := by decide +kernel

/-- FaultDumped: the capture as it stands at power-on. -/
theorem witness_FaultDumped :
    ready.link.capture = { armed := true, bytes := [], length := 0, filling := false } := rfl

/-- A printer with a staged load. -/
def staged (sec : Section) (staging : List (Option Byte)) : State :=
  { ready with tables := { ready.tables with lock := some sec, staging := staging, expiry := some 100000#32 } }

/-- StagedLoadBeginsAndExpires: a free lock, the section's own, another's, no section, and the deadline itself. -/
theorem witness_StagedLoadBeginsAndExpires :
    sectionOf (4#8).toNat = some .price ∧ sectionOf (9#8).toNat = none ∧ ready.tables.lock = none ∧
    (staged .price []).tables.lock = some .price ∧ Section.patch ≠ Section.price ∧
    (staged .price []).tables.expiry = some 100000#32 ∧ 0 ≤ ((staged .price []).now - 100000#32).toInt ∧
    ({ staged .price [] with now := 99999#32 }.now - 100000#32).toInt < 0 := by decide

/-- TablePartWrites: the last byte of the image, one byte beyond it, and a body with no byte. -/
theorem witness_TablePartWrites :
    let s := staged .price (List.replicate 84 none)
    StagingFits s ∧ actsAtOnce s = true ∧ s.tables.lock = some .price ∧
    (5 ≤ [83#8, 0#8, 0#8, 0#8, 1#8].length ∧ u32 [83#8, 0#8, 0#8, 0#8, 1#8] 0 + (5 - 4) ≤ Section.price.imageLength) ∧
    Section.price.imageLength < u32 [84#8, 0#8, 0#8, 0#8, 1#8] 0 + (5 - 4) ∧ [83#8, 0#8, 0#8, 0#8].length < 5 := by
  refine ⟨fun sec h => ?_, by decide, by decide +kernel, by decide +kernel, by decide +kernel, by decide +kernel⟩
  cases h
  decide

/-- TableCommitEndsLoad: an image with a byte unwritten, one that a check fails, and a good one. -/
theorem witness_TableCommitEndsLoad :
    sectionOf (4#8).toNat = some .price ∧ (staged .price []).tables.lock = some .price ∧
    none ∈ (staged .price (List.replicate 84 none)).tables.staging ∧
    (staged .notice (List.replicate 44 (some 9#8))).tables.staging = (List.replicate 44 9#8).map some ∧
    judgeImage .notice (List.replicate 44 9#8) = none ∧
    (staged .price (List.replicate 84 (some 0#8))).tables.staging = (List.replicate 84 0#8).map some ∧
    judgeImage .price (List.replicate 84 0#8) =
      some (.price (priceOf (fieldsOf (List.replicate 84 0#8)))) := by decide +kernel

/-- CommittedContent: contents that change nothing outside the table store. -/
theorem witness_CommittedContent :
    (∀ m, Content.price price ≠ .channelMap m) ∧ (∀ p, Content.price price = .mediaProfile p → p.cutterEnabled = true) ∧
    (∀ p, Content.mediaProfile profile = .mediaProfile p → p.cutterEnabled = true) := by
  refine ⟨fun m h => (nomatch h), fun p h => (nomatch h), fun p h => ?_⟩
  cases h
  rfl
/-- CommittedContent, a CHANNEL_MAP: cartridges whose kind differs and agrees, one to read again, one lowered to LOW by
the sensed level, and one kept LOW. -/
theorem witness_CommittedContent_map :
    let placed := { cart .ready with contents := some tag, estimate := some 30000000 }
    let refused := { cart .rejected with contents := some tag, reason := some .wrongInk }
    (placed.state = .ready ∧ placed.contents = some tag ∧ placed.estimate = some 30000000) ∧
    tag.kind.toNat = chanMap[(7 : Chan)].inkKind ∧ (8 : Nat) ≠ tag.kind.toNat ∧
    (refused.state = .rejected ∧ refused.reason = some .wrongInk ∧ refused.write = none) ∧
    (∀ d : Chan, d ≠ 7 → ∀ y ∈ (slotted (seated placed) ready).ink.slots[d].cart.contents, y.serial ≠ tag.serial) ∧
    (let t := commitContent (.channelMap chanMap) (slotted { seated placed with sensed := .low } ready)
     t.ink.slots[(7 : Chan)].cart.state = .low ∧ t.ink.accounts[(7 : Chan)].subTank = 2000000 ∧
      t.ink.slots[(7 : Chan)].cart.estimate = some 18150000) ∧
    ({ placed with state := .low }.state = .low ∧ (cart .seating).state = .seating) := by decide +kernel
/-- CommittedContent, a MEDIA_PROFILE that disables the cutter: a held stop at which the link is paused, another, and
overrun rows that move in. -/
theorem witness_CommittedContent_cutter :
    let other := { cutAt cutStop with uid := 9 }
    let s := holding .waiting (atStop (cutAt cutStop) (withItems [item]))
    let s := flying { flight (.band 3) .pausedAt with points := [{ stop := 7, offset := 3 }], reported := 1 }
      { s with media := { s.media with stops := [cutAt cutStop, other], overrun := 2 } }
    { profile with cutterEnabled := false }.cutterEnabled = false ∧ s.cutter.state = .waiting ∧ s.cutter.held = some 7 ∧
    pausedStop s = some 7 ∧ (∀ u ∈ s.media.stops, s.cutter.held = some u.uid → u.isMeasure = false) ∧
    (s.media.stops.filter fun u => !u.isMeasure && s.cutter.held != some u.uid) = [other] ∧
    (∀ i ∈ s.items.live, i.state = .opened) ∧
    (s.media.stops.Pairwise fun a b => a.position ≤ b.position) ∧ rowsLetIn [] s = 2 ∧
    (commitContent (.mediaProfile { profile with cutterEnabled := false }) s).media.stops = [] ∧
    (commitContent (.mediaProfile { profile with cutterEnabled := false }) s).media.roll.position = 120050 := by
  decide +kernel

/-- Every take: the record at the front of the intake queue may be taken. -/
theorem witness_take (kind : StreamKind) (body : List Byte) :
    TakeReady (intake kind body ready)
      { kind := kind, tag := 9#8, length := body.length, body := body } [] ∧
    TakeReady (intake kind body (withItems [item]))
      { kind := kind, tag := 9#8, length := body.length, body := body } [] :=
  ⟨⟨rfl, show 0 < 4 by decide, rfl, .inr fun _ h => (nomatch h)⟩, rfl, show 0 < 4 by decide, rfl,
    .inr (show ∀ i ∈ [item], i.pendingClose = none by decide)⟩

/-- TableLoadTaken: a section, none, its lock, a good image, a bad one and a short one. -/
theorem witness_TableLoadTaken :
    tableLoadSection (4#8 :: List.replicate 87 0#8) = some .price ∧ tableLoadSection [] = none ∧
    tableLoadSection [9#8] = none ∧ ready.tables.lock ≠ some .price ∧
    (4#8 :: List.replicate 87 0#8).drop 1 = [0#8, 0#8, 0#8] ++ List.replicate 84 0#8 ∧
    (judgeImage .price (List.replicate 84 0#8)).isSome = true ∧
    judgeImage .price (List.replicate 84 255#8) = none ∧ (List.replicate 83 0#8).length ≠ Section.price.imageLength ∧
    (staged .price []).tables.lock = some .price := by decide +kernel

/-- The image with the fields given (R20). -/
def imageOf (fields : List Nat) : List Byte := fields.flatMap (leBytes 4)

/-- Its fields are those numbers. -/
theorem imageField_imageOf (fields : List Nat) (h : ∀ x ∈ fields, x < 2 ^ 32) (k : Nat) :
    imageField (imageOf fields) k = fields.getD k 0 := by
  induction fields generalizing k with
  | nil => simp [imageField, imageOf]
  | cons x rest ih =>
    have hx := h x (by simp)
    cases k with
    | zero => simp [imageField, imageOf, leBytes]; omega
    | succ k =>
      have := ih (fun y hy => h y (by simp [hy])) k
      simpa [imageField, imageOf, leBytes, Nat.mul_add] using this

/-- The fields of a PATCH image of eight layouts of one patch each, at the bounds of R26; the other patches of a layout
lie outside every bound. -/
def patchFields : List Nat :=
  (List.replicate 8 ([1, 16, 38144, 256, 3, 3] ++ List.replicate 4 4095 ++ List.replicate 184 65535)).flatten

/-- TableLoadTaken, the images: of each section one at the bounds of its fields, and one beyond them. -/
theorem witness_TableLoadTaken_images :
    let valid sec fields := ImageValid (imageField (imageOf fields)) sec
    let map headRow := (List.range 12).flatMap fun c => [1, 250, if c = 1 then headRow else c, 1000000000]
    (valid .channelMap (map 1) ∧ ¬valid .channelMap (map 0)) ∧
    (valid .drop ((List.replicate 12 [9, 3, 3, 3, 255, 255, 255]).flatten) ∧
      ¬valid .drop ((List.replicate 12 [9, 4, 3, 3, 255, 255, 255]).flatten)) ∧
    (valid .mediaProfile [7, 203, 64, 96, 31, 480031, 4, 16, 60001, 3600001, 1] ∧
      ¬valid .mediaProfile [7, 203, 64, 95, 31, 480031, 4, 16, 60001, 3600001, 1]) ∧
    (valid .price (List.replicate 21 65535) ∧ ¬valid .price (List.replicate 21 65536)) ∧
    (valid .tolerance (List.replicate 16 4095) ∧ ¬valid .tolerance (List.replicate 16 4096)) ∧
    (valid .maintenance (List.replicate 36 500000) ∧ ¬valid .maintenance (List.replicate 36 500001)) ∧
    (valid .notice (List.replicate 11 7) ∧ ¬valid .notice (List.replicate 11 8)) := by
  have fields_of (fields : List Nat) (h : ∀ x ∈ fields, x < 2 ^ 32) := funext (imageField_imageOf fields h)
  refine ⟨⟨?_, ?_⟩, ⟨?_, ?_⟩, ⟨?_, ?_⟩, ⟨?_, ?_⟩, ⟨?_, ?_⟩, ⟨?_, ?_⟩, ?_, ?_⟩
  all_goals
    beta_reduce
    rw [fields_of _ (by decide)]
    unfold ImageValid
    decide
/-- TableLoadTaken: the lengths of those images. -/
theorem witness_TableLoadTaken_lengths :
    (imageOf (List.replicate 48 0)).length = Section.channelMap.imageLength ∧
    (imageOf (List.replicate 84 0)).length = Section.drop.imageLength ∧
    (imageOf (List.replicate 11 0)).length = Section.mediaProfile.imageLength ∧
    (imageOf (List.replicate 21 0)).length = Section.price.imageLength ∧
    (imageOf (List.replicate 16 0)).length = Section.tolerance.imageLength ∧
    (imageOf (List.replicate 36 0)).length = Section.maintenance.imageLength ∧
    (imageOf (List.replicate 11 0)).length = Section.notice.imageLength := by decide +kernel
/-- TableLoadTaken, PATCH: a valid image and one that is not. -/
theorem witness_TableLoadTaken_patch :
    (imageOf patchFields).length = Section.patch.imageLength ∧ ImageValid (imageField (imageOf patchFields)) .patch ∧
    ¬ImageValid (imageField (List.replicate 6208 0#8)) .patch := by
  refine ⟨by decide +kernel, ?_, fun h => absurd (h 0).1.1 (by decide)⟩
  rw [funext (imageField_imageOf patchFields (by decide +kernel))]
  unfold ImageValid PatchValid
  decide +kernel
/-- R24: P is rounded down, and G, the run-out delay and the dry time are clamped (02, the examples of R24). -/
theorem test_media_profile_clamped :
    judgeImage .mediaProfile (imageOf [7, 203, 64, 96, 31, 100010, 4, 16, 60001, 3600001, 1]) =
      some (.mediaProfile {
        rollKind := 7, width := 203, sensor := 64, cutter := 96, gutter := 32, maxPanel := 100000,
        startDepth := 4, divisor := 16, runOutDelay := 60000, dryTime := 3600000, cutterEnabled := true }) := by
  decide +kernel

/-- JobOpenTaken: four jobs; three; a number that is live, an OPEN job, and neither. -/
theorem witness_JobOpenTaken :
    4 ≤ (List.replicate 4 job).length ∧ (withItems []).items.jobs.length < 4 ∧
    [8#8, 0#8, 0#8, 0#8, 0#8, 0#8, 0#8, 0#8].length = 8 ∧
    (∀ k, 4 ≤ k → k < 8 → u8 [8#8, 0#8, 0#8, 0#8, 0#8, 0#8, 0#8, 0#8] k = 0) ∧
    (∃ j ∈ (withItems []).items.jobs,
      j.state = .opened ∨ j.number = u32 [8#8, 0#8, 0#8, 0#8, 0#8, 0#8, 0#8, 0#8] 0) ∧
    (∀ j ∈ ready.items.jobs, j.state ≠ .opened ∧ j.number ≠ u32 [8#8, 0#8, 0#8, 0#8, 0#8, 0#8, 0#8, 0#8] 0) := by
  refine ⟨by decide, by decide, by decide, ?_, by decide, by decide +kernel⟩
  intro k h h'
  interval_cases k <;> rfl

/-- JobCloseTaken: an unknown number; an OPEN job with an open item, with a CLOSING one, and with none. -/
theorem witness_JobCloseTaken :
    numberBody [8#8, 0#8, 0#8, 0#8, 0#8, 0#8, 0#8, 0#8] = some 8 ∧ (∀ j ∈ ready.items.jobs, j.number ≠ 8) ∧
    findJob (withItems []) 8 = some job ∧ job.state = .opened ∧
    (∃ i ∈ (withItems [item]).items.live, i.job = 8 ∧ i.isOpen = true) ∧
    (∀ i ∈ (withItems [{ item with state := .closing }]).items.live, i.job = 8 → i.isOpen = false) ∧
    (∀ i ∈ (withItems []).items.live, i.job ≠ 8) ∧ numberBody [] = none := by decide

/-- The ITEM_OPEN of item 12 (3.2). -/
def itemOpenBytes : List Byte :=
  [12#8, 1#8, 1#8, 0#8, 8#8, 0#8, 0#8, 0#8, 5#8, 2#8, 0#8, 0#8, 12#8, 0#8, 0#8, 0#8, 0#8, 20#8, 0#8, 0#8]

/-- ItemOpenTaken: 16 items; a bad body; no roll, too few rows and enough; an edition with and without room. -/
theorem witness_ItemOpenTaken :
    16 ≤ (withItems (List.replicate 16 item)).items.live.length ∧ (withItems []).items.live.length < 16 ∧
    ready.tables.lock ≠ some .mediaProfile ∧ itemOpenBody [] = none ∧
    itemOpenBody itemOpenBytes =
      some { id := 12, policy := .holdCut, edition := some 517, job := 8, print := 12, declared := 5120 } ∧
    (withItems []).tables.mediaProfile = some profile ∧ (withItems []).tables.price.isSome = true ∧
    findJob (withItems []) 8 = some job ∧ (∀ j ∈ ready.items.jobs, j.number ≠ 8) ∧
    (withItems []).items.cutRef ≤ (withItems []).items.planRow ∧
    11408 = 5120 + (5120 + profile.maxPanel - 1) / profile.maxPanel * profile.gutter + profile.cutter +
      ((withItems []).items.planRow - (withItems []).items.cutRef).toNat ∧
    (withItems []).media.roll.loaded = true ∧
    11408 ≤ (withItems []).media.roll.remaining - (withItems []).media.roll.reserved ∧
    takeEdition (withItems []) 517 = some [freshEdition 517] := by decide

/-- An edition table that is full, every entry but the last with a live item. -/
def fullEditions : State :=
  let s := withItems ((List.range 7).map fun n => { item with uid := n, edition := some n })
  { s with colour := { s.colour with editions := (List.range 8).map freshEdition } }

/-- ItemOpenTaken, the edition: a held number; a free place; a full table with one entry to give up and with none. -/
theorem witness_ItemOpenTaken_edition :
    (fullEditions.colour.editions.map Edition.number).Nodup ∧
    fullEditions.colour.editions =
      (List.range 3).map freshEdition ++ freshEdition 3 :: ([4, 5, 6, 7].map freshEdition) ∧
    (∀ e ∈ fullEditions.colour.editions, e.number ≠ 517) ∧ 8 ≤ fullEditions.colour.editions.length ∧
    ready.colour.editions.length < 8 ∧
    fullEditions.colour.editions = (List.range 7).map freshEdition ++ freshEdition 7 :: [] ∧
    (∀ i ∈ fullEditions.items.live, i.edition ≠ some (freshEdition 7).number) ∧
    (∀ a ∈ (List.range 7).map freshEdition, ∃ i ∈ fullEditions.items.live, i.edition = some a.number) := by
  decide

/-- An item with an open panel of 64 rows. -/
def opening : Item := { item with panels := [panel], openRows := 64, firstRow := some 0, started := true }

/-- ItemCloseTaken: no room for the stops; room; an item that is not open; OPEN; HELD over OPEN. -/
theorem witness_ItemCloseTaken :
    byteBody [12#8, 0#8, 0#8, 0#8] = some 12 ∧ byteBody [] = none ∧ itemById (withItems [opening]) 12 = some opening ∧
    0 < opening.openRows ∧ (withItems [opening]).media.stops.length + panelStops profile ≤ 32 ∧
    32 < (List.replicate 31 (cutAt cutStop)).length + panelStops profile ∧
    placeFreeForIntake (withItems [opening]) = true ∧ opening.state = .opened ∧
    { opening with state := .closing }.isOpen = false ∧
    { opening with state := .held, under := some .opened }.isOpen = true ∧
    (∀ i ∈ ready.items.live, i.id ≠ 12) := by decide

/-- PanelCloses: an open panel; at an abort, its last band in flight, settled, and neither; 31 stops and 32. -/
theorem witness_PanelCloses :
    let settled := { opening with lastSettled := some 3, dryMark := some 160000#32 }
    findItem (withItems [opening]) 5 = some opening ∧ opening.panels = [] ++ [panel] ∧
    (withItems [opening]).tables.mediaProfile = some profile ∧
    ((withItems [opening]).items.live.map Item.uid).Nodup ∧
    (panel.firstBand ≤ 3 ∧ 3 ≤ panel.lastBand) ∧ findItem (withItems [settled]) 5 = some settled ∧
    settled.lastSettled = some 3 ∧ ¬(2 ≥ panel.firstBand) ∧ opening.lastSettled = none ∧ profile.cutterEnabled = true ∧
    (List.replicate 31 (cutAt cutStop)).length < 32 ∧ ¬((List.replicate 31 (cutAt cutStop)).length < 31) := by
  decide
/-- R49, R136: an abort that closes a panel none of whose bands has settled gives its cuts the time it was given, binds no
gutter and raises PANEL. -/
theorem test_panel_closed_by_abort :
    let t := closePanel 5 true (some 160000#32) (withItems [opening])
    (t.media.stops.map fun u => u.cut?.map CutStop.notBefore) = [some (some 160000#32), some (some 160000#32)] ∧
    t.path.waiting = [] ∧
    t.link.ret.map Entry.payload = [.notice (.panelClosed
      { id := 12, job := 8, index := 1, startRow := 0, rows := 64, last := true, cutA := some 6000,
        cutB := some 6096 })] := by decide

/-- ItemAbortActed: a bad body, an unknown id, an item in COSTING, one that can be aborted, and the open panel and band it
may have. -/
theorem witness_ItemAbortActed :
    byteBody [12#8] = none ∧ (∀ i ∈ ready.items.live, i.id ≠ (12#8).toNat) ∧
    itemById (withItems [item]) (12#8).toNat = some item ∧ item.state ≠ .costing ∧ item.fate = .complete ∧
    findItem (withItems [item]) item.uid = some item ∧
    itemById (withItems [costed]) (12#8).toNat = some costed ∧ costed.state = .costing ∧
    (let s := { withItems [opening] with path := { ready.path with store := [{ band with state := .reserved }] } }
     itemById s 12 = some opening ∧ findItem s 5 = some opening ∧ (s.path.store.map Band.serial).Nodup ∧
     (s.items.live.map Item.uid).Nodup ∧ abortRows 5 96 s = 128 ∧
     (after (exec (.itemAbort 1#8 [12#8, 0#8, 0#8, 0#8]) s)).items.live.map Item.abortFeedRows = [128]) ∧
    (let s := atStop (cutAt { cutStop with notBefore := none }) (flyingBand (withItems [opening]))
     (∀ u ∈ s.media.stops, u.item = 5 → u.isMeasure = false) ∧
     (∀ a ∈ s.path.store, a.item = 5 → a.state = .inFlight ∨ a.state = .counting) ∧
     s.tables.lock ≠ some .mediaProfile ∧ (∃ a ∈ s.path.store, a.item = 5) ∧
     (opening.panels.find? fun q => q.index == 1) = some panel ∧ panel.firstBand ≤ 3 ∧ 3 ≤ panel.lastBand) := by
  decide +kernel
/-- ItemAbortActed, the strips: an item whose measure stop waits at the sensor, with the link paused there, and a band that
is discarded; its panel becomes INCOMPLETE, the link goes on and the overrun moves in. -/
theorem witness_ItemAbortActed_strips :
    let f := { flight (.op (op (.feed .record 32))) .pausedAt with points := [{ stop := 8, offset := 10 }], reported := 1 }
    let s := atStop measureAt (withItems [opening])
    let s := { s with
      path := { s.path with store := [{ band with state := .reserved }], flight := some f },
      colour := { s.colour with measure := some 8 }, media := { s.media with overrun := 3 } }
    let x := unreadStops [measureAt] (measuresDropped 5 1 [measureAt] s)
    findItem s 5 = some opening ∧ (∀ k ∈ s.items.live, k.abortOrder < 1) ∧ (s.path.store.map Band.serial).Nodup ∧
    (s.items.live.map Item.uid).Nodup ∧ [measureAt] = (s.media.stops.filter fun u => u.isMeasure && u.item == 5) ∧
    x.items.live.map (fun k => k.panels.map Panel.verdict) = [[.incomplete]] ∧ x.media.roll.position = 120051 ∧
    (measureReleased [measureAt] x).out = [.proceed 9] ∧ (measureReleased [measureAt] x).colour.measure = none ∧
    abortRows 5 0 s = 32 ∧ ([measureAt, cutAt cutStop].map Stop.isMeasure) = [true, false] := by decide +kernel
/-- R56, R136: the panel of an aborted item waits for the MEDIA_PROFILE lock with the time given at the abort. -/
theorem test_abort_under_lock :
    let s := withItems [opening]
    (abortItem 5 .itemAbort { s with tables := { s.tables with lock := some .mediaProfile } }).items.live.map
      Item.pendingClose = [some 160000#32] := by decide

/-- HoldReleaseActed: nothing held, a HELD item, and an item with a held cut. -/
theorem witness_HoldReleaseActed :
    let held := { item with state := .held, under := some .opened }
    let cut := atStop (cutAt { cutStop with hold := true }) (withItems [item])
    [1#8, 0#8] ≠ [0#8, 0#8] ∧ itemById (withItems [held]) 12 = some held ∧ held.state = .held ∧
    findItem (withItems [held]) held.uid = some held ∧ held.fate = .complete ∧ held.state ≠ .costing ∧
    itemById (withItems [item]) 12 = some item ∧ item.state ≠ .held ∧
    (∀ u ∈ (withItems [item]).media.stops, u.item ≠ item.uid) ∧ itemById cut 12 = some item ∧
    (∀ i ∈ ready.items.live, i.id ≠ 12) ∧
    ∃ u ∈ cut.media.stops, u.item = item.uid ∧ ∃ c, u.kind = .cut c ∧ c.hold = true :=
  ⟨by decide, by decide, by decide, by decide, by decide, by decide, by decide, by decide, by decide, by decide, by decide,
    _, List.mem_singleton.mpr rfl, rfl, _, rfl, rfl⟩

/-- AbortPanelCloses: an aborted item whose panel close waits, with MEDIA_PROFILE free and locked. -/
theorem witness_AbortPanelCloses :
    let i := { opening with state := .closing, fate := .aborted, pendingClose := some 160000#32 }
    ((withItems [i]).items.live.find? fun k => k.pendingClose.isSome) = some i ∧
    i.pendingClose = some 160000#32 ∧ (withItems [i]).tables.lock ≠ some .mediaProfile ∧
    (withItems [i]).tables.mediaProfile = some profile ∧ 0 < i.openRows ∧ findItem (withItems [i]) i.uid = some i ∧
    (staged .mediaProfile []).tables.lock = some .mediaProfile := by decide

/-- AbortPanelCloses, rows that join: the test and the growth of an abort feed are those the statement asks for. -/
theorem witness_AbortPanelCloses_feeds :
    (∀ o, Op.isAbortFeed 5 o = true ↔ WaitingAbortFeed 5 o) ∧
    (∀ o, Op.isAbortFeed 5 o = false → (if o.isAbortFeed 5 then o.addRows 32 else o) = o) ∧
    (∀ o rows, Op.isAbortFeed 5 o = true → o.work = .feed .abort rows →
      (if o.isAbortFeed 5 then o.addRows 32 else o) = { o with work := .feed .abort (rows + 32) }) ∧
    Op.isAbortFeed 5 { op (.feed .abort 9) with owner := some 5 } = true ∧ placesHeld ready < 4 ∧
    4 ≤ placesHeld { ready with path := { ready.path with waiting := List.replicate 4 (op (.feed .record 32)) } } := by
  refine ⟨fun o => ?_, fun o h => by simp [h], fun o rows h hw => by simp [h, Op.addRows, hw], by decide, by decide,
    by decide⟩
  cases o with
  | mk serial owner work rest =>
    cases work with
    | feed source rows => cases source <;> simp [Op.isAbortFeed, WaitingAbortFeed]
    | clean a b c => simp [Op.isAbortFeed, WaitingAbortFeed]

/-- Item 5, aborted before item 6. -/
def twoAborted : State :=
  withItems [{ item with state := .settling, fate := .aborted, abortOrder := 1 },
    { item with uid := 6, id := 13, state := .settling, fate := .aborted, abortOrder := 2 }]

/-- AbortPanelCloses, rows that make a further abort feed: it waits before that of an item aborted after its own and
behind that of one aborted before. -/
theorem witness_AbortPanelCloses_order :
    let first := { op (.feed .abort 32) with owner := some 5 }
    let second := { op (.feed .abort 32) with owner := some 6 }
    AbortedBefore twoAborted first second ∧ ¬AbortedBefore twoAborted second first := by
  have h5 : findItem twoAborted 5 = some { item with state := .settling, fate := .aborted, abortOrder := 1 } := by decide
  have h6 : findItem twoAborted 6 =
      some { item with uid := 6, id := 13, state := .settling, fate := .aborted, abortOrder := 2 } := by decide
  constructor
  · exact ⟨_, h6, .inr ⟨_, h5, by decide⟩⟩
  · rintro ⟨i, hi, ⟨hn, _⟩ | ⟨k, hk, hlt⟩⟩
    · exact nomatch h6.symm.trans hn
    · cases h5.symm.trans hi
      cases h6.symm.trans hk
      exact absurd hlt (by decide)
/-- R56: waiting abort feeds go in the order of their aborts, not of the rows that formed them. -/
theorem test_abort_feed_order :
    let feed uid serial : Op := { serial := serial, owner := some uid, work := .feed .abort 32, rest := false }
    let s uid := { twoAborted with path := { twoAborted.path with nextArise := 9, abortWait := [feed uid 8] } }
    (joinAbortFeed 5 32 (s 6)).path.abortWait = [feed 5 9, feed 6 8] ∧
    (joinAbortFeed 6 32 (s 5)).path.abortWait = [feed 5 8, feed 6 9] := by decide

/-- AbortPanelCloses, the transitions of R52: an item kept by a band, by a stop, and by nothing; a HELD one. -/
theorem witness_AbortPanelCloses_moves :
    let closing := { item with state := .closing }
    let held := { item with state := .held, under := some .closing }
    findItem (withItems [closing]) 5 = some closing ∧ closing.state = .closing ∧
    (∃ b ∈ (flyingBand (withItems [closing])).path.store, b.item = 5) ∧
    (∀ b ∈ (withItems [closing]).path.store, b.item ≠ 5) ∧
    (∃ u ∈ (atStop (cutAt cutStop) (withItems [closing])).media.stops, u.item = 5) ∧
    (∀ u ∈ (withItems [closing]).media.stops, u.item ≠ 5) ∧ (∀ o ∈ liveOps (withItems [closing]), o.owner ≠ some 5) ∧
    closing.pendingClose = none ∧ (withItems [closing]).costing.queue = [] ∧
    (withItems [closing]).tables.price ≠ none ∧ (withItems [closing]).tables.lock ≠ some .price ∧
    (staged .price []).tables.lock = some .price ∧
    findItem (withItems [held]) 5 = some held ∧ held.under = some .closing ∧ (withItems [held]).out = [] ∧
    (advanceItem 5 (withItems [closing])).items.live = [] ∧
    (advanceItem 5 (withItems [held])).items.live = [{ held with under := some .settling }] := by decide +kernel

/-- The fixed part of a BAND of item 12: 32 rows of 4 columns on channel 3. -/
def bandBytes : List Byte :=
  [12#8, 32#8, 4#8, 0#8, 7#8, 0#8, 0#8, 0#8, 8#8, 0#8, 0#8, 0#8, 0#8, 0#8, 0#8, 0#8]

/-- Its fields. -/
def bandFields : BandBody :=
  { itemId := 12, rows := 32, columns := 4, index := 7, mask := 8, check := false, layout := 0 }

/-- BandTaken: a full store; a lead cut and a full panel with and without room; each check in its turn. -/
theorem witness_BandTaken :
    let s := withItems [{ item with allowance := 32 }]
    let beyond := { opening with openRows := 2032 }
    bandBody bandBytes 48 = some bandFields ∧ bandBody bandBytes 47 = none ∧
    4 ≤ (List.replicate 4 band).length ∧ s.path.store.length < 4 ∧
    itemById s (u8 bandBytes 0) = some { item with allowance := 32 } ∧
    needsLead s { item with allowance := 32 } = false ∧ closesPanel s { item with allowance := 32 } = false ∧
    needsLead { s with items := { s.items with planRow := 1 } } item = true ∧
    closesPanel s { opening with openRows := 2048 } = true ∧ closeRoom s = true ∧
    closeRoom { s with media := { s.media with stops := List.replicate 31 (cutAt cutStop) } } = false ∧
    State.reset.tables.drop = none ∧ bandTables s false = some chanMap ∧
    (∀ c ∈ channelsOf 8, chanMap[c].enabled = true) ∧ (∀ a ∈ s.path.store, ¬(a.itemId = 12 ∧ a.index = 7)) ∧
    (∀ i ∈ ready.items.live, i.isOpen = false) ∧ item.isOpen = true ∧ s.tables.mediaProfile = some profile ∧
    beyond.openRows < profile.maxPanel ∧ profile.maxPanel < beyond.openRows + 32 ∧
    ¬(item.openRows < profile.maxPanel ∧ profile.maxPanel < item.openRows + 32) ∧ 0 + 32 ≤ 32 ∧ 31 < 0 + 32 ∧
    31 - 0 < 32 ∧ 32 ≤ s.media.roll.remaining - s.media.roll.reserved := by decide

/-- BandAccepted: a first band, a further band, and one that closes its panel. -/
theorem witness_BandAccepted :
    let full := { opening with openRows := 2048 }
    findItem (withItems [item]) item.uid = some item ∧ findItem (withItems [full]) full.uid = some full ∧
    ((withItems [full]).items.live.map Item.uid).Nodup ∧ (withItems [full]).tables.mediaProfile = some profile ∧
    (withItems [full]).path.store.length < 4 ∧ (withItems [full]).media.stops.length ≤ 29 ∧
    (withItems [full]).items.cutRef ≤ (withItems [full]).items.planRow ∧ (0 < full.openRows → full.panels ≠ []) ∧
    96 = (if full.openRows ≠ 0 ∧ full.openRows = profile.maxPanel then profile.gutter else 0) ∧
    0 = (if item.openRows ≠ 0 ∧ item.openRows = profile.maxPanel then profile.gutter else 0) ∧
    (let more := { full with reservation := full.reservation + 32, allowance := full.allowance + 32 }
     findItem (withItems [more]) full.uid = some more ∧ full.panels = [] ++ [panel]) ∧
    opening.openRows ≠ 0 ∧ ¬(opening.openRows ≠ 0 ∧ opening.openRows = profile.maxPanel) := by decide

/-- Four operations that wait. -/
def waitingOps : State :=
  { ready with path := { ready.path with waiting := List.replicate 4 (op (.feed .record 32)) } }

/-- FeedAndCleanTaken: no place and a place; the longest FEED; an allowed CLEAN and a channel not enabled. -/
theorem witness_FeedAndCleanTaken :
    placeFreeForIntake waitingOps = false ∧ placeFreeForIntake ready = true ∧
    [0x00#8, 0x77#8, 1#8, 0#8].length = 4 ∧ u32 [0x00#8, 0x77#8, 1#8, 0#8] 0 = 96000 ∧
    u32 [0x01#8, 0x77#8, 1#8, 0#8] 0 = 96001 ∧
    ready.tables.mediaProfile.isSome = true ∧ ready.media.roll.loaded = true ∧
    96000 ≤ ready.media.roll.remaining - ready.media.roll.reserved ∧ State.reset.media.roll.loaded = false ∧
    cleanBody [2#8, 0#8, 40#8, 0#8] = some (2, 40) ∧ cleanBody [4#8, 0#8, 40#8, 0#8] = none ∧
    ready.tables.channelMap = some chanMap ∧
    ready.tables.maintenance = some (Vector.replicate 12 #v[60000, 120000, 240000]) ∧
    (∀ c ∈ channelsOf 40, chanMap[c].enabled = true) ∧
    (∃ c ∈ channelsOf 40, (chanMap.set 3 { enabled := false, inkKind := 7, headRow := 3, lowMark := 0 })[c].enabled =
      false) := by decide

/-- A printer whose item has some bands. -/
def withBands (bands : List Band) : State :=
  let s := withItems [{ item with started := true }]
  { s with path := { s.path with store := bands } }

/-- AccountsStayBacked: a RESERVED band that holds all the ink above the floor. -/
theorem witness_AccountsStayBacked :
    let s := withBands [{ band with state := .reserved }]
    let s := { s with
      ink := { s.ink with accounts := s.ink.accounts.set 3 { Account.reset with subTank := 150594, reserved := 594 } },
      path := { s.path with nextArise := 4 } }
    InkBacked s ∧ ∃ t, step s = .next t := by
  refine ⟨⟨?_, ?_, ⟨?_, by decide, fun _ h => (nomatch h)⟩, by decide, by decide, by decide, by decide,
    fun _ _ _ _ h => (nomatch h), fun _ h => (nomatch h), fun _ h => (nomatch h), fun _ _ h => (nomatch h)⟩, _, rfl⟩
  · unfold AccountsBacked
    decide
  · unfold ResiduesBelow
    decide
  · decide

/-- PositionStaysBehind: a position at its only stop, and a strip's stop that finds its place ahead. -/
theorem witness_PositionStaysBehind :
    let s := atStop (cutAt cutStop) ready
    let s := { s with
      media := { s.media with nextStop := 9 },
      colour := { s.colour with strips := [{ band := 3, stop := { measureAt with position := 120049 } }] },
      pending := [.measureStopPlacement] }
    (s.media.stops.Pairwise fun a b => a.position ≤ b.position) ∧
    (∀ u ∈ s.media.stops, s.media.roll.position ≤ u.position) ∧ (∀ u ∈ s.media.stops, u.uid < s.media.nextStop) ∧
    (∀ w ∈ s.colour.strips, w.stop.uid < s.media.nextStop) ∧
    (after (step s)).media.stops = [cutAt cutStop, { measureAt with position := 120049 }] ∧
    (∀ u ∈ (after (step s)).media.stops, (after (step s)).media.roll.position ≤ u.position) := by decide

/-- PositionStaysBehind, the run-out wait: one that runs with its conditions, whose start leaves it so. -/
theorem witness_PositionStaysBehind_runOut :
    let s := { atStop (cutAt cutStop) ready with pending := [.runOutWaitStart] }
    let t := after (step s)
    RunOutKept s ∧ t.media.runOut.isSome = true ∧ RunOutKept t := by
  unfold RunOutKept
  decide

/-- BandCounted: a FILLED band that may be counted and one behind a FILLING one; a completion of a live and of an
aborted item's band; a strip with and without a place; a strip that waits. -/
theorem witness_BandCounted :
    let filled := { band with state := .filled }
    let older := { band with serial := 2, state := .filling }
    let counting := withBands [{ band with state := .counting, check := true }]
    (withBands [filled]).path.count = none ∧ (withBands [filled]).tables.drop = some drop ∧
    (withBands [filled]).path.store = [] ++ filled :: [] ∧ filled.state = .filled ∧
    (withBands [filled]).tables.lock ≠ some .drop ∧ (staged .drop []).tables.lock = some .drop ∧
    (∃ a ∈ [older], a.state = .filling ∧ a.serial < filled.serial) ∧ (∀ a ∈ [older], a.state ≠ .filled) ∧
    findBand counting 3 = some { band with state := .counting, check := true } ∧
    findItem counting 5 = some { item with started := true } ∧
    counting.tables.mediaProfile = some profile ∧ counting.media.stops.length < 32 ∧ counting.colour.strips = [] ∧
    32 ≤ (List.replicate 32 measureAt).length ∧
    { ready with colour := { ready.colour with strips := [{ band := 3, stop := measureAt }] } }.colour.strips =
      { band := 3, stop := measureAt } :: [] := by decide
/-- BandCounted, the level map: one row of 3 pixels, and the padding pixel behind them (R64). -/
theorem witness_BandCounted_levels :
    let c := { counted with plane := [0xE4#8] }
    c.plane.length = 1 * ((3 + 3) / 4) ∧ (∀ k : Fin 4, drop[(3 : Chan)].levels[k] ≤ 3) ∧
    levelAt 3 c.plane 0 1 = 1 ∧ levelAt 3 c.plane 0 3 = 3 ∧
    (c.counted 1 3 (Vector.replicate 12 { levels := #v[0, 3, 1, 1], volumes := #v[15, 42, 90] })).plane = [0xDC#8] := by
  decide
/-- BandCounted, the discard: a QUEUED band, and one whose gutter and request wait. -/
theorem witness_BandCounted_discard :
    let b := { band with state := .waitInk }
    let gutter : Op := { op (.feed (.gutter 3) 96) with owner := some 5 }
    let s := { withBands [b] with path := { (withBands [b]).path with waiting := [gutter] } }
    let t := { s with ink := { s.ink with waits := Vector.replicate 12 true, waitAsker := some 3 } }
    (∀ o, Op.isGutterOf b.serial o = true ↔ GutterOf b o) ∧ (b.channels.map BandChannel.chan).Nodup ∧
    (b.state ≠ .reserved ∧ b.state ≠ .queued ∧ b.state ≠ .inFlight) ∧ ({ b with state := .queued }).state = .queued ∧
    s.ink.waitAsker ≠ some b.serial ∧ t.ink.waitAsker = some b.serial ∧ discardRows s b = 128 := by
  refine ⟨fun o => ?_, by decide, by decide, rfl, by decide, rfl, by decide +kernel⟩
  cases o with
  | mk serial owner work rest =>
    cases work with
    | feed source rows => cases source <;> simp [Op.isGutterOf, GutterOf]
    | clean a b c => simp [Op.isGutterOf, GutterOf]

/-- A channel account with some available ink. -/
def account3 (subTank : Nat) (s : State) : State :=
  { s with ink := { s.ink with accounts := s.ink.accounts.set 3 { Account.reset with subTank := subTank } } }

/-- R115: a grant clears a set flag with a WAIT_END that shows what the grant leaves; a decline sets one. -/
theorem test_ink_waits :
    let counted' := { band with state := .counted }
    let s := account3 150594 (withBands [counted'])
    let waiting := { s with ink := { s.ink with waits := s.ink.waits.set 3 true } }
    (after (exec .inkRequest waiting)).link.ret.map Entry.payload =
      [.notice (.waitEnd { channel := 3, asker := .band 12 0, amount := 594, available := 0, cartridge := .absent })] ∧
    (after (exec .inkRequest (account3 150593 (withBands [counted'])))).link.ret.map Entry.payload =
      [.notice (.waitStart
        { channel := 3, asker := .band 12 0, amount := 594, available := 593, cartridge := .absent })] := by decide

/-- InkRequested: the whole available ink, one nL more, an asker that is not ready, and a CLEAN that asks. -/
theorem witness_InkRequested :
    let counted' := { band with state := .counted }
    let r : Request := { serial := 3, who := .band 12 0, amounts := [(3, 594)], ready := true }
    let clean := { ready with path := { ready.path with waiting := [op (.clean 2 [(3, 594)] false)] } }
    asker (withBands [counted']) = some r ∧ (r.amounts.map Prod.fst).Nodup ∧
    (withBands [counted']).tables.lock ≠ some .channelMap ∧
    (∀ a ∈ r.amounts, a.2 ≤ (account3 150594 (withBands [counted'])).ink.accounts[a.1].subTank -
      (150000 + (account3 150594 (withBands [counted'])).ink.accounts[a.1].reserved)) ∧
    (∃ a ∈ r.amounts, a.2 ≠ 0 ∧ (account3 150593 (withBands [counted'])).ink.accounts[a.1].subTank -
      (150000 + (account3 150593 (withBands [counted'])).ink.accounts[a.1].reserved) < a.2) ∧
    (asker (withBands [{ band with state := .filled }])).map Request.ready = some false ∧
    (asker clean).map Request.who = some .clean ∧ asker ready = none ∧ ready.path.waiting = [] ∧
    ((withBands [counted']).path.store.find? fun b =>
      b.state != .reserved && b.state != .queued && b.state != .inFlight) = some counted' := by decide

/-- A printer with a queue. -/
def queueing (q : List QEntry) (s : State) : State := { s with path := { s.path with queue := q } }

/-- OperationsEnterQueue: a RESERVED band, one that is not, a FEED, a CLEAN not granted, an abort feed with a place
and without one. -/
theorem witness_OperationsEnterQueue :
    let reserved := { band with state := .reserved }
    let abort := op (.feed .abort 32)
    ((withBands [reserved]).path.store.find? fun a => a.waits) = some reserved ∧
    (∀ o ∈ (withBands [reserved]).path.waiting.head?, reserved.serial ≤ o.serial) ∧
    findItem (withBands [reserved]) 5 = some { item with started := true } ∧
    (withBands [reserved]).tables.mediaProfile = some profile ∧ (withBands [reserved]).path.abortWait = [] ∧
    (withBands [reserved]).path.queue = [] ∧ (withBands [reserved]).media.remainder = none ∧ { band with state := .counted }.waits = true ∧
    waitingOps.path.waiting = op (.feed .record 32) :: List.replicate 3 (op (.feed .record 32)) ∧
    { ready with path := { ready.path with waiting := [op (.feed .record 32)] } }.path.waiting =
      op (.feed .record 32) :: [] ∧
    (∀ b ∈ ready.path.store, b.waits = true → 4 < b.serial) ∧
    { ready with path := { ready.path with waiting := [op (.clean 2 [] false)] } }.path.waiting =
      op (.clean 2 [] false) :: [] ∧
    { ready with path := { ready.path with abortWait := [abort] } }.path.abortWait = abort :: [] ∧
    placesHeld { ready with path := { ready.path with abortWait := [abort] } } < 4 ∧ 4 ≤ placesHeld waitingOps := by
  decide
/-- OperationsEnterQueue, R69: the first band of an item with none of the conditions met, and a band behind the
remainder of the last one in its slot, in the queue and yet to come. -/
theorem witness_OperationsEnterQueue_waits :
    let reserved := { band with state := .reserved }
    let s := { withItems [item] with path := { ready.path with store := [reserved] } }
    let rest := { op (.feed (.bandRest 0) 12) with rest := true }
    (s.path.store.find? fun a => a.waits) = some reserved ∧ findItem s 5 = some item ∧ item.started = false ∧
    item.isClosing = false ∧ (∀ o ∈ s.path.waiting, o.serial ≤ reserved.serial) ∧
    (s.path.store.countP fun a => a.item == 5 && a.state == .reserved) < profile.startDepth ∧
    rest.work = .feed (.bandRest reserved.slot) 12 ∧
    (after (exec .queueEntry s)).path.queue = [] ∧
    (after (exec .queueEntry (queueing [.op rest] (withBands [reserved])))).path.queue = [.op rest] ∧
    (after (exec .queueEntry ((withBands [reserved]).onMedia fun m => { m with remainder := some rest }))).path.queue =
      [] := by decide

/-- OperationOffered: a busy link; a pending part; an empty queue; a BAND, of a HELD item, and with the cutter
CUTTING; a FEED; a CLEAN. -/
theorem witness_OperationOffered :
    let b := { band with state := .queued }
    let s := queueing [.band 3] (withBands [b])
    let held := queueing [.band 3]
      { withItems [{ item with state := .held, under := some .opened }] with path := s.path }
    let feed := queueing [.op (op (.feed .record 32))] ready
    let clean := queueing [.op (op (.clean 2 [(3, 120000)] true))] ready
    let verify := { ready with colour := { ready.colour with verify := { Verify.reset with pending := some .dark } } }
    (flying (flight (.verify .white) .pausedAt) ready).path.flight ≠ none ∧ verify.path.flight = none ∧
    verify.colour.verify.pending = some .dark ∧ verify.path.engine = .running ∧ ready.path.queue = [] ∧
    { verify.path with engine := .fault }.engine = .fault ∧ { verify.path with engine := .paused }.engine = .paused ∧
    s.path.flight = none ∧ s.colour.verify.pending = none ∧ s.path.engine = .running ∧
    s.path.queue = .band b.serial :: [] ∧ findBand s b.serial = some b ∧ itemHeld s b.item = false ∧
    s.cutter.state ≠ .cutting ∧ itemHeld held b.item = true ∧ (holding .cutting s).cutter.state = .cutting ∧
    feed.path.queue = .op (op (.feed .record 32)) :: [] ∧
    clean.path.queue = .op (op (.clean 2 [(3, 120000)] true)) :: [] := by decide

/-- FeedPlanned: four stops in the feed, and five. -/
theorem witness_FeedPlanned :
    ((List.replicate 4 (cutAt cutStop)).Pairwise fun a b => a.position ≤ b.position) ∧
    ((List.replicate 4 (cutAt cutStop)).filter fun u =>
      decide ((120048 : Row) ≤ u.position) && decide (u.position ≤ (120048 : Row) + (0 : Nat))).length ≤ 4 ∧
    ((List.replicate 5 (cutAt cutStop)).Pairwise fun a b => a.position ≤ b.position) ∧
    4 < ((List.replicate 5 (cutAt cutStop)).filter fun u =>
      decide ((120000 : Row) ≤ u.position) && decide (u.position ≤ (120000 : Row) + (48 : Nat))).length := by decide

/-- OfferAnswered: no operation; a second and a third offer; their deadline passed and not. -/
theorem witness_OfferAnswered :
    let f n := flight (.verify .white) (.offering n 100000#32)
    (∀ g, ready.path.flight = some g → g.opId = 9 → ∀ n d, g.phase ≠ .offering n d) ∧
    (flying (f 2) ready).path.flight = some (f 2) ∧ (f 2).phase = .offering 2 100000#32 ∧ 2 < 3 ∧
    (flying (f 3) ready).path.flight = some (f 3) ∧ 3 ≤ 3 ∧ passed ready.now 100000#32 = true ∧
    passed ready.now 100001#32 = false :=
  ⟨fun _ h => (nomatch h), rfl, rfl, by decide, rfl, by decide, by decide, by decide⟩

/-- EngineStates: a timer at its limit and 1 ms below; every engine state; nothing in flight, scanned or measured. -/
theorem witness_EngineStates :
    let f := { flight (.band 3) (.running 100000#32) with elapsed := 20000 }
    (flying f ready).path.flight = some f ∧ f.phase = .running 100000#32 ∧ f.work.kind = .band ∧
    20000 ≤ f.elapsed + (ready.now - 100000#32).toNat ∧ 19999 + (ready.now - 100000#32).toNat < 20000 ∧
    ready.path.engine = .running ∧ State.reset.path.engine = .waitingEngine ∧
    { ready with path := { ready.path with engine := .fault, readySeen := true } }.path.readySeen = true ∧
    { ready with path := { ready.path with engine := .paused } }.path.engine = .paused ∧ ready.path.flight = none ∧
    ready.colour.scan = none ∧ ready.colour.measure = none := by decide

/-- An operation with its first pause point still to come. -/
def approaching (stop : Nat) : Flight :=
  { flight (.band 3) (.running 95000#32) with points := [{ stop := stop, offset := 10 }] }

/-- PauseReported: no operation; a paused one; another index; a measure stop, a cut stop, and one that has gone. -/
theorem witness_PauseReported :
    let m := flying (approaching 8) (atStop measureAt ready)
    let c := flying (approaching 7) (atStop (cutAt cutStop) ready)
    (∀ f, ready.path.flight = some f → f.opId ≠ 9) ∧
    (∀ since, (flight (.band 3) .pausedAt).phase ≠ .running since) ∧
    m.path.flight = some (approaching 8) ∧ (approaching 8).phase = .running 95000#32 ∧
    (approaching 8).points[(approaching 8).reported]? = some { stop := 8, offset := 10 } ∧
    (1 ≠ (approaching 8).reported ∨ (approaching 8).points.length ≤ 1) ∧ findStop m 8 = some measureAt ∧
    measureAt.kind = .measure { layout := 2, strip := 6 } ∧ findStop c 7 = some (cutAt cutStop) ∧
    (cutAt cutStop).kind = .cut cutStop ∧ c.cutter.state = .idle ∧ c.cutter.held = none ∧ findStop m 7 = none ∧
    (holding .fault c).cutter.held = some 7 :=
  ⟨fun _ h => (nomatch h), fun _ h => (nomatch h), rfl, rfl, rfl, by decide, by decide, rfl, by decide, rfl, rfl, rfl,
    by decide, rfl⟩
/-- R142: a stop that the cutter already holds is not started again. -/
theorem test_pause_at_held_stop :
    let s := flying (approaching 7) (holding .fault (atStop (cutAt cutStop) ready))
    (after (exec (.paused 9 0) s)).cutter = s.cutter ∧
    (after (exec (.paused 9 0) s)).path.flight.map Flight.phase = some .pausedAt := by decide

/-- BandSettles: a band in flight, its points reported, a slip of 3 rows and of 2, its timer at the limit, and an offer
of it. -/
theorem witness_BandSettles :
    let f := { flight (.band 3) (.running 80000#32) with opId := 9 }
    let s := flying f (withBands [band])
    s.path.flight = some f ∧ (∀ n d, f.phase ≠ .offering n d) ∧ f.work = .band band.serial ∧
    findBand s band.serial = some band ∧ (band.channels.map BandChannel.chan).Nodup ∧
    findItem s band.item = some { item with started := true } ∧ (s.items.live.map Item.uid).Nodup ∧
    s.path.engine = .running ∧ f.reported = f.points.length ∧ 20000 ≤ f.elapsed + (s.now - 80000#32).toNat ∧
    NoStripAtSensor s ∧ slipNotices f { s with media := { s.media with rowsMoved := 35 } } ≠ [] ∧
    slipNotices f { s with media := { s.media with rowsMoved := 30 } } = [] ∧
    (flying (flight (.band 3) (.offering 1 100500#32)) (withBands [band])).path.flight =
      some (flight (.band 3) (.offering 1 100500#32)) ∧
    (∀ c ∈ band.channels, 0 < c.reserve → s.ink.slots[c.chan].cart.supplies = false) :=
  ⟨rfl, fun _ _ h => (nomatch h), rfl, by decide, by decide, by decide, by decide, rfl, rfl, by decide,
    ⟨fun _ h => (nomatch h), rfl⟩, by decide, by decide, rfl, by decide⟩
/-- R75, R81, R124, R127: a DONE that slipped by 3 rows pauses the engine, moves the plan row and puts the remainder in
front of the queue. -/
theorem test_band_done_slips :
    let rest := { op (.feed (.bandRest 0) 12) with rest := true }
    let s := flying (flight (.band 3) (.running 90000#32)) (withBands [band])
    let t := after (exec (.done 9) { s with media := { s.media with rowsMoved := 35, remainder := some rest } })
    t.path.engine = .paused ∧ t.items.planRow = 3 ∧ t.path.queue = [.op rest] ∧ t.media.remainder = none := by decide
/-- R77: an ABORTED of a band that is only offered is a PROTOCOL fault; the band settles in full. -/
theorem test_aborted_while_offering :
    let t := after (exec (.aborted 9 3) (flying (flight (.band 3) (.offering 1 100500#32)) (withBands [band])))
    t.path.engine = .fault ∧ t.path.flight = none ∧ t.path.store = [] ∧ t.items.live.map Item.rowsPrinted = [32] := by
  decide

/-- A test in its WHITE part whose readings are `v` for each filter. -/
def testing (v : Nat) : State :=
  { ready with colour := { ready.colour with verify :=
    { busy := true, test := some { code := 5, current := .white, outcomes := [] }, pending := none,
      readings := Vector.replicate 4 (List.replicate 8 v), malformed := false, result := 0 } } }

/-- OtherOperationsEnd: another id; a paused operation; a CLEAN of no item; the running timer. -/
theorem witness_OtherOperationsEnd :
    let feed := op (.feed .record 32)
    let clean := op (.clean 2 [(3, 120000), (5, 120000)] true)
    (∀ f, (flying (flight (.op feed) (.running 90000#32)) ready).path.flight = some f → f.opId ≠ 8) ∧
    (∀ since, (flight (.op feed) .pausedAt).phase = .running since →
      (flight (.op feed) .pausedAt).reported ≠ (flight (.op feed) .pausedAt).points.length) ∧
    (∀ n d, (flight (.op clean) (.running 90000#32)).phase ≠ .offering n d) ∧ clean.owner = none ∧
    NoStripAtSensor ready ∧ clean.work = .clean 2 [(3, 120000), (5, 120000)] true ∧
    (([(3, 120000), (5, 120000)] : List (Chan × Nat)).map Prod.fst).Nodup ∧
    (flight (.op clean) (.running 90000#32)).reported = (flight (.op clean) (.running 90000#32)).points.length ∧
    (flight (.op feed) (.running 90000#32)).work.kind = .feed ∧ 10000 ≤ 0 + (ready.now - 90000#32).toNat := by
  refine ⟨fun f h => ?_, fun _ h => (nomatch h), fun _ _ h => (nomatch h), rfl, ⟨fun _ h => (nomatch h), rfl⟩, rfl,
    by decide, rfl, rfl, by decide⟩
  cases h
  decide

/-- OtherOperationsEnd, a FEED: the last abort FEED of an item, one with another behind it, and a run-out FEED with a
stop ahead. -/
theorem witness_OtherOperationsEnd_feed :
    let abort := { op (.feed .abort 32) with owner := some 5 }
    let s := flying (flight (.op abort) (.running 90000#32)) (withItems [{ item with abortFeedRows := 32 }])
    let more := { s with path := { s.path with abortWait := [abort] } }
    let runOut := op (.feed .runOut 48)
    let u := atStop { cutAt cutStop with position := 120080 } ready
    LiveAfterFeed abort s [item] ∧ LiveAfterFeed abort more [{ item with abortFeedRows := 32 }] ∧
    LiveAfterFeed runOut ready [] ∧ NoStripAtSensor s ∧
    (after (exec (.done 9) s)).items.live.map Item.abortFeedRows = [0] ∧ runOutReady u = true ∧
    ((after (exec (.done 9) (flying { flight (.op runOut) (.running 90000#32) with commanded := 0 } u))).path.queue.map
      QEntry.op?) = [some { serial := 0, owner := none, work := .feed .runOut 32, rest := false }] := by
  refine ⟨⟨[], rfl, fun uid n h _ _ => ?_, fun h => ?_⟩,
    ⟨[{ op (.feed .abort 32) with owner := some 5 }], rfl, fun uid n h _ h2 => ?_, fun _ => rfl⟩,
    ⟨[], rfl, fun uid n h => (nomatch h), fun _ => rfl⟩, ⟨fun _ h => (nomatch h), rfl⟩, by decide, by decide, by decide⟩
  · cases h
    rfl
  · rcases h with h | h | ⟨w, h, _⟩
    · exact nomatch h
    · exact absurd rfl (h 32)
    · exact nomatch h
  · cases h
    exact absurd rfl (h2 _ (List.mem_singleton.mpr rfl) rfl 32)

/-- OtherOperationsEnd, a VERIFY part: whole readings that meet the condition of WHITE, that do not, and readings not
whole; the next part of the full test pends after a pass. -/
theorem witness_OtherOperationsEnd_verify :
    let f := flight (.verify .white) (.running 80000#32)
    (flying f (testing 30000)).path.flight = some f ∧ f.work = .verify .white ∧
    (testing 30000).colour.verify.test = some { code := 5, current := .white, outcomes := [] } ∧
    ReadingsWhole .white (testing 30000).colour.verify ∧ ¬ReadingsWhole .white ready.colour.verify ∧
    (∀ g : Filter, HalfUp ((testing 30000).colour.verify.readings[g]).sum 8 30000) ∧
    (∀ x ∈ (testing 30000).colour.verify.readings[(3 : Filter)], x ≤ 65535) ∧
    FiguresOf .white (testing 30000).colour.verify (fun _ => 30000) [30000, 30000, 30000, 30000] ∧
    PartMeets .white ready.colour.cal (testing 30000).colour.verify (fun _ => 30000) ∧
    ¬PartMeets .white ready.colour.cal (testing 70).colour.verify (fun _ => 70) ∧
    (after (exec (.done 9) (flying f (testing 30000)))).colour.verify.pending = some .lamp ∧
    (after (exec (.done 9) (flying f (testing 70)))).colour.verify.result = 15 := by
  refine ⟨rfl, rfl, rfl, ⟨rfl, fun g _ => ?_⟩, fun h => ?_, fun g => ?_, ?_, rfl, fun g => ?_, fun h => ?_, ?_, ?_⟩
  · revert g; decide
  · exact absurd (h.2 0 (fun h => (nomatch h))) (by decide)
  · revert g; simp only [HalfUp]; decide
  · decide
  · revert g; decide
  · exact absurd (h 0).1 (by decide)
  · decide
  · decide

/-- The scan of the worked strip (09), its patches as the SCAN_DONE finds them. -/
def scan : Scan :=
  { item := 5, itemId := 12, job := 8, edition := some 517, panel := 1, strip := 6, layout := 2, position := 120048,
    stop := 8, opId := 9, integration := 8, deadline := some 100000#32,
    patches :=
      [{ expected := [0, 1, 2, 3], raws := [27345, 13250, 1000, 64000], mark := .complete },
       { expected := [1, 1, 1, 1], raws := [13240, 13251, 13262, 13250], mark := .complete },
       { expected := [0, 1, 2, 3], raws := [30002], mark := .opened }],
    ended := none }

/-- The scan of the worked strip at its end (R151). -/
def endedScan : Scan :=
  { scan with patches := scan.patches.map ScanPatch.close, deadline := none, ended := some .done }

/-- The operation that is paused at a stop. -/
def pausedFlight (stop : Nat) : Flight :=
  { flight (.band 3) .pausedAt with points := [{ stop := stop, offset := 10 }], reported := 1 }

/-- A printer paused at the measure stop with a scan. -/
def scanning (c : Option Scan) : State :=
  let s := flying (pausedFlight 8) (atStop measureAt (withItems [item]))
  { s with colour := { s.colour with scan := c, measure := if c.isSome then none else some 8 } }

/-- ScanRuns: a dispatched stop; patches of each mark and beyond the count; a VERIFY; an OFFERING link; a scan that has
ended; the deadline reached and not. -/
theorem witness_ScanRuns :
    let s := scanning none
    let missed : ScanPatch := { expected := [0, 1, 2, 3], raws := [], mark := .missed }
    let r := { scan with patches := scan.patches ++ [missed] }
    s.colour.measure = some measureAt.uid ∧ s.colour.scan = none ∧ s.tables.patch = some patches ∧
    s.path.flight = some (pausedFlight 8) ∧ pausedStop s = some measureAt.uid ∧
    findStop s measureAt.uid = some measureAt ∧ measureAt.kind = .measure { layout := 2, strip := 6 } ∧
    measureAt.panel = some 1 ∧ findItem s measureAt.item = some item ∧ 2 < patches[2].count ∧
    patches[2].patches[1].filter = (1 : Filter).val ∧ patches[2].patches[1].mode = 2 ∧ patches[2].patches[0].mode = 0 ∧
    (scanning (some r)).colour.scan = some r ∧ r.ended = none ∧ r.patches.length ≤ 4 ∧
    (r.patches[0]?).map ScanPatch.mark = some .complete ∧ (r.patches[2]?).map ScanPatch.mark = some .opened ∧
    (r.patches[2]?).bind (fun p => p.expected[p.raws.length]?) = some 1 ∧ r.patches[3]? = some missed ∧
    (pausedFlight 8).phase = .pausedAt ∧ (flight (.verify .lamp) (.running 95000#32)).work = .verify .lamp ∧
    (flight (.band 3) (.offering 1 95000#32)).phase = .offering 1 95000#32 ∧
    { scan with ended := some .done }.ended ≠ none ∧ scan.deadline = some 100000#32 ∧
    0 ≤ (s.now - 100000#32).toInt ∧ ({ s with now := 99999#32 }.now - 100000#32).toInt < 0 := by decide
/-- ScanRuns, the ends with the operation: a scan, and a measure action that waits, with a paused FEED and BAND. -/
theorem witness_ScanRuns_ends :
    let feed := flight (.op (op (.feed .record 32))) .pausedAt
    (scanning (some scan)).path.flight = some (pausedFlight 8) ∧ (scanning (some scan)).colour.scan = some scan ∧
    scan.ended = none ∧ (scanning (some scan)).colour.measure = none ∧ (scanning none).colour.scan = none ∧
    (scanning none).colour.measure = some measureAt.uid ∧ findStop (scanning none) measureAt.uid = some measureAt ∧
    (∀ n t, (pausedFlight 8).phase ≠ .offering n t) ∧ feed.work = .op (op (.feed .record 32)) ∧
    (flying feed (scanning none)).path.flight = some feed ∧ (pausedFlight 8).work = .band band.serial ∧
    findBand { scanning none with path := { (scanning none).path with store := [band] } } 3 = some band :=
  ⟨rfl, rfl, rfl, rfl, rfl, rfl, by decide, fun _ _ h => (nomatch h), rfl, rfl, rfl, by decide⟩
/-- R151: an ABORTED ends the scan, misses its open patch and removes its stop. -/
theorem test_scan_aborted :
    let t := after (exec (.aborted 9 4) (flying (flight (.op (op (.feed .record 32))) .pausedAt) (scanning (some scan))))
    t.colour.scan = some { endedScan with ended := some .aborted } ∧ t.media.stops = [] ∧ t.path.flight = none := by
  decide
/-- R148, R152: a HEAD_FAULT ends a waiting measure action, its strip unread and its panel INCOMPLETE. -/
theorem test_measure_unread :
    let s := flying (flight (.op (op (.feed .record 32))) .pausedAt) (atStop measureAt (withItems [opening]))
    let t := headFault .engineFault { s with colour := { s.colour with measure := some 8 } }
    t.colour.measure = none ∧ t.media.stops = [] ∧
    (t.items.live.map fun i => i.panels.map Panel.verdict) = [[.incomplete]] := by decide

/-- The calibration of the worked strip. -/
def calibration : Calibration :=
  { white := #v[52000, 50000, 48000, 61000], black := #v[1500, 1000, 1200, 1000], whitePassed := true,
    darkPassed := true, valid := true }

/-- A printer that has to judge it. -/
def judging (policy : Policy) (editions : List Edition) : State :=
  let s := withItems [{ opening with policy := policy }]
  { s with colour := { s.colour with scan := some endedScan, cal := calibration, editions := editions } }

/-- R151: the SCAN_DONE misses the patch that was still open. -/
theorem test_scan_done :
    (after (exec (.scanDone 9) (scanning (some scan)))).colour.scan = some endedScan := by decide

/-- 09, worked strip: the strip is INCOMPLETE, the panel goes from PASS to INCOMPLETE, and the baseline takes the
reflectances of patch 0. -/
theorem test_verdict :
    let t := after (exec .verdictComputation (judging .holdCut [{ freshEdition 517 with layout := some 2 }]))
    t.colour.scan = none ∧ (t.items.live.map fun i => i.panels.map Panel.verdict) = [[.incomplete]] ∧
    (t.colour.editions.map Edition.last) = [.incomplete] ∧
    (t.colour.editions.map fun e => e.values[0].toList) = [[some 2096, some 1024, some 0, some 4095]] := by decide

/-- The baseline of the worked strip's edition. -/
def workedEdition : Edition :=
  { freshEdition 517 with
    layout := some 2, printsClosed := 11,
    values := Vector.ofFn fun k =>
      if k.val = 1 then #v[none, some 1078, none, none]
      else if k.val = 2 then #v[some 3100, none, none, none] else #v[none, none, none, none] }

/-- 09, worked strip: the notice carries the panel verdict INCOMPLETE and four baseline values filled. -/
theorem test_verdict_notice :
    ((after (exec .verdictComputation (judging .holdCut [workedEdition]))).link.ret.any fun e => match e.payload with
      | .notice (.checkVerdict b) => b.print == some 12 && b.panelVerdict == some .incomplete && b.filled == 4 &&
          b.printsClosed == some 11 && b.lastVerdict == some .incomplete
      | _ => false) = true := by decide

/-- VerdictFigures, R154: with valid clear the power-on white and black values serve, whatever the record holds. -/
theorem witness_VerdictFigures_unvalid :
    let s := judging .report []
    let s := { s with colour := { s.colour with cal := { calibration with whitePassed := false, valid := false } } }
    (∀ f : Filter, s.colour.cal.black[f] < s.colour.cal.white[f]) ∧
    ((after (exec .verdictComputation s)).link.ret.any fun e => match e.payload with
      | .notice (.checkVerdict b) => b.stripVerdict == .uncalibrated &&
          (b.patches.take 1).map (fun x => x.figures.map FilterFigure.reflectance) == [[1821, 839, 0, 4095]]
      | _ => false) = true := by decide

/-- VerdictFigures, the rest of the body: an owner with its panel and one no longer live; an entry of the strip's
layout, of another, and none. -/
theorem witness_VerdictFigures_body :
    let s := judging .holdCut [workedEdition]
    (findItem s endedScan.item).map Item.print = some 12 ∧
    ((findItem s endedScan.item).bind fun i => i.panels.find? fun q => q.index == endedScan.panel) = some panel ∧
    s.colour.cal.valid = true ∧ (findItem s endedScan.item).map Item.fate = some .complete ∧
    endedScan.edition.bind (findEdition s) = some workedEdition ∧ workedEdition.layout = some endedScan.layout ∧
    findItem { s with items := ItemManager.reset } endedScan.item = none ∧
    ({ workedEdition with layout := some 3 }.layout ≠ none ∧
      { workedEdition with layout := some 3 }.layout ≠ some endedScan.layout) ∧
    endedScan.edition.bind (findEdition (judging .holdCut [])) = none ∧
    ({ s with colour := { s.colour with cal := Calibration.reset } }).colour.cal.valid = false := by decide

/-- VerdictFigures: an ended scan of layout 2 with two COMPLETE patches and a missed one, both tables free. -/
theorem witness_VerdictFigures :
    let s := judging .report []
    s.colour.scan = some endedScan ∧ endedScan.ended.isSome = true ∧ endedScan.layout = (2 : Fin 8).val ∧
    s.tables.patch = some patches ∧
    s.tables.tolerance = some (Vector.replicate 8 { warn := 40, fail := 80 }) ∧ s.tables.lock ≠ some .patch ∧
    s.tables.lock ≠ some .tolerance ∧ (∀ f : Filter, s.colour.cal.black[f] < s.colour.cal.white[f]) ∧
    (findItem s endedScan.item).map Item.policy = some .report ∧ findItem ready endedScan.item = none ∧
    (endedScan.patches[0]?).map ScanPatch.mark = some .complete ∧ 0 < patches[2].count ∧
    (∀ p ∈ endedScan.patches.take 2, ∀ f ∈ p.expected, ((p.expected.zip p.raws).filter fun x => x.1 == f) ≠ []) ∧
    (endedScan.patches[2]?).map ScanPatch.mark = some .missed ∧
    (staged .patch []).tables.lock = some .patch ∧ ready.colour.scan = none := by decide

/-- VerdictApplied: the same scan with a live owner under each policy, its panel, and its edition behind another. -/
theorem witness_VerdictApplied :
    let e := { freshEdition 517 with layout := some 2 }
    let s := judging .holdPrint [freshEdition 516, e]
    let i := { opening with policy := .holdPrint }
    findItem s endedScan.item = some i ∧ endedScan.edition = i.edition ∧
    (i.panels.find? fun q => q.index == endedScan.panel) = some panel ∧ (s.items.live.map Item.uid).Nodup ∧
    (i.policy = .holdPrint ∧ i.fate = .complete ∧ i.state = .opened) ∧ opening.policy = .holdCut ∧
    panel.verdict ≠ .fail ∧ endedScan.edition = some 517 ∧ s.colour.editions = [freshEdition 516] ++ e :: [] ∧
    e.number = 517 ∧ (s.colour.editions.map Edition.number).Nodup ∧ s.colour.cal.valid = true ∧
    (e.layout = none ∨ e.layout = some endedScan.layout) ∧
    ({ e with layout := some 3 }.layout ≠ none ∧ { e with layout := some 3 }.layout ≠ some endedScan.layout) := by
  decide

/-- VerdictApplied, the notices: at a FAIL a HOLD_CUT item's held stop that is WAITING, reported before or not. -/
theorem witness_VerdictApplied_holds :
    let fail : Scan := { endedScan with
      patches := [{ expected := [0, 1, 2, 3], raws := [60000, 60000, 60000, 60000], mark := .complete }] }
    let s := holding .waiting (atStop (cutAt { cutStop with hold := true }) (judging .holdCut []))
    let s := { s with colour := { s.colour with scan := some fail } }
    let t := after (exec .verdictComputation s)
    opening.policy = .holdCut ∧ opening.fate = .complete ∧ panel.verdict ≠ .fail ∧ s.cutter.state = .waiting ∧
    s.cutter.holdReported = false ∧ heldStop t = some (cutAt { cutStop with hold := true }, { cutStop with hold := true }) ∧
    t.cutter.holdReported = true ∧ (t.items.live.map fun i => i.panels.map Panel.verdict) = [[.fail]] ∧
    heldStop (judging .holdCut []) = none := by decide +kernel

/-- EncoderEdge: one edge short of a row, the edge that makes it, and a divisor that a commit lowered. -/
theorem witness_EncoderEdge :
    let s edges := { ready with media := { ready.media with roll := { ready.media.roll with edges := edges } } }
    4 = (match ready.tables.mediaProfile with
      | some p => p.divisor
      | none => 1) ∧ 1 ≤ 4 ∧ (s 2).media.roll.edges + 1 < 4 ∧ (s 3).media.roll.edges + 1 = 4 ∧
    1 = (match State.reset.tables.mediaProfile with
      | some p => p.divisor
      | none => 1) ∧ State.reset.media.roll.edges + 1 = 1 ∧
    (atStop measureAt ready).media.stops.head?.map Stop.position = some (atStop measureAt ready).media.roll.position ∧
    ready.media.stops.head?.map Stop.position ≠ some ready.media.roll.position ∧
    ((withItems [item]).items.live.find? fun k => decide (0 < k.reservation)) = some item ∧
    (∀ k ∈ ready.items.live, k.reservation = 0) ∧
    mediaMoving (flying (flight (.band 3) (.running 95000#32)) ready) = true ∧ mediaMoving ready = false := by decide

/-- A printer with items and few rows. -/
def nearEnd (items : List Item) : State :=
  let s := withItems items
  { s with media := { s.media with roll := { s.media.roll with remaining := 700 } } }

/-- RollEvents: reservations that fit 600 rows and one row more; COSTING items; the youngest item aborted; the run-out
wait's conditions, its moment and 1 ms before it. -/
theorem witness_RollEvents :
    let fits := { item with reservation := 600 }
    let tooMany := { item with reservation := 601 }
    let left := { item with uid := 4, reservation := 1, state := .costing }
    let s := atStop { measureAt with position := 120100 } ready
    (nearEnd [fits]).media.roll.loaded = true ∧ (nearEnd [fits]).media.rollEndArmed = true ∧
    ((nearEnd [fits]).items.live.map Item.uid).Nodup ∧ 600 = min (nearEnd [fits]).media.roll.remaining 600 ∧
    (nearEnd [fits]).media.roll.reserved ≤ 600 ∧ 600 < (nearEnd [left, fits]).media.roll.reserved ∧
    600 = (nearEnd [left, fits]).media.roll.reserved -
      (((nearEnd [left, fits]).items.live.filter fun i => i.state == .costing).map Item.reservation).sum ∧
    (nearEnd [tooMany]).items.live = [] ++ tooMany :: [] ∧ (∀ k ∈ (nearEnd [tooMany]).items.live, k.state ≠ .costing) ∧
    tooMany.fate = .complete ∧ 0 < tooMany.reservation ∧ 600 < (nearEnd [tooMany]).media.roll.reserved ∧
    (nearEnd [tooMany]).media.roll.reserved - tooMany.reservation ≤ 600 ∧ State.reset.media.roll.loaded = false ∧
    runOutReady s = true ∧ s.tables.mediaProfile = some profile ∧ s.media.runOut = none ∧ runOutReady ready = false ∧
    s.media.stops = { measureAt with position := 120100 } :: [] ∧
    52 = min ((120100 : Row) - s.media.roll.position).toNat s.media.roll.remaining ∧
    0 ≤ (s.now - 100000#32).toInt ∧ (s.now - 100001#32).toInt < 0 := by decide

/-- The body of a ROLL_LOAD of 9,600,000 rows. -/
def rollBytes : List Byte := leBytes 4 9600000 ++ [0#8, 0#8, 0#8, 0#8]

/-- RollLoaded: the longest roll and one row more; each ground of a refusal; nothing in the way, with stops and
without. -/
theorem witness_RollLoaded :
    numberBody rollBytes = some 9600000 ∧ numberBody (leBytes 4 9600001 ++ [0#8, 0#8, 0#8, 0#8]) = some 9600001 ∧
    numberBody [] = none ∧ State.reset.tables.mediaProfile = none ∧ ready.tables.mediaProfile = some profile ∧
    0 < (withItems [item]).media.roll.reserved ∧ (withBands [band]).path.store ≠ [] ∧
    mediaMoving (flying (flight (.op (op (.feed .record 32))) (.running 95000#32)) ready) = true ∧
    op (.feed .record 32) ∈ liveOps waitingOps ∧ (holding .waiting ready).cutter.held ≠ none ∧
    ready.media.roll.reserved = 0 ∧ ready.path.store = [] ∧ mediaMoving ready = false ∧ liveOps ready = [] ∧
    ready.cutter.held = none ∧ ready.media.stops = [] ∧ (atStop measureAt ready).media.stops ≠ [] := by decide
/-- RollLoaded, the dropped stops: a measure stop of a panel of a live item, its edition behind another in the table, and
a cut stop. -/
theorem witness_RollLoaded_stops :
    let i := { opening with state := .closing, reservation := 0 }
    let s := withItems [i]
    let s := { s with
      media := { s.media with stops := [measureAt, cutAt cutStop] },
      colour := { s.colour with editions := [freshEdition 516, freshEdition 517] } }
    let t := after (exec (.rollLoad 1#8 rollBytes) s)
    s.media.roll.reserved = 0 ∧ findItem s measureAt.item = some i ∧ measureAt.panel = some 1 ∧
    (i.panels.find? fun q => q.index == 1) = some panel ∧ i.edition = some (freshEdition 517).number ∧
    s.colour.editions = [freshEdition 516] ++ freshEdition 517 :: [] ∧ (s.colour.editions.map Edition.number).Nodup ∧
    measureAt.kind = .measure { layout := 2, strip := 6 } ∧ (∀ c ∈ s.colour.scan, c.ended ≠ none) ∧
    (t.link.ret.map fun e => match e.payload with
      | .notice n => n.cls.index.val
      | .reply _ _ => 99) = [3, 8, 1, 1, 5, 99] := by decide

/-- CutAttempts: a held stop in each state; each time at its limit; a retry with the cutter enabled and disabled. -/
theorem witness_CutAttempts :
    let s state := holding state (atStop (cutAt cutStop) (withItems [item]))
    let off := { profile with cutterEnabled := false }
    heldStop (s .waiting) = some (cutAt cutStop, cutStop) ∧ (s .waiting).cutter.state = .waiting ∧
    cutStop.notBefore = some 100000#32 ∧ 0 ≤ ((s .waiting).now - 100000#32).toInt ∧ cutStop.hold = false ∧
    0 ≤ ((s .waiting).now - ((s .waiting).cutter.lastEdge + 20#32)).toInt ∧ (s .waiting).colour.scan = none ∧
    (s .waiting).media.stops.head?.map Stop.uid = some (cutAt cutStop).uid ∧
    (s .cutting).cutter.state = .cutting ∧ (s .cutting).cutter.deadline = some 103000#32 ∧
    0 ≤ ({ s .cutting with now := 103000#32 }.now - 103000#32).toInt ∧
    ((s .cutting).now - 103000#32).toInt < 0 ∧ actsAtOnce (s .fault) = true ∧ (s .fault).cutter.state = .fault ∧
    (s .idle).cutter.state = .idle ∧ (s .idle).path.engine = .running ∧
    { (s .idle).cutter with retryPending := true }.retryPending = true ∧ profile.cutterEnabled = true ∧
    { (s .idle).tables with mediaProfile := some off }.mediaProfile = some off ∧ off.cutterEnabled = false := by decide
/-- CutAttempts, no stop held: a cutter at fault and a cut under way whose stop has left the list. -/
theorem witness_CutAttempts_none :
    heldStop ready = none ∧ ready.cutter.held = none ∧ heldStop (holding .cutting ready) = none ∧
    (holding .cutting ready).cutter.state = .cutting ∧ (holding .cutting ready).cutter.deadline = some 103000#32 ∧
    heldStop (holding .fault ready) = none ∧ (holding .fault ready).cutter.state = .fault ∧
    (holding .idle ready).cutter.retryPending = false ∧ actsAtOnce (holding .fault ready) = true := by decide

/-- CutCompletes: a cut 1 ms before its deadline and at it, its item OPEN. -/
theorem witness_CutCompletes :
    let s := holding .cutting (atStop (cutAt cutStop) (withItems [item]))
    heldStop s = some (cutAt cutStop, cutStop) ∧ s.cutter.state = .cutting ∧ s.cutter.deadline = some 103000#32 ∧
    ({ s with now := 102999#32 }.now - 103000#32).toInt < 0 ∧ 0 ≤ ({ s with now := 103000#32 }.now - 103000#32).toInt ∧
    findItem s (cutAt cutStop).item = some item ∧ (s.items.live.map Item.uid).Nodup ∧ item.state = .opened ∧
    s.cutter.dispatchedAt = some 90000#32 ∧ s.cutter.startedAt = some 95000#32 ∧ s.cutter.bladeCount + 1 < 2 ^ 64 := by
  decide

/-- A placed cartridge. -/
def placed (state : CartState) (estimate : Nat) : Cartridge :=
  { cart state with contents := some tag, estimate := some estimate, lastMl := ceilDiv estimate 1000000 }

/-- SlotLines: a slot in each state with its lines; 250 ms and 249 ms; each sensed level held 100 ms and 99 ms. -/
theorem witness_SlotLines :
    let one := { Slot.reset with d1 := true, cart := cart .seating }
    let going := { seated { placed .ready 35010000 with removal := some 99750#32 } with d1 := false, bothSince := none }
    let low := { seated (placed .ready 35010000) with l2 := false, levelSince := 99900#32 }
    Slot.reset.detect .d1 = false ∧ Slot.reset.cart = Cartridge.cleared ∧ one.detect .d1 = true ∧
    one.detect .d2 = false ∧ one.cart.state ≠ .absent ∧ one.cart = { Cartridge.cleared with state := .seating } ∧
    (seated (cart .reading)).cart.state ≠ .absent ∧ (seated (cart .reading)).cart.state ≠ .seating ∧
    (seated (cart .seating)).bothSince = some 99750#32 ∧ 0 ≤ (ready.now - (99750#32 + 250#32)).toInt ∧
    (ready.now - (99751#32 + 250#32)).toInt < 0 ∧ going.cart.removal = some 99750#32 ∧
    (going.d1 && going.d2) = false ∧ going.cart.placed = true ∧ going.cart.contents = some tag ∧
    going.cart.estimate = some 35010000 ∧ (cart .rejected).placed = false ∧ (cart .rejected).state ≠ .absent ∧
    ¬(Slot.reset.l1 = false ∧ Slot.reset.l2 = true) ∧
    Sensed.low = (if low.l1 = false then .empty else if low.l2 = false then .low else .ok) ∧ low.sensed ≠ .low ∧
    0 ≤ (ready.now - (low.levelSince + 100#32)).toInt ∧ (ready.now - (99901#32 + 100#32)).toInt < 0 ∧
    low.cart.supplies = true ∧ lowMark ready 7 < 35010000 ∧ 20000000 ≤ lowMark ready 7 ∧ 0 < 35010000 ∧
    0 < low.cart.lastMl ∧ low.cart.writeFailures < 3 ∧ low.cart.write = none ∧
    (placed .low 20000000).supplies = true ∧ (placed .empty 0).supplies = false := by decide

/-- TagExchanges: a read at 100 ms and 1 ms later, at its second and third attempt; good and bad contents; a kind
check of each outcome; a write at 50 ms and 1 ms later, at its second and third failure. -/
theorem witness_TagExchanges :
    let k := { cart .reading with readSince := some 99900#32, readAttempts := 2 }
    let c := { cart .reading with contents := some tag }
    let w : TagWrite := { value := 34980000, since := 99950#32 }
    let p := { placed .ready 34970000 with write := some w }
    k = (slotted (seated k) ready).ink.slots[7].cart ∧ k.state = .reading ∧ k.readSince = some 99900#32 ∧
    (ready.now - 99900#32).toNat ≤ 100 ∧ 100 < (ready.now - 99899#32).toNat ∧
    0 ≤ (ready.now - (99900#32 + 100#32)).toInt ∧ (ready.now - (99901#32 + 100#32)).toInt < 0 ∧
    k.readAttempts < 3 ∧ 3 ≤ { k with readAttempts := 3 }.readAttempts ∧
    tag.remaining.toNat ≤ tag.fill.toNat ∧ tag.fill.toNat < { tag with remaining := 700000001#32 }.remaining.toNat ∧
    c.contents = some tag ∧ c.state = .reading ∧ c.readSince = none ∧ ready.tables.channelMap = some chanMap ∧
    ready.tables.lock ≠ some .channelMap ∧ 2 = (if false then 1 else 0) + (if true then 2 else 0) ∧
    chanMap[7].inkKind = tag.kind.toNat ∧ tag.sizeClass.val = 2 ∧ fillAllowed 2 tag.fill.toNat = true ∧
    c.write = none ∧ c.reason = none ∧ chanMap[7].inkKind ≠ { tag with kind := 0#8 }.kind.toNat ∧
    tag.sizeClass.val ≠ 0 ∧ p.write = some w ∧ (ready.now - w.since).toNat ≤ 50 ∧
    50 < (ready.now - 99949#32).toNat ∧ 0 ≤ (ready.now - (w.since + 50#32)).toInt ∧
    (ready.now - (99951#32 + 50#32)).toInt < 0 ∧ p.state ≠ .reading ∧ p.estimate = some 34970000 ∧
    { p with writeFailures := 2 }.writeFailures = 2 ∧ p.writeFailures < 2 ∧
    { cart .reading with write := some w }.state = .reading := by decide

/-- ColourRecords: the busy flag clear and set; a body that goes on; an edition that is held and one that is not. -/
theorem witness_ColourRecords :
    ready.colour.verify.busy = false ∧ { ready.colour.verify with busy := true }.busy = true ∧ [0#8] ≠ [] ∧
    numberBody (leBytes 4 3 ++ [0#8, 0#8, 0#8, 0#8]) = some 3 ∧
    (∃ e ∈ fullEditions.colour.editions, e.number = 3) ∧ (∀ e ∈ ready.colour.editions, e.number ≠ 3) ∧
    numberBody [3#8] = none := by decide

/-- Pricing: an item to price with its job CLOSING or OPEN; a DONE job; the lock, and PRICE absent. -/
theorem witness_Pricing :
    let done := { job with state := .done, flush := #v[0, 0, 0, 120000, 0, 120000, 0, 0, 0, 0, 0, 0] }
    let j := { ready with items := { ready.items with jobs := [done] }, costing := { Costing.reset with jobQueue := [8] } }
    pricing.costing.queue = costed.uid :: [] ∧ findItem pricing costed.uid = some costed ∧
    (pricing.items.live.map Item.uid).Nodup ∧ costed.uid ∉ ([] : List Nat) ∧ pricing.tables.price = some price ∧
    pricing.tables.lock ≠ some .price ∧ costed.noteKind = (2 : Fin 8).val ∧ 185000 = price.perM2[2] ∧
    pricing.items.jobs = [] ++ job :: [] ∧ job.number = costed.job ∧ job.itemsClosed + 1 < 2 ^ 32 ∧
    job.total + 122751 < 2 ^ 64 ∧ (∀ k ∈ pricing.items.live, k.uid ≠ costed.uid → k.job ≠ costed.job) ∧
    j.costing.queue = [] ∧ j.costing.jobQueue = done.number :: [] ∧ findJob j done.number = some done ∧
    j.tables.price = some price ∧ (staged .price []).tables.lock = some .price ∧ State.reset.tables.price = none := by
  decide

/-- The charge of that job: 756 ticks. -/
theorem witness_Pricing_charge :
    HalfUp ((List.finRange 12).map fun c =>
      (#v[0, 0, 0, 120000, 0, 120000, 0, 0, 0, 0, 0, 0] : Vector Nat 12)[c] * price.perMl[c]).sum 1000000 756 ∧
    job.total + 756 < 2 ^ 64 := by
  unfold HalfUp
  decide

/-- Dumps: the last number of all and a count of 8, of which none is held; a record that is held; a body that goes on. -/
theorem witness_Dumps :
    let body : List Byte := [255#8, 255#8, 255#8, 255#8, 8#8, 0#8, 0#8, 0#8]
    let one : List Byte := [1#8, 0#8, 0#8, 0#8, 1#8, 0#8, 0#8, 0#8]
    body.length = 8 ∧ (∀ k, k < 8 → 5 ≤ k → u8 body k = 0) ∧ u32 body 0 ≠ 0 ∧ u8 body 4 ≤ 8 ∧
    (List.range (u8 body 4)).map (fun k => (u32 body 0 - 1 + k) % 4294967295 + 1) = [4294967295, 1, 2, 3, 4, 5, 6, 7] ∧
    (∃ n ∈ [4294967295, 1], ∀ r ∈ ready.costing.log, r.number ≠ n) ∧
    (List.range (u8 one 4)).map (fun k => (u32 one 0 - 1 + k) % 4294967295 + 1) = [1] ∧
    (∃ r ∈ (after (exec .itemPricing pricing)).costing.log, r.number = 1) ∧
    ¬(1 ≤ u8 [1#8, 0#8, 0#8, 0#8, 0#8, 0#8, 0#8, 0#8] 4) ∧ [0#8] ≠ [] := by decide

end Sys2Proof.Tests
end

/-! ## Rounding, counts and deadlines (R1, R2) -/

namespace Sys2Proof.Machine

/-- R2: the rounding of the model is the rounding the claims speak of. -/
theorem halfUp_roundHalfUp (num : Nat) {den : Nat} (h : 0 < den) : HalfUp num den (roundHalfUp num den) := by
  have hd : 0 < 2 * den := by omega
  have hmul := Nat.div_mul_le_self (num * 2 + den) (2 * den)
  have hlt := Nat.lt_mul_div_succ (num * 2 + den) hd
  unfold HalfUp roundHalfUp
  constructor
  · linarith
  · linarith

/-- R2: a quotient has one value rounded half up. -/
theorem HalfUp.eq_roundHalfUp {num den q : Nat} (h : HalfUp num den q) : roundHalfUp num den = q := by
  obtain ⟨hle, hlt⟩ := h
  refine Nat.div_eq_of_lt_le ?_ ?_
  · linarith
  · linarith

/-- A count that fits its width is the sum itself. -/
theorem countOf_of_lt {width n : Nat} (h : n < 2 ^ width) : countOf width n = n := if_pos h

/-- R1: a deadline has passed when the signed difference is not negative. -/
theorem passed_iff (now notBefore : Time) : passed now notBefore = true ↔ 0 ≤ (now - notBefore).toInt := by
  simp [passed, BitVec.msb_eq_toInt]

/-- R1: a deadline within half the counter's range has passed exactly from its moment on, across a wrap too. -/
theorem passed_add_iff (start : Time) {d e : Nat} (hd : d < 2147483648) (he : e < 2147483648) :
    passed (start + BitVec.ofNat 32 e) (start + BitVec.ofNat 32 d) = true ↔ d ≤ e := by
  have hdiff : (BitVec.ofNat 32 e - BitVec.ofNat 32 d).toInt = (e : Int) - d := by
    rw [BitVec.toInt_sub, BitVec.toInt_ofNat', BitVec.toInt_ofNat', Int.bmod_sub_bmod, Int.sub_bmod_bmod,
      Int.bmod_eq_of_le (by omega) (by omega)]
  rw [passed_iff, add_sub_add_left_eq_sub, hdiff]
  omega

/-- R24: the clamps of a committed MEDIA_PROFILE. -/
theorem judgeImage_mediaProfile_times {image : List Byte} {p : MediaProfile}
    (h : judgeImage .mediaProfile image = some (.mediaProfile p)) : p.dryTime ≤ 3600000 ∧ p.runOutDelay ≤ 60000 := by
  simp only [judgeImage] at h
  split at h
  · cases h
    exact ⟨Nat.min_le_right _ _, Nat.min_le_right _ _⟩
  · cases h

/-- Settles O9: the signed difference of two moments at most half the counter's range apart. -/
theorem deadlinePassed : Obligations.DeadlinePassed := by
  refine ⟨passed_iff, fun start d e hd he => passed_add_iff start (by omega) he, ?_, ?_⟩
  · simp [lockMs, answerMs, scanMs, cutMs, stillMs, seatMs, levelMs, tagReadMs, tagWriteMs]
  · intro image p h
    obtain ⟨hdry, hrun⟩ := judgeImage_mediaProfile_times h
    omega

end Sys2Proof.Machine

/-! ## Rules of the shared operations: a notice, the run-out look, items and jobs by key -/

namespace Sys2Proof.Machine

/-- R129: the look at the run-out wait leaves the roll. -/
@[simp] theorem keepRunOut_roll (s : State) : (keepRunOut s).media.roll = s.media.roll := by
  unfold keepRunOut
  split <;> rfl

/-- The frame of a command around what its meaning makes of the state. -/
theorem command_eq {f : State → State} {s t : State} (h : f s.clearOut = t) :
    command f s = .next (keepRunOut t) := by rw [command, h]

/-- R11: the return queue after a notice rests on the queue before, the committed levels and the moment alone. -/
theorem raise_link_congr (n : Notice) {s u : State} (hl : u.link = s.link) (ht : u.tables = s.tables)
    (hn : u.now = s.now) : (raise n u).link = (raise n s).link := by
  have hc : classLevel u n.cls = classLevel s n.cls := by simp [classLevel, ht]
  simp only [raise, hc, hn]
  split <;> simp [hl]

/-- A change of the items that keeps their keys is seen by looking one up. -/
theorem findItem_mapItem (u v : Nat) {f : Item → Item} (hf : ∀ i, (f i).uid = i.uid) (s : State) :
    findItem (mapItem u f s) v = (findItem s v).map fun i => if i.uid = u then f i else i := by
  have hkey : ((fun i : Item => i.uid == v) ∘ fun i => if i.uid = u then f i else i) = fun i => i.uid == v := by
    funext i
    by_cases h : i.uid = u <;> simp [h, hf]
  simp only [findItem, mapItem, State.onItems_items, List.find?_map, hkey]

@[simp] theorem mapJob_live (n : Nat) (f : Job → Job) (s : State) : (mapJob n f s).items.live = s.items.live := rfl

/-- A lookup rests on the live items alone. -/
theorem findItem_congr {s t : State} (h : t.items.live = s.items.live) (u : Nat) : findItem t u = findItem s u := by
  rw [findItem, h, findItem]

/-- Where one job of the table has the number, a change of that number changes it alone. -/
theorem mapJob_jobs_of_unique {s : State} {n : Nat} {before after : List Job} {j : Job}
    (hs : s.items.jobs = before ++ j :: after) (hj : j.number = n) (h : ∀ k ∈ before ++ after, k.number ≠ n)
    (f : Job → Job) : (mapJob n f s).items.jobs = before ++ f j :: after := by
  have hother : ∀ l : List Job, (∀ k ∈ l, k.number ≠ n) → l.map (fun k => if k.number = n then f k else k) = l :=
    fun l hl => (List.map_congr_left fun k hk => if_neg (hl k hk)).trans (List.map_id' l)
  simp only [mapJob, State.onItems_items, hs, List.map_append, List.map_cons, if_pos hj]
  rw [hother before fun k hk => h k (by simp [hk]), hother after fun k hk => h k (by simp [hk])]

/-- A job among jobs of other numbers is the one its number finds. -/
theorem findJob_of_unique {s : State} {n : Nat} {before after : List Job} {j : Job}
    (hs : s.items.jobs = before ++ j :: after) (hj : j.number = n) (h : ∀ k ∈ before ++ after, k.number ≠ n) :
    findJob s n = some j := by
  rw [findJob, hs, List.find?_append, List.find?_eq_none.2 fun k hk => by simp [h k (by simp [hk])]]
  simp [hj]

end Sys2Proof.Machine

/-! ## Costing (R173 to R179): the cost record, the pricing of an item, and of a job -/

namespace Sys2Proof.Machine

theorem priceReadable_of_price {s : State} {p : Price} (hp : s.tables.price = some p) (hl : s.tables.lock ≠ some .price) :
    priceReadable s = true := by
  simp [priceReadable, locked, hp, hl]

theorem priceReadable_eq_false {s : State} (h : s.tables.price = none ∨ s.tables.lock = some .price) :
    priceReadable s = false := by
  obtain h | h := h <;> simp [priceReadable, locked, h]

/-! ### The cost record -/

/-- R157: the worse of two verdicts is one of them, and neither ranks above it. -/
theorem Verdict.worse_spec (a b : Verdict) :
    a.rank ≤ (a.worse b).rank ∧ b.rank ≤ (a.worse b).rank ∧ (a.worse b = a ∨ a.worse b = b) := by
  unfold Verdict.worse
  split
  · exact ⟨by omega, le_refl _, .inr rfl⟩
  · exact ⟨le_refl _, by omega, .inl rfl⟩

/-- R157: the worst of some verdicts has the highest rank and is the first or one of them. -/
theorem foldl_worse_spec (vs : List Verdict) (a : Verdict) :
    a.rank ≤ (vs.foldl Verdict.worse a).rank ∧ (∀ v ∈ vs, v.rank ≤ (vs.foldl Verdict.worse a).rank) ∧
      (vs.foldl Verdict.worse a = a ∨ vs.foldl Verdict.worse a ∈ vs) := by
  induction vs generalizing a with
  | nil => simp
  | cons v vs ih =>
    obtain ⟨ha, hv, hpick⟩ := Verdict.worse_spec a v
    obtain ⟨hle, hall, hmem⟩ := ih (a.worse v)
    refine ⟨ha.trans hle, ?_, ?_⟩
    · simp only [List.mem_cons, forall_eq_or_imp]
      exact ⟨hv.trans hle, hall⟩
    · obtain hmem | hmem := hmem
      · obtain hpick | hpick := hpick
        · exact .inl (hmem.trans hpick)
        · exact .inr (by rw [List.foldl_cons, hmem, hpick]; exact List.mem_cons_self)
      · exact .inr (by simp [hmem])

/-- R178: the worst panel verdict of a cost record. -/
theorem costOf_worst (i : Item) (p : Price) (number version : Nat) :
    (∀ q ∈ i.panels, q.verdict.rank ≤ (costOf i p number version).worst.rank) ∧
    ((costOf i p number version).worst = .none ∨ ∃ q ∈ i.panels, q.verdict = (costOf i p number version).worst) := by
  obtain ⟨-, hall, hmem⟩ := foldl_worse_spec (i.panels.map Panel.verdict) .none
  exact ⟨fun q hq => hall _ (List.mem_map_of_mem hq), hmem.imp id List.mem_map.1⟩

/-- R175, R176: each figure of a cost record is rounded half up once from its exact quotient. -/
theorem costOf_figures (i : Item) (p : Price) (number version : Nat) :
    (∀ c : Chan, HalfUp (i.imageDpl[c] * p.perMl[c]) 10000000000 (costOf i p number version).imageInk[c]) ∧
    HalfUp (inkSum i.checkDpl p.perMl) 10000000000 (costOf i p number version).checkInk ∧
    HalfUp (inkSum i.flushNl p.perMl) 1000000 (costOf i p number version).flush ∧
    HalfUp (i.noteWidth * i.imageRows * 254 * p.m2 i.noteKind) 12000000000
      (costOf i p number version).imageMedia ∧
    HalfUp (i.noteWidth * i.checkRows * 254 * p.m2 i.noteKind) 12000000000
      (costOf i p number version).checkMedia ∧
    HalfUp (i.noteWidth * (i.gutterRows + i.leadRows) * 254 * p.m2 i.noteKind) 12000000000
      (costOf i p number version).wasteMedia := by
  refine ⟨fun c => ?_, halfUp_roundHalfUp _ (by omega), halfUp_roundHalfUp _ (by omega),
    halfUp_roundHalfUp _ (by omega), halfUp_roundHalfUp _ (by omega), halfUp_roundHalfUp _ (by omega)⟩
  have hc : (costOf i p number version).imageInk[c] = imageInkTicks i.imageDpl[c] p.perMl[c] := by simp [costOf]
  rw [hc]
  exact halfUp_roundHalfUp _ (by omega)

/-- R25: the price per m² of a roll kind in range. -/
theorem Price.m2_of_kind (p : Price) (kind : Fin 8) : p.m2 kind.val = p.perM2[kind] := by
  simp [Price.m2, List.getD_eq_getElem?_getD]

/-! ### The close of an item (R52) and of its job (R42) -/

/-- R45: the release of a live item's reservation. -/
theorem releaseReservation_of_find {s : State} {u : Nat} {i : Item} (h : findItem s u = some i) :
    (releaseReservation u s).items.jobs = s.items.jobs ∧
    (releaseReservation u s).items.live =
      s.items.live.map (fun k => if k.uid = u then { k with reservation := 0 } else k) ∧
    (releaseReservation u s).media.roll = { s.media.roll with reserved := s.media.roll.reserved - i.reservation } := by
  simp [releaseReservation, h, mapItem]

/-- What a change gives to the items of one identity is gone once they are. -/
theorem filter_uid_map (u : Nat) {f : Item → Item} (hf : ∀ i, (f i).uid = i.uid) (l : List Item) :
    (l.map fun k => if k.uid = u then f k else k).filter (fun k => k.uid != u) = l.filter fun k => k.uid != u := by
  induction l with
  | nil => rfl
  | cons k l ih => by_cases h : k.uid = u <;> simp_all

/-- R42: a CLOSING job with no live item becomes DONE and joins the job pricing queue. -/
theorem settleJob_done {s : State} {n : Nat} {j : Job} (hj : findJob s n = some j) (hs : j.state = .closing)
    (hi : ∀ k ∈ s.items.live, k.job ≠ n) :
    settleJob n s = (mapJob n (fun j => { j with state := .done }) s).onCosting fun c =>
      { c with jobQueue := c.jobQueue ++ [n] } := by
  have hany : (s.items.live.any fun i => i.job == n) = false := by simpa using hi
  simp [settleJob, hj, hs, hany]

/-- R42: a job in another state, or with a live item, stays as it is. -/
theorem settleJob_stays {s : State} {n : Nat} {j : Job} (hj : findJob s n = some j)
    (h : j.state ≠ .closing ∨ ∃ k ∈ s.items.live, k.job = n) : settleJob n s = s := by
  have hcond : ¬(j.state = .closing ∧ (s.items.live.any fun i => i.job == n) = false) := by
    rintro ⟨hc, hany⟩
    obtain h | ⟨k, hk, hkn⟩ := h
    · exact h hc
    · simp only [List.any_eq_false, beq_iff_eq] at hany
      exact hany k hk hkn
  simp only [settleJob, hj, if_neg hcond]

/-- R42: closing a job leaves the items, the queue of items to price and the cost log. -/
@[simp] theorem settleJob_keeps (n : Nat) (s : State) :
    (settleJob n s).items.live = s.items.live ∧ (settleJob n s).costing.queue = s.costing.queue ∧
    (settleJob n s).costing.log = s.costing.log ∧ (settleJob n s).costing.nextRecord = s.costing.nextRecord := by
  unfold settleJob
  (repeat' split) <;> simp [mapJob]

/-- R162: the count of prints rests on the colour check unit alone. -/
theorem countPrint_colour_congr (i : Item) {s u : State} (h : u.colour = s.colour) :
    (countPrint i u).colour = (countPrint i s).colour := by
  unfold countPrint
  split <;> simp [mapEdition, h]

/-- R162: an item that names no edition, or is aborted, counts for none. -/
theorem countPrint_of_none (i : Item) (s : State) (h : i.edition = none ∨ i.fate = .aborted) : countPrint i s = s := by
  unfold countPrint
  split
  · simp_all
  · rfl

/-- R162: a COMPLETE item counts as one more print of its edition. -/
theorem countPrint_of_complete {i : Item} {n : Nat} (s : State) (hn : i.edition = some n) (hf : i.fate = .complete)
    (hfit : ∀ e ∈ s.colour.editions, e.number = n → e.printsClosed + 1 < 2 ^ 32) :
    (countPrint i s).colour = { s.colour with editions := s.colour.editions.map fun e =>
      if e.number = n then { e with printsClosed := e.printsClosed + 1 } else e } := by
  have hmap : s.colour.editions.map (fun e =>
        if e.number = n then { e with printsClosed := countOf 32 (e.printsClosed + 1) } else e) =
      s.colour.editions.map fun e => if e.number = n then { e with printsClosed := e.printsClosed + 1 } else e := by
    refine List.map_congr_left fun e he => ?_
    split
    · next h => rw [countOf_of_lt (hfit e he h)]
    · rfl
  simp [countPrint, hn, hf, mapEdition, hmap]

/-- The state in which the close of item `i` applies R42 to its job. -/
def beforeSettle (i : Item) (s : State) : State :=
  (countPrint i (mapJob i.job (fun j => { j with itemsClosed := countOf 32 (j.itemsClosed + 1) })
    (releaseReservation i.uid s))).onItems fun m => { m with live := m.live.filter fun k => k.uid != i.uid }

theorem closeItem_eq {s : State} {i : Item} (h : findItem s i.uid = some i) :
    closeItem i.uid s = settleJob i.job (beforeSettle i s) := by
  simp only [closeItem, h, beforeSettle]

/-- R52: what the close of an item leaves before R42 is applied. -/
theorem beforeSettle_spec {s : State} {i : Item} (h : findItem s i.uid = some i) :
    (beforeSettle i s).items.live = s.items.live.filter (fun k => k.uid != i.uid) ∧
    (beforeSettle i s).items.jobs =
      (mapJob i.job (fun j => { j with itemsClosed := countOf 32 (j.itemsClosed + 1) }) s).items.jobs ∧
    (beforeSettle i s).media.roll = { s.media.roll with reserved := s.media.roll.reserved - i.reservation } ∧
    (beforeSettle i s).colour = (countPrint i s).colour ∧ (beforeSettle i s).costing = s.costing := by
  obtain ⟨hjobs, hlive, hroll⟩ := releaseReservation_of_find h
  have hcolour := countPrint_colour_congr i (s := s)
    (u := mapJob i.job (fun j => { j with itemsClosed := countOf 32 (j.itemsClosed + 1) }) (releaseReservation i.uid s))
    (by simp)
  simp only [beforeSettle, State.onItems_items, State.onItems_media, State.onItems_colour, State.onItems_costing,
    countPrint_frame, mapJob_frame, releaseReservation_frame, mapJob_live, hlive, hroll, hcolour]
  exact ⟨filter_uid_map i.uid (f := fun k => { k with reservation := 0 }) (fun _ => rfl) _,
    by simp [mapJob, hjobs], trivial, trivial, trivial⟩

/-- R52: what the close of an item leaves apart from its job. -/
theorem closeItem_spec {s : State} {i : Item} (h : findItem s i.uid = some i) :
    (closeItem i.uid s).items.live = s.items.live.filter (fun k => k.uid != i.uid) ∧
    (closeItem i.uid s).media.roll = { s.media.roll with reserved := s.media.roll.reserved - i.reservation } ∧
    (closeItem i.uid s).colour = (countPrint i s).colour ∧
    (closeItem i.uid s).costing.queue = s.costing.queue ∧ (closeItem i.uid s).costing.log = s.costing.log ∧
    (closeItem i.uid s).costing.nextRecord = s.costing.nextRecord := by
  obtain ⟨hlive, -, hroll, hcolour, hcosting⟩ := beforeSettle_spec h
  simp [closeItem_eq h, hlive, hroll, hcolour, hcosting]

section JobOfItem

variable {s : State} {i : Item} {before after : List Job} {j : Job} (h : findItem s i.uid = some i)
  (hs : s.items.jobs = before ++ j :: after) (hj : j.number = i.job)
  (hu : ∀ k ∈ before ++ after, k.number ≠ i.job)

include h hs hj hu

/-- R52: the job counts the item before R42 is applied. -/
theorem beforeSettle_jobs : (beforeSettle i s).items.jobs =
    before ++ { j with itemsClosed := countOf 32 (j.itemsClosed + 1) } :: after := by
  obtain ⟨-, hjobs, -⟩ := beforeSettle_spec h
  rw [hjobs, mapJob_jobs_of_unique hs hj hu]

/-- R42: the close of the last live item of a CLOSING job makes the job DONE. -/
theorem closeItem_last (hc : j.state = .closing) (hl : ∀ k ∈ s.items.live, k.uid ≠ i.uid → k.job ≠ i.job) :
    (closeItem i.uid s).items.jobs =
      before ++ { j with itemsClosed := countOf 32 (j.itemsClosed + 1), state := .done } :: after ∧
    (closeItem i.uid s).costing.jobQueue = s.costing.jobQueue ++ [i.job] := by
  obtain ⟨hlive, -, -, -, hcosting⟩ := beforeSettle_spec h
  have hjobs := beforeSettle_jobs h hs hj hu
  rw [closeItem_eq h, settleJob_done (findJob_of_unique hjobs hj hu) hc (by simpa [hlive] using hl)]
  exact ⟨mapJob_jobs_of_unique hjobs hj hu _, by simp [hcosting]⟩

/-- R42: the close of an item leaves the state of a job that is not CLOSING or has another live item. -/
theorem closeItem_notLast (hn : j.state ≠ .closing ∨ ∃ k ∈ s.items.live, k.uid ≠ i.uid ∧ k.job = i.job) :
    (closeItem i.uid s).items.jobs =
      before ++ { j with itemsClosed := countOf 32 (j.itemsClosed + 1) } :: after ∧
    (closeItem i.uid s).costing.jobQueue = s.costing.jobQueue := by
  obtain ⟨hlive, -, -, -, hcosting⟩ := beforeSettle_spec h
  have hjobs := beforeSettle_jobs h hs hj hu
  rw [closeItem_eq h, settleJob_stays (findJob_of_unique hjobs hj hu) (by simpa [hlive, and_assoc] using hn)]
  exact ⟨hjobs, by rw [hcosting]⟩

end JobOfItem

/-! ### The pricing of an item (R178) and of a job (R179) -/

/-- R178: the record of an item has been taken into the log, reported, and added to the running total of its job. -/
def recordTaken (i : Item) (r : CostRecord) (s : State) : State :=
  mapJob i.job (fun j => { j with total := countOf 64 (j.total + r.total) }) <| raise (.costRecord r) <|
    s.onCosting fun c =>
      { c with queue := c.queue.filter fun u => u != i.uid, log := appendLog r c.log,
               nextRecord := nextNumber c.nextRecord }

theorem priceItem_eq {s : State} {i : Item} {p : Price} (hi : findItem s i.uid = some i)
    (hp : s.tables.price = some p) : priceItem i.uid s =
      closeItem i.uid (recordTaken i (costOf i p s.costing.nextRecord s.tables.priceVersion) s) := by
  simp only [priceItem, hi, hp, recordTaken]

@[simp] theorem recordTaken_frame (i : Item) (r : CostRecord) (s : State) :
    (recordTaken i r s).now = s.now ∧ (recordTaken i r s).pending = s.pending ∧
    (recordTaken i r s).tables = s.tables ∧ (recordTaken i r s).path = s.path ∧ (recordTaken i r s).ink = s.ink ∧
    (recordTaken i r s).media = s.media ∧ (recordTaken i r s).cutter = s.cutter ∧
    (recordTaken i r s).colour = s.colour ∧ (recordTaken i r s).items.live = s.items.live ∧
    (recordTaken i r s).costing =
      { s.costing with queue := s.costing.queue.filter fun u => u != i.uid, log := appendLog r s.costing.log,
                       nextRecord := nextNumber s.costing.nextRecord } := by
  simp [recordTaken]

theorem recordTaken_link (i : Item) (r : CostRecord) (s : State) :
    (recordTaken i r s).link = (raise (.costRecord r) s).link := by
  simp only [recordTaken, mapJob_frame]
  exact raise_link_congr _ rfl rfl rfl

/-- R178: the running total of the job gains the record's. -/
theorem recordTaken_jobs {s : State} {i : Item} {r : CostRecord} {before after : List Job} {j : Job}
    (hs : s.items.jobs = before ++ j :: after) (hj : j.number = i.job)
    (hu : ∀ k ∈ before ++ after, k.number ≠ i.job) (hfit : j.total + r.total < 2 ^ 64) :
    (recordTaken i r s).items.jobs = before ++ { j with total := j.total + r.total } :: after := by
  rw [← countOf_of_lt hfit]
  exact mapJob_jobs_of_unique (by simpa using hs) hj hu _

theorem exec_itemPricing (s : State) : exec .itemPricing s = execItemPricing s := rfl

theorem exec_jobPricing (s : State) : exec .jobPricing s = execJobPricing s := rfl

theorem exec_itemPricing_waits {s : State} (h : s.costing.queue = [] ∨ priceReadable s = false) :
    Waits .itemPricing s := by
  rw [Waits, exec_itemPricing, execItemPricing]
  refine command_eq ?_
  simp only [State.clearOut_costing]
  split
  · next hq =>
    have hr : priceReadable s.clearOut = false := h.resolve_left (by simp [hq])
    simp [hr]
  · rfl

theorem exec_itemPricing_due {s : State} {u : Nat} {rest : List Nat} (hq : s.costing.queue = u :: rest)
    (hr : priceReadable s = true) : exec .itemPricing s = .next (keepRunOut (priceItem u s.clearOut)) := by
  rw [exec_itemPricing, execItemPricing]
  refine command_eq ?_
  have hr' : priceReadable s.clearOut = true := hr
  simp [hq, hr']

theorem exec_jobPricing_waits {s : State}
    (h : s.costing.jobQueue = [] ∨ s.costing.queue ≠ [] ∨ priceReadable s = false) : Waits .jobPricing s := by
  rw [Waits, exec_jobPricing, execJobPricing]
  refine command_eq ?_
  simp only [State.clearOut_costing]
  split
  · next hq =>
    refine if_neg ?_
    rintro ⟨hr, he⟩
    obtain h | h | h := h
    · simp [hq] at h
    · exact h he
    · exact absurd (h.symm.trans hr) (by decide)
  · rfl

theorem exec_jobPricing_due {s : State} {n : Nat} {rest : List Nat} (hq : s.costing.queue = [])
    (hj : s.costing.jobQueue = n :: rest) (hr : priceReadable s = true) :
    exec .jobPricing s = .next (keepRunOut (priceJob n s.clearOut)) := by
  rw [exec_jobPricing, execJobPricing]
  refine command_eq ?_
  have hr' : priceReadable s.clearOut = true := hr
  simp [hq, hj, hr']

/-- R178: a queue without repetition loses its head alone. -/
theorem filter_bne_head {u : Nat} {rest : List Nat} (h : u ∉ rest) : ((u :: rest).filter fun v => v != u) = rest := by
  have hrest : ∀ v ∈ rest, (v != u) = true := by
    intro v hv
    simpa using fun he : v = u => h (he ▸ hv)
  simpa using hrest

/-- R179: what the pricing of a job leaves, the charge rounded half up and the total within 64 bits. -/
theorem priceJob_eq {s : State} {j : Job} {p : Price} {rest : List Nat} {charge : Nat}
    (hq : s.costing.jobQueue = j.number :: rest) (hrest : j.number ∉ rest) (hj : findJob s j.number = some j)
    (hp : s.tables.price = some p) (hc : HalfUp (inkSum j.flush p.perMl) 1000000 charge)
    (hfit : j.total + charge < 2 ^ 64) :
    priceJob j.number s =
      (raise (.jobClosed { number := j.number, fate := j.fate, itemsClosed := j.itemsClosed,
                           total := j.total + charge, charge := charge, flush := j.flush })
        (s.onCosting fun k => { k with jobQueue := rest })).onItems fun m =>
          { m with jobs := m.jobs.filter fun k => k.number != j.number } := by
  have hflush : flushTicks j.flush p.perMl = charge := hc.eq_roundHalfUp
  simp only [priceJob, hj, hp, hflush, countOf_of_lt hfit, State.onCosting, hq, filter_bne_head hrest]

/-- The blocks that the pricing of an item leaves. -/
theorem priceItem_onlyChanges (u : Nat) (s : State) :
    OnlyChanges [.link, .items, .media, .colour, .costing] s (keepRunOut (priceItem u s.clearOut)) := by
  refine ⟨by simp, by simp, fun b hb => ?_⟩
  cases b <;> simp_all [SameBlock]

section ItemPriced

variable {s : State} {i : Item} {p : Price} {rest : List Nat} (hi : findItem s i.uid = some i)
  (hp : s.tables.price = some p)

include hi hp

/-- R52, R178: what an item's pricing leaves apart from its job. -/
theorem priceItem_spec (hq : s.costing.queue = i.uid :: rest) (hrest : i.uid ∉ rest) :
    (priceItem i.uid s).link =
      (raise (.costRecord (costOf i p s.costing.nextRecord s.tables.priceVersion)) s).link ∧
    (priceItem i.uid s).costing.queue = rest ∧
    (priceItem i.uid s).costing.log =
      appendLog (costOf i p s.costing.nextRecord s.tables.priceVersion) s.costing.log ∧
    (priceItem i.uid s).costing.nextRecord = nextNumber s.costing.nextRecord ∧
    (priceItem i.uid s).items.live = s.items.live.filter (fun k => k.uid != i.uid) ∧
    (priceItem i.uid s).media.roll = { s.media.roll with reserved := s.media.roll.reserved - i.reservation } ∧
    (priceItem i.uid s).colour = (countPrint i s).colour := by
  have hi' : findItem (recordTaken i (costOf i p s.costing.nextRecord s.tables.priceVersion) s) i.uid = some i :=
    (findItem_congr (by simp) _).trans hi
  obtain ⟨hlive, hroll, hcolour, hqueue, hlog, hnext⟩ := closeItem_spec hi'
  have hprint := countPrint_colour_congr i (s := s)
    (u := recordTaken i (costOf i p s.costing.nextRecord s.tables.priceVersion) s) (by simp)
  rw [priceItem_eq hi hp]
  simp [hlive, hroll, hcolour, hqueue, hlog, hnext, hprint, recordTaken_link, hq, filter_bne_head hrest]

variable {before after : List Job} {j : Job} (hs : s.items.jobs = before ++ j :: after) (hj : j.number = i.job)
  (hu : ∀ k ∈ before ++ after, k.number ≠ i.job)

include hs hj hu

/-- R42, R178: the job of a priced item counts it, gains its total, and becomes DONE in the job pricing queue when it
is CLOSING and the item was its last. -/
theorem priceItem_job (hclosed : j.itemsClosed + 1 < 2 ^ 32)
    (htotal : j.total + (costOf i p s.costing.nextRecord s.tables.priceVersion).total < 2 ^ 64) :
    ∃ j', (priceItem i.uid s).items.jobs = before ++ j' :: after ∧ j'.itemsClosed = j.itemsClosed + 1 ∧
      j'.total = j.total + (costOf i p s.costing.nextRecord s.tables.priceVersion).total ∧ j'.flush = j.flush ∧
      j'.fate = j.fate ∧ j'.number = j.number ∧
      (j.state = .closing → (∀ k ∈ s.items.live, k.uid ≠ i.uid → k.job ≠ i.job) →
        j'.state = .done ∧ (priceItem i.uid s).costing.jobQueue = s.costing.jobQueue ++ [i.job]) ∧
      (j.state ≠ .closing ∨ (∃ k ∈ s.items.live, k.uid ≠ i.uid ∧ k.job = i.job) →
        j'.state = j.state ∧ (priceItem i.uid s).costing.jobQueue = s.costing.jobQueue) := by
  rw [priceItem_eq hi hp]
  generalize costOf i p s.costing.nextRecord s.tables.priceVersion = r at htotal ⊢
  have hi' : findItem (recordTaken i r s) i.uid = some i := (findItem_congr (by simp) _).trans hi
  have hs' := recordTaken_jobs hs hj hu htotal
  have hcount := countOf_of_lt hclosed
  by_cases hlast : j.state = .closing ∧ ∀ k ∈ s.items.live, k.uid ≠ i.uid → k.job ≠ i.job
  · obtain ⟨hc, hl⟩ := hlast
    obtain ⟨hjobs, hqueue⟩ := closeItem_last hi' hs' hj hu hc (by simpa using hl)
    refine ⟨_, hjobs, hcount, rfl, rfl, rfl, rfl, fun _ _ => ⟨rfl, by simpa using hqueue⟩, ?_⟩
    rintro (hn | ⟨k, hk, hne, hkj⟩)
    · exact absurd hc hn
    · exact absurd hkj (hl k hk hne)
  · have hn : j.state ≠ .closing ∨ ∃ k ∈ s.items.live, k.uid ≠ i.uid ∧ k.job = i.job := by
      by_contra hcon
      push Not at hcon
      exact hlast hcon
    obtain ⟨hjobs, hqueue⟩ := closeItem_notLast hi' hs' hj hu (by simpa using hn)
    exact ⟨_, hjobs, hcount, rfl, rfl, rfl, rfl, fun hc hl => absurd ⟨hc, hl⟩ hlast,
      fun _ => ⟨rfl, by simpa using hqueue⟩⟩

end ItemPriced

/-- Settles O59: the record by `costOf_figures`, what follows by `priceItem_spec` and `priceItem_job`. -/
theorem pricing : Obligations.Pricing := by
  refine ⟨fun s h => exec_itemPricing_waits (h.imp_right priceReadable_eq_false),
    fun s h => exec_jobPricing_waits (h.imp_right (Or.imp_right priceReadable_eq_false)), ?_, ?_⟩
  · rintro i p rest m2 s hq hi - hrest hp hl ⟨kind, hkind, rfl⟩
    have hm2 : p.m2 i.noteKind = p.perM2[kind] := by rw [hkind, p.m2_of_kind]
    obtain ⟨himage, hcheck, hflush, himageM, hcheckM, hwasteM⟩ :=
      costOf_figures i p s.costing.nextRecord s.tables.priceVersion
    obtain ⟨hworst, hworstIn⟩ := costOf_worst i p s.costing.nextRecord s.tables.priceVersion
    rw [hm2] at himageM hcheckM hwasteM
    have hi' : findItem s.clearOut i.uid = some i := hi
    obtain ⟨hlink, hqueue, hlog, hnext, hlive, hroll, hcolour⟩ := priceItem_spec (s := s.clearOut) hi' hp hq hrest
    refine ⟨_, costOf i p s.costing.nextRecord s.tables.priceVersion,
      exec_itemPricing_due hq (priceReadable_of_price hp hl), rfl, rfl, rfl, rfl, rfl, rfl, rfl, rfl, rfl, rfl, rfl, rfl,
      hworst, hworstIn, himage, hcheck, hflush, himageM, hcheckM, hwasteM, rfl, rfl, ?_, ?_, ?_, ?_, ?_, ?_, ?_, ?_,
      ?_, priceItem_onlyChanges i.uid s⟩
    · simp only [keepRunOut_frame, hlink]
      exact raise_link_congr _ rfl rfl rfl
    · simpa using hqueue
    · simp only [keepRunOut_frame, hlog]
      rfl
    · simp only [keepRunOut_frame, hnext]
      rfl
    · simpa using hlive
    · simpa using hroll
    · intro before j after hs hj hu hclosed htotal
      simpa using priceItem_job (s := s.clearOut) hi' hp hs hj hu hclosed htotal
    · intro h
      simp [hcolour, countPrint_of_none i _ h]
    · intro n hn hf hfit
      simpa [hcolour] using countPrint_of_complete s.clearOut hn hf hfit
  · intro j p rest charge s hq hjq hrest hj hp hl hc hfit
    rw [Leaves, exec_jobPricing_due hq hjq (priceReadable_of_price hp hl)]
    rw [priceJob_eq (s := s.clearOut) hjq hrest hj hp hc hfit]

end Sys2Proof.Machine

/-! ## The verdict computation (R153 to R160): entries, merge, fill, and the body of the notice -/

namespace Sys2Proof.Machine

/-! ### The entry of a patch (R154 to R156) -/

theorem layoutOf_val (tables : Vector PatchLayout 8) (l : Fin 8) : layoutOf tables l.val = tables[l] := by
  simp [layoutOf]

/-- R149: a filter is measured on a patch where its sequence has it. -/
theorem ScanPatch.mem_measured (p : ScanPatch) (f : Filter) : f ∈ p.measured ↔ f ∈ p.expected := by
  simp [ScanPatch.measured]

/-- R153, R163: a patch that is not COMPLETE, or at or beyond the committed count or the 24 of a layout, is MISSED. -/
theorem patchEntry_missed (cal : Calibration) (e : Option Edition) (layout : Nat) (l : PatchLayout) (lim : Limits)
    {index : Nat} {p : ScanPatch} (h : p.mark ≠ .complete ∨ l.count ≤ index ∨ 24 ≤ index) :
    patchEntry cal e layout l lim index p =
      { index := index, mark := .missed, figures := [], score := none, verdict := none } := by
  unfold patchEntry
  split
  · next d hd =>
    obtain ⟨hlt, -⟩ := Vector.getElem?_eq_some_iff.1 hd
    refine if_neg ?_
    rintro ⟨hc, hcount⟩
    obtain h | h | h := h
    · exact h hc
    all_goals omega
  · rfl

/-- R154, R155: the figures of a COMPLETE patch, one for each measured filter in filter order. -/
def figuresOf (cal : Calibration) (e : Option Edition) (layout : Nat) (l : PatchLayout) (k : Fin 24)
    (p : ScanPatch) : List FilterFigure :=
  p.measured.map (filterFigure cal e layout k.val l.patches[k] p)

/-- R154 to R156: the entry of a COMPLETE patch below the committed count. -/
theorem patchEntry_complete (cal : Calibration) (e : Option Edition) (layout : Nat) (l : PatchLayout) (lim : Limits)
    {k : Fin 24} {p : ScanPatch} (hc : p.mark = .complete) (hk : k.val < l.count) :
    patchEntry cal e layout l lim k.val p =
      { index := k.val, mark := .complete, figures := figuresOf cal e layout l k p,
        score := some (patchScore (figuresOf cal e layout l k p)),
        verdict := if cal.valid then some (scoreVerdict lim (patchScore (figuresOf cal e layout l k p))) else none } := by
  have hd : l.patches[k.val]? = some l.patches[k] := by simp
  simp only [patchEntry, hd, figuresOf]
  exact if_pos ⟨hc, hk⟩

/-- R163: every entry carries its patch's number. -/
theorem patchEntry_index (cal : Calibration) (e : Option Edition) (layout : Nat) (l : PatchLayout) (lim : Limits)
    (index : Nat) (p : ScanPatch) : (patchEntry cal e layout l lim index p).index = index := by
  unfold patchEntry
  (repeat' split) <;> rfl

/-- An entry with figures is that of one of a layout's 24 patches. -/
theorem patchEntry_index_lt (cal : Calibration) (e : Option Edition) (layout : Nat) (l : PatchLayout) (lim : Limits)
    {index : Nat} {p : ScanPatch} (h : (patchEntry cal e layout l lim index p).figures ≠ []) : index < 24 := by
  by_contra hge
  rw [patchEntry_missed cal e layout l lim (.inr (.inr (by omega)))] at h
  exact h rfl

/-- R155: the figures of a patch name its measured filters in filter order. -/
theorem figuresOf_filters (cal : Calibration) (e : Option Edition) (layout : Nat) (l : PatchLayout) (k : Fin 24)
    (p : ScanPatch) : (figuresOf cal e layout l k p).map FilterFigure.filter = p.measured := by
  rw [figuresOf, List.map_map]
  exact List.map_id' _

/-- The running maximum of the magnitudes bounds each and is the start or one of them. -/
theorem foldl_max_spec (gs : List FilterFigure) (m : Nat) :
    m ≤ gs.foldl (fun m g => max m g.deviation.natAbs) m ∧
    (∀ g ∈ gs, g.deviation.natAbs ≤ gs.foldl (fun m g => max m g.deviation.natAbs) m) ∧
    (gs.foldl (fun m g => max m g.deviation.natAbs) m = m ∨
      ∃ g ∈ gs, g.deviation.natAbs = gs.foldl (fun m g => max m g.deviation.natAbs) m) := by
  induction gs generalizing m with
  | nil => simp
  | cons g gs ih =>
    obtain ⟨hle, hall, hpick⟩ := ih (max m g.deviation.natAbs)
    simp only [List.foldl_cons, List.mem_cons, forall_eq_or_imp, exists_eq_or_imp]
    generalize gs.foldl (fun m g => max m g.deviation.natAbs) (max m g.deviation.natAbs) = r at hle hall hpick ⊢
    refine ⟨(le_max_left _ _).trans hle, ⟨(le_max_right _ _).trans hle, hall⟩, ?_⟩
    obtain hpick | hpick := hpick
    · obtain hm | hm := max_choice m g.deviation.natAbs
      · exact .inl (hpick.trans hm)
      · exact .inr (.inl (hpick.trans hm).symm)
    · exact .inr (.inr hpick)

/-- R156: the score of a patch is the largest magnitude of its deviations. -/
theorem patchScore_spec (gs : List FilterFigure) :
    (∀ g ∈ gs, g.deviation.natAbs ≤ patchScore gs) ∧ (gs ≠ [] → ∃ g ∈ gs, g.deviation.natAbs = patchScore gs) := by
  obtain ⟨-, hall, hpick⟩ := foldl_max_spec gs 0
  refine ⟨hall, fun hne => ?_⟩
  obtain hzero | hpick := hpick
  · obtain ⟨g, hg⟩ := List.exists_mem_of_ne_nil gs hne
    have hle : g.deviation.natAbs ≤ patchScore gs := hall g hg
    have hz : patchScore gs = 0 := hzero
    exact ⟨g, hg, by omega⟩
  · exact hpick

/-- R149: a patch with a sequence has figures. -/
theorem figuresOf_ne_nil (cal : Calibration) (e : Option Edition) (layout : Nat) (l : PatchLayout) (k : Fin 24)
    {p : ScanPatch} (h : p.expected ≠ []) : figuresOf cal e layout l k p ≠ [] := by
  obtain ⟨f, hf⟩ := List.exists_mem_of_ne_nil _ h
  exact List.ne_nil_of_mem (List.mem_map_of_mem ((p.mem_measured f).2 hf))

/-- R154: the values that serve a computation, of the record or of power-on (log 54). -/
theorem Calibration.used_values (cal : Calibration) (f : Filter) :
    cal.used.white[f] = (if cal.valid then cal.white[f] else 60000) ∧
    cal.used.black[f] = (if cal.valid then cal.black[f] else 1200) := by
  by_cases h : cal.valid = true
  · simp [cal.used_of_valid h, h]
  · simpa [h] using cal.used_of_not_valid (by simpa using h) f

/-- R166: where the record keeps white above black, so do the values that serve. -/
theorem Calibration.used_apart {cal : Calibration} {f : Filter} (h : cal.black[f] < cal.white[f]) :
    cal.used.black[f] < cal.used.white[f] := by
  obtain ⟨hw, hb⟩ := cal.used_values f
  rw [hw, hb]
  split <;> omega

/-- R154: the mean of a filter that has values is theirs, rounded half up. -/
theorem ScanPatch.mean_halfUp {p : ScanPatch} {f : Filter}
    (h : ((p.expected.zip p.raws).filter fun x => x.1 == f) ≠ []) :
    HalfUp (((p.expected.zip p.raws).filter fun x => x.1 == f).map Prod.snd).sum
      (((p.expected.zip p.raws).filter fun x => x.1 == f).map Prod.snd).length (p.mean f) :=
  halfUp_roundHalfUp _ (by simpa [List.length_pos_iff] using h)

theorem Edition.value_val (e : Edition) (k : Fin 24) (f : Filter) : e.value k.val f = e.values[k][f] := by
  simp [Edition.value]

/-! ### The strip verdict (R156) -/

theorem stripVerdict_eq (valid : Bool) (entries : List PatchEntry) :
    stripVerdict valid entries =
      (if valid = false then .uncalibrated
       else if ∃ x ∈ entries, x.verdict = some .fail then .fail
       else if ∃ x ∈ entries, x.mark = .missed then .incomplete
       else if ∃ x ∈ entries, x.verdict = some .warn then .warn
       else .pass) := by
  simp only [stripVerdict, List.any_eq_true, beq_iff_eq]


/-! ### Editions by number (R159) -/

/-- A figure of an edition that a change leaves is the same after it. -/
theorem findEdition_mapEdition_map {α : Type} {g : Edition → α} {f : Edition → Edition} (hg : ∀ e, g (f e) = g e)
    (hf : ∀ e, (f e).number = e.number) (m n : Nat) (s : State) :
    (findEdition (mapEdition m f s) n).map g = (findEdition s n).map g := by
  have hkey : ((fun e : Edition => e.number == n) ∘ fun e => if e.number = m then f e else e) =
      fun e => e.number == n := by
    funext e
    by_cases h : e.number = m <;> simp [h, hf]
  have hcomp : (g ∘ fun e : Edition => if e.number = m then f e else e) = g := by
    funext e
    by_cases h : e.number = m <;> simp [h, hg]
  simp only [findEdition, mapEdition, State.onColour_colour, List.find?_map, hkey, Option.map_map, hcomp]

/-- R159: moving an entry to the front changes no entry. -/
theorem find?_frontEdition (m n : Nat) (l : List Edition) :
    ((frontEdition m l).find? fun e => e.number == n) = l.find? fun e => e.number == n := by
  rw [frontEdition, List.find?_append, List.find?_filter, List.find?_filter]
  simp only [Bool.decide_and, Bool.decide_eq_true]
  by_cases h : m = n
  · have hfront : (fun e : Edition => e.number == m && e.number == n) = fun e => e.number == n := by
      simp [h]
    have hrest : (l.find? fun e => e.number != m && e.number == n) = none := by simp [h]
    rw [hfront, hrest, Option.or_none]
  · have hfront : (l.find? fun e => e.number == m && e.number == n) = none := by
      simp only [List.find?_eq_none, Bool.and_eq_true, beq_iff_eq, not_and]
      exact fun e _ hm hn => h (hm.symm.trans hn)
    have hrest : (fun e : Edition => e.number != m && e.number == n) = fun e => e.number == n := by
      funext e
      by_cases hn : e.number = n
      · simp [hn, Ne.symm h]
      · simp [hn]
    rw [hfront, hrest, Option.none_or]

@[simp] theorem findEdition_touchEdition (m : Option Nat) (s : State) (n : Nat) :
    findEdition (touchEdition m s) n = findEdition s n := by
  cases m with
  | none => rfl
  | some m => exact find?_frontEdition m n s.colour.editions

/-- A lookup rests on the edition table alone. -/
theorem findEdition_congr {s t : State} (h : t.colour.editions = s.colour.editions) (n : Nat) :
    findEdition t n = findEdition s n := by
  rw [findEdition, h, findEdition]

/-! ### The merge of a strip verdict into its panel (R157, R158) -/

/-- A figure of an item that a change leaves is the same after it. -/
theorem findItem_mapItem_map {α : Type} {g : Item → α} {f : Item → Item} (hg : ∀ i, g (f i) = g i)
    (hf : ∀ i, (f i).uid = i.uid) (u v : Nat) (s : State) :
    (findItem (mapItem u f s) v).map g = (findItem s v).map g := by
  have hcomp : (g ∘ fun i => if i.uid = u then f i else i) = g := by
    funext i
    by_cases h : i.uid = u <;> simp [h, hg]
  rw [findItem_mapItem u v hf, Option.map_map, hcomp]

@[simp] theorem findItem_raiseItem (c : ItemCode) (u : Nat) (s : State) (v : Nat) :
    findItem (raiseItem c u s) v = findItem s v := findItem_congr (by simp) v

@[simp] theorem findItem_holdCuts (u n : Nat) (s : State) (v : Nat) :
    findItem (holdCuts u n s) v = findItem s v := findItem_congr (by simp) v

@[simp] theorem findItem_mapEdition (m : Nat) (f : Edition → Edition) (s : State) (v : Nat) :
    findItem (mapEdition m f s) v = findItem s v := findItem_congr (by simp) v

@[simp] theorem findItem_touchEdition (m : Option Nat) (s : State) (v : Nat) :
    findItem (touchEdition m s) v = findItem s v := findItem_congr (by simp) v

/-- R53: a hold changes a state and the state under hold, and nothing else of an item. -/
theorem findItem_holdItem_map {α : Type} {g : Item → α}
    (hg : ∀ i st un, g { i with state := st, under := un } = g i) (u v : Nat) (s : State) :
    (findItem (holdItem u s) v).map g = (findItem s v).map g := by
  unfold holdItem
  split
  · split
    · rw [findItem_raiseItem]
      refine findItem_mapItem_map ?_ ?_ u v s
      · exact fun i => hg i _ _
      · exact fun _ => rfl
    · rfl
  · rfl

/-- R53: an item that holds nothing is not held. -/
theorem holdItem_of_report {s : State} {u : Nat} {i : Item} (hi : findItem s u = some i) (hr : i.policy = .report) :
    holdItem u s = s := by
  simp [holdItem, hi, hr]

/-- R138: an item that holds nothing gets no hold flag. -/
theorem holdCuts_of_report {s : State} {u : Nat} (n : Nat) {i : Item} (hi : findItem s u = some i)
    (hr : i.policy = .report) : holdCuts u n s = s := by
  simp [holdCuts, hi, hr]

/-- R157: an item with the verdict of one of its panels set. -/
def setVerdict (n : Nat) (v : Verdict) (i : Item) : Item :=
  { i with panels := i.panels.map fun p => if p.index = n then { p with verdict := v } else p }

/-- R157, R158: the panel has its new verdict, and a new FAIL may hold the item or its cuts. -/
def panelJudged (u n : Nat) (old new : Verdict) (s : State) : State :=
  if old ≠ .fail ∧ new = .fail then holdCuts u n (holdItem u (mapItem u (setVerdict n new) s))
  else mapItem u (setVerdict n new) s

/-- R157, R158, R162: what a merge can do. Nothing, where the owner or its panel is gone; else the panel has the worse
verdict, and the item's edition has it as its last. -/
theorem mergeVerdict_cases (u n : Nat) (v : Verdict) (s : State) :
    (panelVerdict s u n = none ∧ mergeVerdict u n v s = s) ∨
    ∃ i old, findItem s u = some i ∧ panelVerdict s u n = some old ∧
      ((i.edition = none ∧ mergeVerdict u n v s = panelJudged u n old (old.worse v) s) ∨
        ∃ m, i.edition = some m ∧ mergeVerdict u n v s =
          mapEdition m (fun e => { e with last := old.worse v }) (panelJudged u n old (old.worse v) s)) := by
  unfold mergeVerdict
  split
  · next i old hi hold =>
    refine .inr ⟨i, old, hi, hold, ?_⟩
    dsimp only
    split
    · next m hm => exact .inr ⟨m, hm, rfl⟩
    · next hm => exact .inl ⟨hm, rfl⟩
  · next hnone =>
    refine .inl ⟨?_, rfl⟩
    cases hi : findItem s u with
    | none => simp [panelVerdict, hi]
    | some i => exact Option.eq_none_iff_forall_ne_some.2 fun old hold => hnone i old hi hold

/-- What the judgement of a panel leaves of an item beside its verdict, a state and the state under hold. -/
theorem findItem_panelJudged_map {α : Type} {g : Item → α}
    (hg : ∀ i st un, g { i with state := st, under := un } = g i) (u n : Nat) (old new : Verdict) (w : Nat)
    (s : State) :
    (findItem (panelJudged u n old new s) w).map g = (findItem (mapItem u (setVerdict n new) s) w).map g := by
  unfold panelJudged
  split
  · rw [findItem_holdCuts, findItem_holdItem_map hg]
  · rfl

@[simp] theorem panelJudged_colour (u n : Nat) (old new : Verdict) (s : State) :
    (panelJudged u n old new s).colour = s.colour := by
  unfold panelJudged
  split <;> simp

/-- R157: what a merge leaves of an item, as it changes panels, a state and the state under hold alone. -/
theorem findItem_mergeVerdict_map {α : Type} {g : Item → α}
    (hg : ∀ i st un, g { i with state := st, under := un } = g i) (hp : ∀ i ps, g { i with panels := ps } = g i)
    (u n : Nat) (v : Verdict) (w : Nat) (s : State) :
    (findItem (mergeVerdict u n v s) w).map g = (findItem s w).map g := by
  have hset (new : Verdict) : (findItem (mapItem u (setVerdict n new) s) w).map g = (findItem s w).map g :=
    findItem_mapItem_map (f := setVerdict n new) (fun i => hp i _) (fun _ => rfl) u w s
  obtain ⟨-, heq⟩ | ⟨i, old, -, -, ⟨-, heq⟩ | ⟨m, -, heq⟩⟩ := mergeVerdict_cases u n v s
  · rw [heq]
  · rw [heq, findItem_panelJudged_map hg, hset]
  · rw [heq, findItem_mapEdition, findItem_panelJudged_map hg, hset]

/-- R162: what a merge leaves of an edition, as it changes the last panel verdict alone. -/
theorem findEdition_mergeVerdict_map {α : Type} {g : Edition → α} (hg : ∀ e v, g { e with last := v } = g e)
    (u n : Nat) (v : Verdict) (m : Nat) (s : State) :
    (findEdition (mergeVerdict u n v s) m).map g = (findEdition s m).map g := by
  obtain ⟨-, heq⟩ | ⟨i, old, -, -, ⟨-, heq⟩ | ⟨k, -, heq⟩⟩ := mergeVerdict_cases u n v s
  · rw [heq]
  · rw [heq, findEdition_congr (s := s) (by simp)]
  · have hlast := findEdition_mapEdition_map (f := fun e => { e with last := old.worse v }) (fun e => hg e _)
      (fun _ => rfl) k m (panelJudged u n old (old.worse v) s)
    rw [heq, hlast, findEdition_congr (s := s) (by simp)]

/-- The verdict of a panel rests on the panels of its item. -/
theorem panelVerdict_congr {s t : State} {u : Nat}
    (h : (findItem t u).map Item.panels = (findItem s u).map Item.panels) (n : Nat) :
    panelVerdict t u n = panelVerdict s u n := by
  have hpanels (w : State) : panelVerdict w u n =
      (((findItem w u).map Item.panels).bind fun ps => ps.find? fun p => p.index == n).map Panel.verdict := by
    rw [panelVerdict, Option.bind_map]
    rfl
  rw [hpanels, hpanels, h]

@[simp] theorem panelVerdict_mapEdition (m : Nat) (f : Edition → Edition) (s : State) (u n : Nat) :
    panelVerdict (mapEdition m f s) u n = panelVerdict s u n :=
  panelVerdict_congr (congrArg _ (findItem_mapEdition m f s u)) n

/-- R157: a panel whose verdict is set has it. -/
theorem panelVerdict_mapItem_setVerdict {s : State} {u n : Nat} {old : Verdict} (h : panelVerdict s u n = some old)
    (new : Verdict) : panelVerdict (mapItem u (setVerdict n new) s) u n = some new := by
  obtain ⟨p, hp, -⟩ := Option.map_eq_some_iff.1 h
  obtain ⟨i, hi, hfind⟩ := Option.bind_eq_some_iff.1 hp
  have huid : i.uid = u := by simpa using List.find?_some hi
  have hindex : p.index = n := by simpa using List.find?_some hfind
  have hkey : ((fun q : Panel => q.index == n) ∘ fun q => if q.index = n then { q with verdict := new } else q) =
      fun q => q.index == n := by
    funext q
    by_cases hq : q.index = n <;> simp [hq]
  have hset : ((setVerdict n new i).panels.find? fun q => q.index == n) = some { p with verdict := new } := by
    rw [setVerdict, List.find?_map, hkey, hfind, Option.map_some, if_pos hindex]
  simp [panelVerdict, findItem_mapItem u u (f := setVerdict n new) (fun _ => rfl), hi, huid, hset]

/-- R157: after a merge the panel has the worse of its verdict and the strip's. -/
theorem panelVerdict_mergeVerdict (u n : Nat) (v : Verdict) (s : State) :
    panelVerdict (mergeVerdict u n v s) u n = (panelVerdict s u n).map fun old => old.worse v := by
  have hjudged (old : Verdict) (hold : panelVerdict s u n = some old) :
      panelVerdict (panelJudged u n old (old.worse v) s) u n = some (old.worse v) := by
    rw [panelVerdict_congr (findItem_panelJudged_map (g := Item.panels) (fun _ _ _ => rfl) u n old _ u s),
      panelVerdict_mapItem_setVerdict hold]
  obtain ⟨hnone, heq⟩ | ⟨i, old, -, hold, ⟨-, heq⟩ | ⟨m, -, heq⟩⟩ := mergeVerdict_cases u n v s
  · rw [heq, hnone]
    rfl
  · rw [heq, hjudged old hold, hold]
    rfl
  · rw [heq, panelVerdict_mapEdition, hjudged old hold, hold]
    rfl

/-- R158: a merge into a panel of an item that is gone or holds nothing sends no notice. -/
theorem mergeVerdict_link_of_report {s : State} {u : Nat} (n : Nat) (v : Verdict)
    (h : ∀ i, findItem s u = some i → i.policy = .report) : (mergeVerdict u n v s).link = s.link := by
  obtain ⟨-, heq⟩ | ⟨i, old, hi, -, heq⟩ := mergeVerdict_cases u n v s
  · rw [heq]
  have hset : (findItem (mapItem u (setVerdict n (old.worse v)) s) u).map Item.policy = some .report := by
    rw [findItem_mapItem_map (f := setVerdict n (old.worse v)) (g := Item.policy) (fun _ => rfl) (fun _ => rfl), hi,
      Option.map_some, h i hi]
  obtain ⟨k, hk, hpolicy⟩ := Option.map_eq_some_iff.1 hset
  have hlink : (panelJudged u n old (old.worse v) s).link = s.link := by
    unfold panelJudged
    rw [holdItem_of_report hk hpolicy, holdCuts_of_report n hk hpolicy]
    split <;> simp
  obtain ⟨-, heq⟩ | ⟨m, -, heq⟩ := heq <;> simp [heq, hlink]


/-! ### The fill of an edition's baseline (R160) -/

/-- A baseline cell: a patch of the layout and a filter. -/
abbrev BaselineCell := Fin 24 × Fin 4

/-- The figures of a strip with the patch each belongs to, in the order of the fill. -/
def stripFigures (entries : List PatchEntry) : List (Nat × FilterFigure) :=
  entries.flatMap fun x => x.figures.map fun g => (x.index, g)

/-- R160: the cells that a fill finds absent. -/
def absentCells (e : Edition) (figures : List (Nat × FilterFigure)) : Finset BaselineCell :=
  Finset.univ.filter fun c => e.value c.1.val c.2 = none ∧ ∃ x ∈ figures, x.1 = c.1.val ∧ x.2.filter = c.2

theorem mem_absentCells {e : Edition} {figures : List (Nat × FilterFigure)} {c : BaselineCell} :
    c ∈ absentCells e figures ↔ e.value c.1.val c.2 = none ∧ ∃ x ∈ figures, x.1 = c.1.val ∧ x.2.filter = c.2 := by
  simp [absentCells]

/-- R160: a value that is held is kept. -/
theorem fillValue_held {e : Edition} {n k : Nat} {g : FilterFigure} (h : e.value k g.filter ≠ none) :
    fillValue k (e, n) g = (e, n) := by
  obtain ⟨v, hv⟩ := Option.ne_none_iff_exists'.1 h
  simp only [fillValue, hv]

/-- R160: an absent value is filled and counted, and no other cell changes. -/
theorem fillValue_absent {e : Edition} {n : Nat} {k : Fin 24} {g : FilterFigure}
    (h : e.value k.val g.filter = none) :
    ∃ e', fillValue k.val (e, n) g = (e', n + 1) ∧
      ∀ (i : Fin 24) (f : Filter), e'.value i.val f =
        if (i, f) = (k, g.filter) then some g.reflectance else e.value i.val f := by
  refine ⟨_, by simp only [fillValue, h]; rfl, fun i f => ?_⟩
  rw [Edition.value_val, Edition.value_val]
  by_cases hi : i = k
  · subst hi
    by_cases hf : f = g.filter
    · subst hf
      simp
    · have hne : g.filter.val ≠ f.val := fun h => hf (Fin.ext h.symm)
      simp [hf, Vector.getElem_set_ne, hne]
  · have hne : i.val ≠ k.val := fun h => hi (Fin.ext h)
    simp [hi, hne]

/-- R160: a fill counts each absent cell that a figure names once. -/
theorem foldl_fillValue_count (figures : List (Nat × FilterFigure)) (h : ∀ x ∈ figures, x.1 < 24) (e : Edition)
    (n : Nat) : (figures.foldl (fun acc x => fillValue x.1 acc x.2) (e, n)).2 = n + (absentCells e figures).card := by
  induction figures generalizing e n with
  | nil => simp [absentCells]
  | cons x figures ih =>
    obtain ⟨k, g⟩ := x
    obtain ⟨k, rfl⟩ : ∃ i : Fin 24, i.val = k := ⟨⟨k, h _ List.mem_cons_self⟩, rfl⟩
    have hrest : ∀ x ∈ figures, x.1 < 24 := fun x hx => h x (List.mem_cons_of_mem _ hx)
    rw [List.foldl_cons]
    by_cases hcell : e.value k.val g.filter = none
    · obtain ⟨e', hfill, hvalues⟩ := fillValue_absent (n := n) hcell
      have hcells : absentCells e ((k.val, g) :: figures) = insert (k, g.filter) (absentCells e' figures) := by
        ext ⟨i, f⟩
        simp only [mem_absentCells, Finset.mem_insert, hvalues, List.mem_cons, exists_eq_or_imp]
        by_cases hc : (i, f) = (k, g.filter)
        · obtain ⟨rfl, rfl⟩ := Prod.mk.inj hc
          simp [hcell]
        · have hno : ¬(k.val = i.val ∧ g.filter = f) := fun ⟨hi, hf⟩ => hc (by rw [Fin.ext hi, hf])
          simp only [hc, hno, if_false, false_or]
      have hnot : (k, g.filter) ∉ absentCells e' figures := by simp [mem_absentCells, hvalues]
      rw [hfill, ih hrest, hcells, Finset.card_insert_of_notMem hnot]
      omega
    · have hcells : absentCells e ((k.val, g) :: figures) = absentCells e figures := by
        ext ⟨i, f⟩
        simp only [mem_absentCells, List.mem_cons, exists_eq_or_imp]
        refine and_congr_right fun hnone => or_iff_right ?_
        rintro ⟨hi, hf⟩
        rw [← hf, ← hi] at hnone
        exact hcell hnone
      rw [fillValue_held hcell, ih hrest, hcells]

/-- The cells of a table that a test selects, counted row by row. -/
theorem card_eq_sum_rows {m n : Nat} {cells : Finset (Fin m × Fin n)} {p : Fin m → Fin n → Bool}
    (h : ∀ k g, (k, g) ∈ cells ↔ p k g = true) :
    cells.card = ((List.finRange m).map fun k => ((List.finRange n).filter (p k)).length).sum := by
  have hcells : cells = Finset.univ.filter fun c => p c.1 c.2 = true := by
    ext ⟨k, g⟩
    simp [h]
  have hrow (k : Fin m) : (∑ g, if p k g = true then 1 else 0) = ((List.finRange n).filter (p k)).length := by
    rw [← Finset.card_filter, ← List.toFinset_card_of_nodup ((List.nodup_finRange n).filter _), List.toFinset_filter,
      List.toFinset_finRange]
  rw [hcells, Finset.card_filter, Fintype.sum_prod_type, Fin.sum_univ_def]
  simp only [hrow]

/-- The absent cells, counted patch by patch. -/
theorem absentCells_card (e : Edition) (entries : List PatchEntry) :
    (absentCells e (stripFigures entries)).card =
      ((List.finRange 24).map fun k => ((List.finRange 4).filter fun g =>
        e.values[k][g].isNone && entries.any fun x =>
          x.index == k.val && x.figures.any fun y => y.filter == g).length).sum := by
  have hmem (k : Fin 24) (g : Fin 4) : (k, g) ∈ absentCells e (stripFigures entries) ↔
      (e.values[k][g].isNone && entries.any fun x => x.index == k.val && x.figures.any fun y => y.filter == g) =
        true := by
    simp only [mem_absentCells, stripFigures, List.mem_flatMap, List.mem_map, Bool.and_eq_true,
      Option.isNone_iff_eq_none, List.any_eq_true, beq_iff_eq, Edition.value_val]
    refine and_congr_right fun _ => ⟨?_, ?_⟩
    · rintro ⟨-, ⟨x, hx, y, hy, rfl⟩, hk, hg⟩
      exact ⟨x, hx, hk, y, hy, hg⟩
    · rintro ⟨x, hx, hk, y, hy, hg⟩
      exact ⟨_, ⟨x, hx, y, hy, rfl⟩, hk, hg⟩
  exact card_eq_sum_rows hmem

/-- R160: the count of a fill. -/
theorem fillBaseline_count {layout : Nat} {entries : List PatchEntry} {e : Edition}
    (h : e.layout = none ∨ e.layout = some layout) (hentries : ∀ x ∈ entries, x.figures ≠ [] → x.index < 24) :
    (fillBaseline layout entries e).2 =
      ((List.finRange 24).map fun k => ((List.finRange 4).filter fun g =>
        e.values[k][g].isNone && entries.any fun x =>
          x.index == k.val && x.figures.any fun y => y.filter == g).length).sum := by
  have hindex : ∀ x ∈ stripFigures entries, x.1 < 24 := by
    simp only [stripFigures, List.mem_flatMap, List.mem_map]
    rintro x ⟨y, hy, g, hg, rfl⟩
    exact hentries y hy (List.ne_nil_of_mem hg)
  have hfold (acc : Edition × Nat) : entries.foldl (fun acc p => p.figures.foldl (fillValue p.index) acc) acc =
      (stripFigures entries).foldl (fun acc x => fillValue x.1 acc x.2) acc := by
    simp only [stripFigures, List.foldl_flatMap, List.foldl_map]
  rw [fillBaseline, if_pos h, hfold, foldl_fillValue_count _ hindex, Nat.zero_add, ← absentCells_card]
  rfl

/-- R160: a strip of another layout fills nothing. -/
theorem fillBaseline_count_other {layout : Nat} {e : Edition} (entries : List PatchEntry)
    (h : e.layout ≠ none ∧ e.layout ≠ some layout) : (fillBaseline layout entries e).2 = 0 := by
  obtain ⟨hnone, hsome⟩ := h
  rw [fillBaseline, if_neg (by tauto)]


/-! ### The computation as a whole (R153, R163) -/

/-- R153: the entries of a scan's patches. -/
def scanEntries (c : Scan) (patch : Vector PatchLayout 8) (tolerance : Vector Limits 8) (s : State) :
    List PatchEntry :=
  c.patches.mapIdx (patchEntry s.colour.cal (c.edition.bind (findEdition s)) c.layout (layoutOf patch c.layout)
    tolerance[Fin.ofNat 8 c.layout])

section Entries

variable {c : Scan} {patch : Vector PatchLayout 8} {tolerance : Vector Limits 8} {s : State}

/-- Every entry with figures is that of one of a layout's 24 patches. -/
theorem scanEntries_index_lt : ∀ x ∈ scanEntries c patch tolerance s, x.figures ≠ [] → x.index < 24 := by
  intro x hx hne
  obtain ⟨k, hk, rfl⟩ := List.mem_mapIdx.1 hx
  rw [patchEntry_index]
  exact patchEntry_index_lt _ _ _ _ _ hne

/-- R153: the entry of a patch, by the layout and the limits of the scan's layout number. -/
theorem scanEntries_getElem? {l : Fin 8} (hl : c.layout = l.val) {k : Nat} {p : ScanPatch}
    (hp : c.patches[k]? = some p) : (scanEntries c patch tolerance s)[k]? =
      some (patchEntry s.colour.cal (c.edition.bind (findEdition s)) c.layout patch[l] tolerance[l] k p) := by
  have hfin : Fin.ofNat 8 c.layout = l := by
    rw [hl]
    exact Fin.ofNat_val_eq_self l
  have hlimits : tolerance[Fin.ofNat 8 c.layout] = tolerance[l] := congrArg (fun i : Fin 8 => tolerance[i]) hfin
  have hlayout : layoutOf patch c.layout = patch[l] := by rw [hl, layoutOf_val]
  rw [scanEntries, List.getElem?_mapIdx, hp, Option.map_some, hlimits, hlayout]

end Entries

/-- R157, R159: the state once the strip verdict is merged and the edition used. -/
def stripMerged (c : Scan) (v : Verdict) (s : State) : State := touchEdition c.edition (mergeVerdict c.item c.panel v s)

/-- R160: the edition filled by the strip, and the count of values, where the fill applies. -/
def filledEdition (c : Scan) (entries : List PatchEntry) (s : State) : Option (Edition × Nat) :=
  if fillApplies s c then (c.edition.bind (findEdition s)).map (fillBaseline c.layout entries) else none

/-- R160: the state with the filled edition held. -/
def storeFilled (filled : Option (Edition × Nat)) (s : State) : State :=
  match filled with
  | some (e, _) => mapEdition e.number (fun _ => e) s
  | none => s

/-- R163: the body of the notice VERDICT: what the scan and its entries say, `filled` values, and what the state shows
after the computation; `print` is the owner's. -/
def verdictBody (c : Scan) (print : Option Nat) (entries : List PatchEntry) (filled : Nat) (s : State) : CheckBody :=
  { id := c.itemId, job := c.job, print := print, edition := c.edition, panel := c.panel, strip := c.strip,
    layout := c.layout, position := c.position, cause := c.ended, valid := s.colour.cal.valid,
    stripVerdict := stripVerdict s.colour.cal.valid entries, panelVerdict := panelVerdict s c.item c.panel,
    filled := filled, printsClosed := (c.edition.bind (findEdition s)).map Edition.printsClosed,
    lastVerdict := (c.edition.bind (findEdition s)).map Edition.last, patches := entries }

section Computation

variable (c : Scan) (patch : Vector PatchLayout 8) (tolerance : Vector Limits 8) (s : State)

/-- R153 to R160: the state of which the notice VERDICT reports. -/
def judgedState : State :=
  let entries := scanEntries c patch tolerance s
  let merged := stripMerged c (stripVerdict s.colour.cal.valid entries) s
  storeFilled (filledEdition c entries merged) merged

/-- R160: the number of baseline values filled. -/
def filledCount : Nat :=
  let entries := scanEntries c patch tolerance s
  ((filledEdition c entries (stripMerged c (stripVerdict s.colour.cal.valid entries) s)).map Prod.snd).getD 0

/-- R163: the body of the notice of a computation. -/
def judgedBody : CheckBody :=
  verdictBody c ((findItem s c.item).map Item.print) (scanEntries c patch tolerance s) (filledCount c patch tolerance s)
    (judgedState c patch tolerance s)

end Computation

@[simp] theorem stripMerged_frame (c : Scan) (v : Verdict) (s : State) :
    (stripMerged c v s).now = s.now ∧ (stripMerged c v s).tables = s.tables ∧
    (stripMerged c v s).colour.cal = s.colour.cal := by
  simp [stripMerged]

@[simp] theorem storeFilled_frame (filled : Option (Edition × Nat)) (s : State) :
    (storeFilled filled s).now = s.now ∧ (storeFilled filled s).tables = s.tables ∧
    (storeFilled filled s).link = s.link ∧ (storeFilled filled s).items = s.items ∧
    (storeFilled filled s).colour.cal = s.colour.cal := by
  unfold storeFilled
  split <;> simp

@[simp] theorem judgedState_frame (c : Scan) (patch : Vector PatchLayout 8) (tolerance : Vector Limits 8) (s : State) :
    (judgedState c patch tolerance s).now = s.now ∧ (judgedState c patch tolerance s).tables = s.tables ∧
    (judgedState c patch tolerance s).colour.cal = s.colour.cal := by
  simp [judgedState]

/-- R153: the computation reports of the state it has made, and frees the scan record. -/
theorem computeVerdict_eq (c : Scan) (patch : Vector PatchLayout 8) (tolerance : Vector Limits 8) (s : State) :
    computeVerdict c patch tolerance s =
      (raise (.checkVerdict (judgedBody c patch tolerance s)) (judgedState c patch tolerance s)).onColour fun k =>
        { k with scan := none } := by
  have hcal : (judgedState c patch tolerance s).colour.cal = s.colour.cal := by simp
  rw [judgedBody, verdictBody, hcal]
  rfl

/-- R35, R163: the valid flag and the strip verdict of the notice rest on the calibration before the computation. -/
theorem judgedBody_strip (c : Scan) (patch : Vector PatchLayout 8) (tolerance : Vector Limits 8) (s : State) :
    (judgedBody c patch tolerance s).valid = s.colour.cal.valid ∧
    (judgedBody c patch tolerance s).stripVerdict =
      stripVerdict s.colour.cal.valid (scanEntries c patch tolerance s) := by
  simp [judgedBody, verdictBody]

/-- R158: a computation for an owner that is gone or holds nothing raises no notice before its own. -/
theorem judgedState_link_of_report {c : Scan} (patch : Vector PatchLayout 8) (tolerance : Vector Limits 8) {s : State}
    (h : ∀ i, findItem s c.item = some i → i.policy = .report) : (judgedState c patch tolerance s).link = s.link := by
  simp [judgedState, stripMerged, mergeVerdict_link_of_report c.panel _ h]

/-- R157: the panel verdict of the notice is the panel's after the merge. -/
theorem judgedBody_panelVerdict (c : Scan) (patch : Vector PatchLayout 8) (tolerance : Vector Limits 8) (s : State) :
    (judgedBody c patch tolerance s).panelVerdict = (panelVerdict s c.item c.panel).map fun old =>
      old.worse (stripVerdict s.colour.cal.valid (scanEntries c patch tolerance s)) := by
  have hitem : findItem (judgedState c patch tolerance s) c.item = findItem (mergeVerdict c.item c.panel
      (stripVerdict s.colour.cal.valid (scanEntries c patch tolerance s)) s) c.item :=
    findItem_congr (by simp [judgedState, stripMerged]) _
  rw [← panelVerdict_mergeVerdict]
  exact panelVerdict_congr (congrArg _ hitem) _

/-- R160: the fill applies to an owner that is COMPLETE before the merge as after it. -/
theorem fillApplies_stripMerged (c : Scan) (v : Verdict) (s : State) :
    fillApplies (stripMerged c v s) c = (s.colour.cal.valid &&
      ((findItem s c.item).map Item.fate == some .complete)) := by
  have hcal : (stripMerged c v s).colour.cal = s.colour.cal := by simp
  have hitem : findItem (stripMerged c v s) c.item = findItem (mergeVerdict c.item c.panel v s) c.item := by
    simp [stripMerged]
  rw [fillApplies, hcal, hitem,
    ← findItem_mergeVerdict_map (g := Item.fate) (fun _ _ _ => rfl) (fun _ _ => rfl) c.item c.panel v c.item s]
  cases findItem (mergeVerdict c.item c.panel v s) c.item <;> rfl

/-- R160: what a fill counts does not rest on the last panel verdict. -/
theorem fillBaseline_count_last {layout : Nat} {entries : List PatchEntry}
    (hentries : ∀ x ∈ entries, x.figures ≠ [] → x.index < 24) (e : Edition) (v : Verdict) :
    (fillBaseline layout entries { e with last := v }).2 = (fillBaseline layout entries e).2 := by
  by_cases h : e.layout = none ∨ e.layout = some layout
  · rw [fillBaseline_count h hentries, fillBaseline_count (e := { e with last := v }) h hentries]
  · obtain ⟨hnone, hsome⟩ := not_or.1 h
    rw [fillBaseline_count_other entries ⟨hnone, hsome⟩,
      fillBaseline_count_other (e := { e with last := v }) entries ⟨hnone, hsome⟩]

/-- R160: the count of a fill, from the state before the computation. -/
theorem filledEdition_count {c : Scan} {entries : List PatchEntry} (v : Verdict) (s : State)
    (hentries : ∀ x ∈ entries, x.figures ≠ [] → x.index < 24) :
    ((filledEdition c entries (stripMerged c v s)).map Prod.snd).getD 0 =
      if s.colour.cal.valid = true ∧ (findItem s c.item).map Item.fate = some .complete then
        ((c.edition.bind (findEdition s)).map fun e => (fillBaseline c.layout entries e).2).getD 0
      else 0 := by
  have hedition : (c.edition.bind (findEdition (stripMerged c v s))).map (fun e => (fillBaseline c.layout entries e).2) =
      (c.edition.bind (findEdition s)).map fun e => (fillBaseline c.layout entries e).2 := by
    cases c.edition with
    | none => rfl
    | some n =>
      simp only [stripMerged, Option.bind_some, findEdition_touchEdition]
      exact findEdition_mergeVerdict_map (fun e v => fillBaseline_count_last hentries e v) _ _ _ _ _
  simp only [filledEdition, fillApplies_stripMerged, Bool.and_eq_true, beq_iff_eq]
  split
  · rw [← hedition, Option.map_map]
    rfl
  · rfl

/-- R160: the count of the notice. -/
theorem judgedBody_filled (c : Scan) (patch : Vector PatchLayout 8) (tolerance : Vector Limits 8) (s : State) :
    (judgedBody c patch tolerance s).filled =
      if s.colour.cal.valid = true ∧ (findItem s c.item).map Item.fate = some .complete then
        ((c.edition.bind (findEdition s)).map fun e =>
          (fillBaseline c.layout (scanEntries c patch tolerance s) e).2).getD 0
      else 0 :=
  filledEdition_count _ s scanEntries_index_lt

/-- R160: the notice counts no value where the fill does not apply or the entry is of another layout. -/
theorem judgedBody_filled_eq_zero {c : Scan} (patch : Vector PatchLayout 8) (tolerance : Vector Limits 8) {s : State}
    (h : s.colour.cal.valid = false ∨ (∀ i, findItem s c.item = some i → i.fate ≠ .complete) ∨
      ∀ e, c.edition.bind (findEdition s) = some e → e.layout ≠ none ∧ e.layout ≠ some c.layout) :
    (judgedBody c patch tolerance s).filled = 0 := by
  rw [judgedBody_filled]
  split
  · next happlies =>
    obtain ⟨hv, hfate⟩ := happlies
    obtain ⟨i, hi, hcomplete⟩ := Option.map_eq_some_iff.1 hfate
    obtain h | h | h := h
    · exact absurd (h.symm.trans hv) (by decide)
    · exact absurd hcomplete (h i hi)
    · cases he : c.edition.bind (findEdition s) with
      | none => rfl
      | some e => exact fillBaseline_count_other _ (h e he)
  · rfl

/-- R155: the baseline value of a held entry, of the strip's layout or none. -/
theorem baselineFor_some (e : Edition) (layout : Nat) (k : Fin 24) (f : Filter) :
    baselineFor (some e) layout k.val f = if e.layout = some layout then e.values[k][f] else none :=
  congrArg (fun v => if e.layout = some layout then v else none) (e.value_val k f)

/-- R154, R155: each figure of a COMPLETE patch, from its raw values to its deviation. -/
theorem figuresOf_spec {cal : Calibration} (e : Option Edition) (layout : Nat) (l : PatchLayout) (k : Fin 24)
    {p : ScanPatch} (hcal : ∀ f : Filter, cal.black[f] < cal.white[f])
    (hp : ∀ f ∈ p.expected, ((p.expected.zip p.raws).filter fun x => x.1 == f) ≠ []) :
    ∀ g ∈ figuresOf cal e layout l k p, ∃ (values : List Nat) (mean r white black : Nat) (base : Option Nat),
      values = ((p.expected.zip p.raws).filter fun x => x.1 == g.filter).map Prod.snd ∧
      HalfUp values.sum values.length mean ∧
      white = (if cal.valid then cal.white[g.filter] else 60000) ∧
      black = (if cal.valid then cal.black[g.filter] else 1200) ∧
      HalfUp ((mean - black) * 4095) (white - black) r ∧
      g.reflectance = min 4095 r ∧ base = baselineFor e layout k.val g.filter ∧
      g.fromBaseline = base.isSome ∧ g.reference = base.getD l.patches[k].targets[g.filter] ∧
      g.deviation = (g.reflectance : Int) - g.reference := by
  intro g hg
  obtain ⟨f, hf, rfl⟩ := List.mem_map.1 hg
  obtain ⟨hwhite, hblack⟩ := cal.used_values f
  have hmean := ScanPatch.mean_halfUp (hp f ((p.mem_measured f).1 hf))
  have hapart : 0 < cal.used.white[f] - cal.used.black[f] := Nat.sub_pos_of_lt (Calibration.used_apart (hcal f))
  exact ⟨_, p.mean f, _, cal.used.white[f], cal.used.black[f], _, rfl, hmean, hwhite, hblack,
    halfUp_roundHalfUp _ hapart, rfl, rfl, rfl, rfl, rfl⟩

/-! ### The command -/

theorem exec_verdictComputation (s : State) : exec .verdictComputation s = execVerdictComputation s := rfl

theorem exec_verdictComputation_waits {s : State} (h : (∀ c, s.colour.scan = some c → c.ended = none) ∨
    s.tables.lock = some .patch ∨ s.tables.lock = some .tolerance) : Waits .verdictComputation s := by
  rw [Waits, exec_verdictComputation, execVerdictComputation]
  refine command_eq ?_
  split
  · next c patch tolerance hc _ _ =>
    refine if_neg ?_
    rintro ⟨hended, hpatch, htolerance⟩
    obtain h | h | h := h
    · simp [h c hc] at hended
    · simp [locked, h] at hpatch
    · simp [locked, h] at htolerance
  · rfl

theorem exec_verdictComputation_due {s : State} {c : Scan} {patch : Vector PatchLayout 8}
    {tolerance : Vector Limits 8} (hc : s.colour.scan = some c) (hended : c.ended.isSome = true)
    (hp : s.tables.patch = some patch) (ht : s.tables.tolerance = some tolerance)
    (hlp : s.tables.lock ≠ some .patch) (hlt : s.tables.lock ≠ some .tolerance) :
    exec .verdictComputation s = .next (keepRunOut (computeVerdict c patch tolerance s.clearOut)) := by
  rw [exec_verdictComputation, execVerdictComputation]
  refine command_eq ?_
  simp [hc, hp, ht, locked, hended, hlp, hlt]

/-- R163: the editions of which the notice tells are those the computation leaves. -/
theorem findEdition_reported (n : Notice) (s : State) :
    findEdition (keepRunOut ((raise n s).onColour fun k => { k with scan := none })) = findEdition s :=
  funext fun _ => findEdition_congr (by simp) _

/-- Settles O49: the body is `judgedBody`, its entries by `patchEntry_complete` and `figuresOf_spec`, its count by
`judgedBody_filled`. -/
theorem verdictFigures : Obligations.VerdictFigures := by
  refine ⟨fun s h => exec_verdictComputation_waits h, ?_⟩
  intro c l patch tolerance s hc hended hl hp ht hlp hlt hcal
  have hexec := exec_verdictComputation_due hc hended hp ht hlp hlt
  rw [computeVerdict_eq] at hexec
  obtain ⟨hvalid, hstrip⟩ := judgedBody_strip c patch tolerance s.clearOut
  have hpanel := judgedBody_panelVerdict c patch tolerance s.clearOut
  refine ⟨_, judgedState c patch tolerance s.clearOut, judgedBody c patch tolerance s.clearOut, hexec, by simp, rfl,
    hstrip, by simp, by simp, by simp, ?_, ?_, rfl, rfl, rfl, rfl, rfl, rfl, rfl, rfl, hvalid, ?_, ?_, ?_, ?_, ?_, ?_,
    List.length_mapIdx, hstrip.trans (stripVerdict_eq _ _), ?_, ?_⟩
  · intro hnone
    exact judgedState_link_of_report patch tolerance (s := s.clearOut) fun i hi => absurd (hnone.symm.trans hi) (by simp)
  · intro i hi hreport
    refine judgedState_link_of_report patch tolerance (s := s.clearOut) fun k hk => ?_
    rwa [← Option.some.inj (hi.symm.trans hk)]
  · intro hnone
    have hnone' : findItem s.clearOut c.item = none := hnone
    refine ⟨?_, ?_⟩
    · simp [judgedBody, verdictBody, hnone']
    · simp [hpanel, panelVerdict, hnone']
  · intro i p hi hfind
    have hi' : findItem s.clearOut c.item = some i := hi
    have hold : panelVerdict s.clearOut c.item c.panel = some p.verdict := by simp [panelVerdict, hi', hfind]
    refine ⟨?_, ?_⟩
    · simp [judgedBody, verdictBody, hi']
    · rw [hpanel, hold, hstrip]
      rfl
  · rw [findEdition_reported]
    rfl
  · rw [findEdition_reported]
    rfl
  · intro i e hv hi hfate he hlayout
    have hi' : findItem s.clearOut c.item = some i := hi
    have he' : c.edition.bind (findEdition s.clearOut) = some e := he
    rw [judgedBody_filled, if_pos ⟨hv, by simp [hi', hfate]⟩, he']
    exact fillBaseline_count hlayout scanEntries_index_lt
  · exact judgedBody_filled_eq_zero patch tolerance (s := s.clearOut)
  · intro k p hk hmissed
    exact (scanEntries_getElem? hl hk).trans (congrArg some (patchEntry_missed _ _ _ _ _ hmissed))
  · intro k p hk hcomplete hcountk hvalues
    obtain ⟨hscore, hlargest⟩ := patchScore_spec (figuresOf s.colour.cal (c.edition.bind (findEdition s)) c.layout
      patch[l] k p)
    refine ⟨_, _,
      (scanEntries_getElem? hl hk).trans (congrArg some (patchEntry_complete _ _ _ _ _ hcomplete hcountk)), rfl, rfl,
      figuresOf_filters _ _ _ _ _ _, rfl, hscore, fun hne => hlargest (figuresOf_ne_nil _ _ _ _ _ hne), rfl, ?_⟩
    intro g hg
    obtain ⟨values, mean, r, white, black, base, hval, hmean, hwhite, hblack, hr, hrefl, hbase, hfigure⟩ :=
      figuresOf_spec (c.edition.bind (findEdition s)) _ _ _ hcal hvalues g hg
    refine ⟨values, mean, r, white, black, base, hval, hmean, hwhite, hblack, hr, hrefl, hbase.trans ?_, hfigure⟩
    cases c.edition.bind (findEdition s) with
    | none => rfl
    | some e => exact baselineFor_some e c.layout k g.filter

end Sys2Proof.Machine

/-! ## The return queue: what a notice does to it (R11, R13) -/

namespace Sys2Proof.Machine

/-- R13: the lowest level found among the notices of a queue, from a bound on, is that bound or the level of one of
them, and no notice has a lower one. -/
theorem foldl_lowest_spec (ret : List Entry) (m : Nat) :
    ret.foldl (fun m e => if e.isReply then m else min m e.level) m ≤ m ∧
    (∀ e ∈ ret, e.isReply = false →
      ret.foldl (fun m e => if e.isReply then m else min m e.level) m ≤ e.level) ∧
    (ret.foldl (fun m e => if e.isReply then m else min m e.level) m = m ∨
      ∃ e ∈ ret, e.isReply = false ∧
        e.level = ret.foldl (fun m e => if e.isReply then m else min m e.level) m) := by
  induction ret generalizing m with
  | nil => simp
  | cons e ret ih =>
    obtain ⟨hle, hall, hmem⟩ := ih (if e.isReply then m else min m e.level)
    cases he : e.isReply <;> simp only [he, List.foldl_cons, List.mem_cons, if_true, Bool.false_eq_true, if_false,
      forall_eq_or_imp, exists_eq_or_imp] at hle hall hmem ⊢
    · refine ⟨hle.trans (min_le_left _ _), ⟨fun _ => hle.trans (min_le_right _ _), hall⟩, ?_⟩
      obtain hmem | hmem := hmem
      · obtain hm | hm := min_choice m e.level
        · exact .inl (hmem.trans hm)
        · exact .inr (.inl ⟨trivial, by rw [hmem, hm]⟩)
      · exact .inr (.inr hmem)
    · exact ⟨hle, ⟨by simp, hall⟩, hmem.imp id fun h => .inr h⟩

/-- R13: below 8 the lowest level is that of a queued notice. -/
theorem exists_of_lowestLevel_lt {ret : List Entry} (h : lowestLevel ret < 8) :
    ∃ e ∈ ret, e.isReply = false ∧ e.level = lowestLevel ret :=
  (foldl_lowest_spec ret 8).2.2.resolve_left h.ne

/-- R13: taking away the oldest notice of a level that a notice has leaves one notice less. -/
theorem countP_notice_dropOldest {ret : List Entry} {level : Nat} (h : ∃ e ∈ ret, e.isReply = false ∧ e.level = level) :
    (dropOldest level ret).countP (fun e => !e.isReply) + 1 = ret.countP fun e => !e.isReply := by
  obtain ⟨e, he, hr, hl⟩ := h
  obtain ⟨d, older, younger, -, hd, hsplit, hdrop⟩ :=
    List.exists_of_eraseP (p := fun e => !e.isReply && e.level == level) he (by simp [hr, hl])
  simp only [Bool.and_eq_true, Bool.not_eq_true'] at hd
  rw [dropOldest, hdrop, hsplit]
  simp [hd.1]
  omega

/-- R27: the levels that the committed NOTICE section gives are at most 7. -/
def LevelsFit (levels : Option (Vector Nat 11)) : Prop := ∀ v, levels = some v → ∀ k : Fin 11, v[k] ≤ 7

/-- R11, R12: at most 28 notices are queued, with levels 1 to 7. -/
def NoticesFit (ret : List Entry) : Prop :=
  ret.countP (fun e => !e.isReply) ≤ 28 ∧ ∀ e ∈ ret, e.isReply = false → 1 ≤ e.level ∧ e.level ≤ 7

@[simp] theorem noticesFit_nil : NoticesFit [] := by simp [NoticesFit]

/-- A reply that joins the queue is no notice. -/
theorem noticesFit_append_reply {ret : List Entry} {e : Entry} (he : e.isReply = true) (h : NoticesFit ret) :
    NoticesFit (ret ++ [e]) := by
  obtain ⟨hcount, hlevel⟩ := h
  refine ⟨by simpa [he] using hcount, fun x hx hr => ?_⟩
  obtain hx | rfl := by simpa using hx
  · exact hlevel x hx hr
  · simp [he] at hr

/-- Taking entries away keeps the bounds. -/
theorem NoticesFit.sublist {l ret : List Entry} (h : NoticesFit ret) (hl : l.Sublist ret) : NoticesFit l := by
  obtain ⟨hcount, hlevel⟩ := h
  exact ⟨(hl.countP_le).trans hcount, fun e he => hlevel e (hl.subset he)⟩

/-- R13, R12: a notice of a level 1 to 7 keeps the bounds: it joins fewer than 28, or takes another's place. -/
theorem noticesFit_queueNotice {e : Entry} {l : Link} (he : e.isReply = false) (hlow : 1 ≤ e.level)
    (hhigh : e.level ≤ 7)
    (h : NoticesFit l.ret) : NoticesFit (queueNotice e l).ret := by
  have hjoin (ret : List Entry) (hc : ret.countP (fun e => !e.isReply) < 28)
      (hlevel : ∀ e ∈ ret, e.isReply = false → 1 ≤ e.level ∧ e.level ≤ 7) : NoticesFit (ret ++ [e]) := by
    refine ⟨by simp [he]; omega, fun x hx hr => ?_⟩
    obtain hx | rfl := by simpa using hx
    · exact hlevel x hx hr
    · exact ⟨hlow, hhigh⟩
  obtain ⟨hcount, hlevel⟩ := h
  unfold queueNotice noticePlaces
  split
  · exact hjoin _ ‹_› hlevel
  · split
    · next hfull hlt =>
      have hone := countP_notice_dropOldest (exists_of_lowestLevel_lt (ret := l.ret) (by omega))
      exact hjoin _ (by omega) fun x hx => hlevel x (List.mem_of_mem_eraseP hx)
    · exact ⟨hcount, hlevel⟩

/-- R11: the level of a class is at most 7. -/
theorem classLevel_le {s : State} (hl : LevelsFit s.tables.notice) (c : NoticeClass) : classLevel s c ≤ 7 := by
  unfold classLevel
  split
  · exact hl _ ‹_› _
  · omega

end Sys2Proof.Machine

/-! ## The abort of an item, part by part (R55) -/

namespace Sys2Proof.Machine

/-- R55: the item is marked aborted, its measure stops are gone and its holds cleared. -/
def abortMarked (u : Nat) (s : State) : State :=
  clearHolds u (dropMeasures u (mapItem u (fun i => { i with fate := .aborted, abortOrder := nextAbort s }) s))

/-- R55: the bands that an abort of the item discards. -/
def abortDiscards (u : Nat) (s : State) : List Band :=
  s.path.store.filter fun b => b.item == u && b.state != .inFlight && b.state != .counting

/-- R55, R67: the discard of the item's bands, with the rows they add to the abort feed. -/
def abortLost (u : Nat) (s : State) : State × Nat := discardBands (abortDiscards u (abortMarked u s)) (abortMarked u s)

/-- R45, R136: the reservation is released and the times of the kept cuts are fixed. -/
def abortTimed (u : Nat) (i : Item) (s : State) : State :=
  fixAbortTimes i (s.now + dryTime s) (releaseReservation u (abortLost u s).1)

/-- R56: the open panel is closed, or waits, with the rows its gutter adds to the abort feed. -/
def abortClosed (u : Nat) (i : Item) (s : State) : State × Nat :=
  closeAborted u (s.now + dryTime s) (abortTimed u i s)

/-- R56: the rows gathered have joined the abort feed. -/
def abortGathered (u : Nat) (i : Item) (s : State) : State :=
  joinAbortFeed u ((abortLost u s).2 + (abortClosed u i s).2) (abortClosed u i s).1

/-- R52: the state that the abort gives the item. -/
def abortState (u : Nat) (i : Item) (s : State) : ItemState :=
  if hasBand (abortGathered u i s) u then .closing else .settling

/-- R55: the item as the abort leaves it, before its notices and its moves. -/
def abortMoved (u : Nat) (i : Item) (s : State) : State :=
  mapItem u (fun k => { k with state := abortState u i s, under := none }) (abortGathered u i s)

@[simp] theorem abortMarked_frame (u : Nat) (s : State) :
    (abortMarked u s).now = s.now ∧ (abortMarked u s).pending = s.pending ∧ (abortMarked u s).tables = s.tables ∧
    (abortMarked u s).ink = s.ink ∧ (abortMarked u s).link.hold = s.link.hold ∧
    (abortMarked u s).link.ret.countP Entry.isReply = s.link.ret.countP Entry.isReply := by
  simp [abortMarked]

@[simp] theorem abortLost_frame (u : Nat) (s : State) :
    (abortLost u s).1.now = s.now ∧ (abortLost u s).1.pending = s.pending ∧ (abortLost u s).1.tables = s.tables ∧
    (abortLost u s).1.link.hold = s.link.hold ∧
    (abortLost u s).1.link.ret.countP Entry.isReply = s.link.ret.countP Entry.isReply := by
  simp [abortLost]

@[simp] theorem abortTimed_frame (u : Nat) (i : Item) (s : State) :
    (abortTimed u i s).now = s.now ∧ (abortTimed u i s).pending = s.pending ∧ (abortTimed u i s).tables = s.tables ∧
    (abortTimed u i s).link = (abortLost u s).1.link := by
  simp [abortTimed]

@[simp] theorem abortClosed_frame (u : Nat) (i : Item) (s : State) :
    (abortClosed u i s).1.now = s.now ∧ (abortClosed u i s).1.pending = s.pending ∧
    (abortClosed u i s).1.tables = s.tables := by
  simp [abortClosed]

@[simp] theorem abortGathered_frame (u : Nat) (i : Item) (s : State) :
    (abortGathered u i s).now = s.now ∧ (abortGathered u i s).pending = s.pending ∧
    (abortGathered u i s).tables = s.tables ∧ (abortGathered u i s).link = (abortClosed u i s).1.link := by
  simp [abortGathered]

@[simp] theorem abortMoved_frame (u : Nat) (i : Item) (s : State) :
    (abortMoved u i s).now = s.now ∧ (abortMoved u i s).pending = s.pending ∧
    (abortMoved u i s).tables = s.tables ∧ (abortMoved u i s).link = (abortClosed u i s).1.link := by
  simp [abortMoved]

/-- R55: an item aborted before, or in COSTING, is left as it is. -/
theorem abortItem_of_idle {u : Nat} {c : AbortCause} {s : State}
    (h : ∀ i, findItem s u = some i → i.fate = .aborted ∨ i.state = .costing) : abortItem u c s = s := by
  unfold abortItem
  split
  · rfl
  · rw [if_pos (h _ ‹_›)]

/-- R55: the abort of any other item, in its parts. -/
theorem abortItem_eq {u : Nat} {c : AbortCause} {s : State} {i : Item} (hi : findItem s u = some i)
    (hfate : i.fate ≠ .aborted) (hstate : i.state ≠ .costing) :
    abortItem u c s = advanceItem u
      (raiseItem (if abortState u i s = .closing then .closing else .settling) u
        (raiseItem (.aborted c) u (abortMoved u i s))) := by
  simp only [abortItem, hi, if_neg (not_or.2 ⟨hfate, hstate⟩)]
  rfl

end Sys2Proof.Machine

/-! ## Every operation that raises notices keeps the places and levels of the return queue (R11, R12) -/

namespace Sys2Proof.Machine

/-- R27: what a valid image commits keeps the levels at most 7. -/
theorem levelsFit_setContent {sec : Section} {image : List Byte} {c : Content} {t : TableStore}
    (hc : judgeImage sec image = some c) (hl : LevelsFit t.notice) : LevelsFit (setContent c t).notice := by
  cases c with
  | notice n =>
    rintro v ⟨⟩ k
    cases sec <;> simp only [judgeImage] at hc <;> split at hc <;> simp at hc
    next hvalid =>
    subst hc
    simp only [validNotice, allBelow, List.all_eq_true, List.mem_range, decide_eq_true_eq] at hvalid
    simpa [noticeOf] using hvalid k k.isLt
  | _ => exact hl

/-- R14: the fault capture is apart from the return queue. -/
@[simp] theorem capture_ret (w : List Byte) (n : Nat) (m : Bool) (s : State) :
    (capture w n m s).link.ret = s.link.ret := by
  unfold capture
  split <;> rfl

@[simp] theorem captureRest_ret (w : List Byte) (s : State) : (captureRest w s).link.ret = s.link.ret := by
  unfold captureRest
  split <;> rfl

@[simp] theorem captureIf_ret (st : Status) (w : List Byte) (n : Nat) (s : State) :
    (captureIf st w n s).link.ret = s.link.ret := by
  unfold captureIf
  split <;> simp

/-- A run of changes keeps the bounds if each change does. -/
theorem foldl_notices {α : Type} {f : State → α → State} (htables : ∀ s a, (f s a).tables = s.tables)
    (hf : ∀ {s}, LevelsFit s.tables.notice → NoticesFit s.link.ret → ∀ a, NoticesFit (f s a).link.ret)
    {s : State} (hl : LevelsFit s.tables.notice) (h : NoticesFit s.link.ret) (as : List α) :
    NoticesFit (as.foldl f s).link.ret := by
  induction as generalizing s with
  | nil => exact h
  | cons a as ih => exact ih (by rwa [htables]) (hf hl h a)

section Raising

-- The rules of the state's updates hold by `rfl`; a hypothesis that `simp` discharges through them has the right type
-- only up to unfolding the update, which this option allows.
set_option backward.isDefEq.respectTransparency false

variable {s : State} (hl : LevelsFit s.tables.notice) (h : NoticesFit s.link.ret)

include hl h

@[simp] theorem raise_notices (n : Notice) : NoticesFit (raise n s).link.ret := by
  have hle := classLevel_le hl n.cls
  unfold raise
  dsimp only
  split
  · exact h
  · exact noticesFit_queueNotice rfl (Nat.pos_of_ne_zero ‹_›) hle h

@[simp] theorem raiseItem_notices (c : ItemCode) (u : Nat) :
    NoticesFit (raiseItem c u s).link.ret := by
  unfold raiseItem
  (repeat' split) <;> simp [hl, h]

@[simp] theorem priceItem_notices (u : Nat) :
    NoticesFit (priceItem u s).link.ret := by
  unfold priceItem
  (repeat' split) <;> simp [hl, h]

@[simp] theorem priceJob_notices (n : Nat) :
    NoticesFit (priceJob n s).link.ret := by
  unfold priceJob
  (repeat' split) <;> simp [hl, h]

@[simp] theorem toSettling_notices (u : Nat) :
    NoticesFit (toSettling u s).link.ret := by
  unfold toSettling
  (repeat' split) <;> simp [hl, h]

@[simp] theorem toCosting_notices (u : Nat) :
    NoticesFit (toCosting u s).link.ret := by
  unfold toCosting
  dsimp only
  (repeat' split) <;> simp [hl, h]

@[simp] theorem advanceItem_notices (u : Nat) :
    NoticesFit (advanceItem u s).link.ret := by
  unfold advanceItem
  simp [hl, h]

@[simp] theorem advanceItems_notices (us : List Nat) :
    NoticesFit (advanceItems us s).link.ret := by
  exact foldl_notices (by simp) (fun hl h u => advanceItem_notices hl h u) hl h us

@[simp] theorem removeStop_notices (t : Stop) :
    NoticesFit (removeStop t s).link.ret := by
  unfold removeStop
  simp [hl, h]

@[simp] theorem actionEnded_notices (u : Nat) (r : Option Row) :
    NoticesFit (actionEnded u r s).link.ret := by
  unfold actionEnded
  dsimp only
  (repeat' split) <;> simp [hl, h]

@[simp] theorem raiseCart_notices (c : Chan) (b : CartState) (k : CartCause) :
    NoticesFit (raiseCart c b k s).link.ret := by
  unfold raiseCart
  (repeat' split) <;> simp [hl, h]

@[simp] theorem moveCart_notices (c : Chan) (d : CartState) (k : CartCause) :
    NoticesFit (moveCart c d k s).link.ret := by
  unfold moveCart
  dsimp only
  (repeat' split) <;> simp [hl, h]

@[simp] theorem rejectCart_notices (c : Chan) (r : RejectReason) (k : CartCause) :
    NoticesFit (rejectCart c r k s).link.ret := by
  unfold rejectCart
  simp [hl, h]

@[simp] theorem replaceCart_notices (c : Chan) (k : CartCause) :
    NoticesFit (replaceCart c k s).link.ret := by
  unfold replaceCart
  simp [hl, h]

@[simp] theorem refill_notices (c : Chan) :
    NoticesFit (refill c s).link.ret := by
  unfold refill
  dsimp only
  (repeat' split) <;> simp [hl, h]

@[simp] theorem correctLevel_notices (c : Chan) :
    NoticesFit (correctLevel c s).link.ret := by
  unfold correctLevel
  dsimp only
  (repeat' split) <;> simp [hl, h]

@[simp] theorem applySensed_notices (c : Chan) :
    NoticesFit (applySensed c s).link.ret := by
  unfold applySensed
  dsimp only
  have hcorrect := correctLevel_notices hl h c
  (repeat' split) <;> simp [hl, hcorrect]

@[simp] theorem placeCart_notices (c : Chan) (t : TagContents) :
    NoticesFit (placeCart c t s).link.ret := by
  unfold placeCart
  simp [hl, h]

@[simp] theorem checkKind_notices (c : Chan) (n : Nat) (t : TagContents) :
    NoticesFit (checkKind c n t s).link.ret := by
  unfold checkKind
  (repeat' split) <;> simp [hl, h]

@[simp] theorem recheckKind_notices (c : Chan) :
    NoticesFit (recheckKind c s).link.ret := by
  unfold recheckKind
  dsimp only
  (repeat' split) <;> simp [hl, h]

@[simp] theorem replaceByMap_notices (c : Chan) :
    NoticesFit (replaceByMap c s).link.ret := by
  unfold replaceByMap
  dsimp only
  have hcorrect := correctLevel_notices hl h c
  (repeat' split) <;> simp [hl, h, hcorrect]

@[simp] theorem forReplaceByMap_notices (cs : List Chan) :
    NoticesFit (forChannels cs replaceByMap s).link.ret := by
  exact foldl_notices (by simp) (fun hl h c => replaceByMap_notices hl h c) hl h cs

@[simp] theorem forRecheckKind_notices (cs : List Chan) :
    NoticesFit (forChannels cs recheckKind s).link.ret := by
  exact foldl_notices (by simp) (fun hl h c => recheckKind_notices hl h c) hl h cs

@[simp] theorem recheckMap_notices :
    NoticesFit (recheckMap s).link.ret := by
  unfold recheckMap
  simp [hl, h]

@[simp] theorem endWait_notices (w : Asker) (l : List (Chan × Nat)) (c : Chan) :
    NoticesFit (endWait w l c s).link.ret := by
  unfold endWait
  (repeat' split) <;> simp [hl, h]

@[simp] theorem startWait_notices (w : Asker) (l : List (Chan × Nat)) (c : Chan) :
    NoticesFit (startWait w l c s).link.ret := by
  unfold startWait
  (repeat' split) <;> simp [hl, h]

@[simp] theorem forEndWait_notices (w : Asker) (l : List (Chan × Nat)) (cs : List Chan) :
    NoticesFit (forChannels cs (endWait w l) s).link.ret := by
  exact foldl_notices (by simp) (fun hl h c => endWait_notices hl h w l c) hl h cs

@[simp] theorem endWaits_notices (w : Asker) (l : List (Chan × Nat)) :
    NoticesFit (endWaits w l s).link.ret := by
  unfold endWaits
  simp [hl, h]

@[simp] theorem declineWait_notices (w : Asker) (l : List (Chan × Nat)) (c : Chan) :
    NoticesFit (declineWait w l c s).link.ret := by
  unfold declineWait
  (repeat' split) <;> simp [hl, h]

@[simp] theorem forDeclineWait_notices (w : Asker) (l : List (Chan × Nat)) (cs : List Chan) :
    NoticesFit (forChannels cs (declineWait w l) s).link.ret := by
  exact foldl_notices (by simp) (fun hl h c => declineWait_notices hl h w l c) hl h cs

@[simp] theorem declineWaits_notices (n : Nat) (w : Asker) (l : List (Chan × Nat)) :
    NoticesFit (declineWaits n w l s).link.ret := by
  unfold declineWaits
  simp [hl, h]

@[simp] theorem forRefill_notices (cs : List Chan) :
    NoticesFit (forChannels cs refill s).link.ret := by
  exact foldl_notices (by simp) (fun hl h c => refill_notices hl h c) hl h cs

@[simp] theorem reportHold_notices :
    NoticesFit (reportHold s).link.ret := by
  unfold reportHold
  (repeat' split) <;> simp [hl, h]

@[simp] theorem dispatchCut_notices (u : Nat) :
    NoticesFit (dispatchCut u s).link.ret := by
  unfold dispatchCut
  (repeat' split) <;> simp [hl, h]

@[simp] theorem holdCuts_notices (u n : Nat) :
    NoticesFit (holdCuts u n s).link.ret := by
  unfold holdCuts
  (repeat' split) <;> simp [hl, h]

@[simp] theorem dropHeldCut_notices (u : Nat) :
    NoticesFit (dropHeldCut u s).link.ret := by
  unfold dropHeldCut
  simp [hl, h]

@[simp] theorem completeCut_notices (t : Stop) (c : CutStop) :
    NoticesFit (completeCut t c s).link.ret := by
  unfold completeCut
  refine actionEnded_notices (by dsimp only; split <;> simp [hl]) ?_ _ _
  dsimp only
  split <;> simp [hl, h]

@[simp] theorem failCut_notices (c : CutFault) :
    NoticesFit (failCut c s).link.ret := by
  unfold failCut
  dsimp only
  (repeat' split) <;> simp [hl, h]

@[simp] theorem beginRetry_notices (u : Nat) :
    NoticesFit (beginRetry u s).link.ret := by
  unfold beginRetry
  (repeat' split) <;> simp [hl, h]

@[simp] theorem disableCutter_notices :
    NoticesFit (disableCutter s).link.ret := by
  unfold disableCutter
  have hdrop : NoticesFit (dropStops (fun t => !t.isMeasure && s.cutter.held != some t.uid) s).link.ret := by simp [h]
  have hraise := raise_notices (s := dropStops (fun t => !t.isMeasure && s.cutter.held != some t.uid) s)
    (by simp [hl]) hdrop
  dsimp only
  (repeat' split) <;> simp [hl, h, hraise]

@[simp] theorem holdItem_notices (u : Nat) :
    NoticesFit (holdItem u s).link.ret := by
  unfold holdItem
  (repeat' split) <;> simp [hl, h]

@[simp] theorem mergeVerdict_notices (u n : Nat) (v : Verdict) :
    NoticesFit (mergeVerdict u n v s).link.ret := by
  unfold mergeVerdict
  dsimp only
  (repeat' split) <;> simp [hl, h]

@[simp] theorem recordUnread_notices (t : Stop) (m : MeasureStop) :
    NoticesFit (recordUnread t m s).link.ret := by
  unfold recordUnread
  simp [hl, h]

@[simp] theorem unreadIfMeasure_notices (t : Stop) :
    NoticesFit (unreadIfMeasure t s).link.ret := by
  unfold unreadIfMeasure
  dsimp only
  (repeat' split) <;> simp [hl, h]

@[simp] theorem unreadStops_notices (l : List Stop) :
    NoticesFit (unreadStops l s).link.ret := by
  exact foldl_notices (by simp) (fun hl h t => unreadIfMeasure_notices hl h t) hl h l

@[simp] theorem endMeasureUnread_notices :
    NoticesFit (endMeasureUnread s).link.ret := by
  unfold endMeasureUnread
  dsimp only
  (repeat' split) <;> simp [hl, h]

@[simp] theorem endScan_notices (e : EndCause) :
    NoticesFit (endScan e s).link.ret := by
  unfold endScan
  (repeat' split) <;> simp [hl, h]

@[simp] theorem computeVerdict_notices (c : Scan) (p : Vector PatchLayout 8) (l : Vector Limits 8) :
    NoticesFit (computeVerdict c p l s).link.ret := by
  unfold computeVerdict
  dsimp only
  (repeat' split) <;> simp [hl, h]

@[simp] theorem endTest_notices (t : TestRun) (b : Bool) :
    NoticesFit (endTest t b s).link.ret := by
  unfold endTest
  (repeat' split) <;> simp [hl, h]

@[simp] theorem partEnded_notices (o : PartOutcome) :
    NoticesFit (partEnded o s).link.ret := by
  unfold partEnded
  dsimp only
  (repeat' split) <;> simp [hl, h]

@[simp] theorem judgePart_notices (p : Part) :
    NoticesFit (judgePart p s).link.ret := by
  unfold judgePart
  dsimp only
  (repeat' split) <;> simp [hl, h]

@[simp] theorem failPart_notices (p : Part) (c : PartFailure) :
    NoticesFit (failPart p c s).link.ret := by
  unfold failPart
  simp [hl, h]

@[simp] theorem closePanel_notices (u : Nat) (l : Bool) (t : Option Time) :
    NoticesFit (closePanel u l t s).link.ret := by
  unfold closePanel
  dsimp only
  (repeat' split) <;> simp [hl, h]

@[simp] theorem discardBand_notices (b : Band) :
    NoticesFit (discardBand b s).link.ret := by
  unfold discardBand
  dsimp only
  (repeat' split) <;> simp [hl, h]

@[simp] theorem discardBands_notices (l : List Band) :
    NoticesFit (discardBands l s).1.link.ret := by
  induction l generalizing s with
  | nil => simp [h, discardBands]
  | cons a l ih => simp [hl, h, discardBands, ih]

@[simp] theorem dropMeasures_notices (u : Nat) :
    NoticesFit (dropMeasures u s).link.ret := by
  unfold dropMeasures
  dsimp only
  (repeat' split) <;> simp [hl, h]

@[simp] theorem closeAborted_notices (u : Nat) (t : Time) :
    NoticesFit (closeAborted u t s).1.link.ret := by
  unfold closeAborted
  (repeat' split) <;> simp [hl, h]

@[simp] theorem abortItem_notices (u : Nat) (c : AbortCause) :
    NoticesFit (abortItem u c s).link.ret := by
  by_cases hidle : ∀ i, findItem s u = some i → i.fate = .aborted ∨ i.state = .costing
  · rwa [abortItem_of_idle hidle]
  · push Not at hidle
    obtain ⟨i, hi, hfate, hstate⟩ := hidle
    have hmarked : NoticesFit (abortMarked u s).link.ret := by simp [abortMarked, hl, h]
    have hlost : NoticesFit (abortLost u s).1.link.ret := by simp [abortLost, hl, hmarked]
    have htimed : NoticesFit (abortTimed u i s).link.ret := by simp [abortTimed, hlost]
    have hclosed : NoticesFit (abortClosed u i s).1.link.ret := by simp [abortClosed, hl, hlost]
    have hmoved : NoticesFit (abortMoved u i s).link.ret := by simp [abortMoved, abortGathered, hclosed]
    rw [abortItem_eq hi hfate hstate]
    exact advanceItem_notices (by simp [hl])
      (raiseItem_notices (by simp [hl]) (raiseItem_notices (by simp [hl]) hmoved _ _) _ _) _

@[simp] theorem closePending_notices (u : Nat) (t : Time) :
    NoticesFit (closePending u t s).link.ret := by
  unfold closePending
  simp [hl, h]

@[simp] theorem settleBand_notices (b : Band) (e : Ending) :
    NoticesFit (settleBand b e s).link.ret := by
  unfold settleBand
  simp [hl, h]

@[simp] theorem spendClean_notices (l : List (Chan × Nat)) :
    NoticesFit (spendClean l s).link.ret := by
  unfold spendClean
  simp [hl, h]

@[simp] theorem completeWork_notices (w : FlightWork) (e : Ending) :
    NoticesFit (completeWork w e s).link.ret := by
  unfold completeWork
  (repeat' split) <;> simp [hl, h]

@[simp] theorem endMove_notices (f : Flight) (e : Ending) :
    NoticesFit (endMove f e s).link.ret := by
  unfold endMove
  dsimp only
  (repeat' split) <;> simp [hl, h]

@[simp] theorem endFlight_notices (f : Flight) (e : Ending) :
    NoticesFit (endFlight f e s).link.ret := by
  unfold endFlight
  have hwork := completeWork_notices hl h f.work e
  dsimp only
  split <;> simp [hl, hwork]

@[simp] theorem finishDone_notices (f : Flight) :
    NoticesFit (finishDone f s).link.ret := by
  unfold finishDone
  dsimp only
  (repeat' split) <;> simp [hl, h]

@[simp] theorem finishAborted_notices (f : Flight) (d : Nat) :
    NoticesFit (finishAborted f d s).link.ret := by
  unfold finishAborted
  have hraise := raise_notices (s := linkIdle s) (by simp [hl]) (by simp [h])
  exact endMeasureUnread_notices (by simp [hl]) (endScan_notices (by simp [hl]) (endFlight_notices (by simp [hl])
      (hraise _) _ _) _)

@[simp] theorem headFault_notices (c : FaultCause) :
    NoticesFit (headFault c s).link.ret := by
  unfold headFault
  refine raise_notices ?_ (endMeasureUnread_notices ?_ ?_) _
  all_goals split <;> simp [hl, h]

@[simp] theorem offerAgain_notices (f : Flight) (n : Nat) :
    NoticesFit (offerAgain f n s).link.ret := by
  unfold offerAgain
  (repeat' split) <;> simp [hl, h]

@[simp] theorem dispatchStop_notices (u : Nat) :
    NoticesFit (dispatchStop u s).link.ret := by
  unfold dispatchStop
  (repeat' split) <;> simp [hl, h]

@[simp] theorem pauseAt_notices (f : Flight) (n : Nat) :
    NoticesFit (pauseAt f n s).link.ret := by
  unfold pauseAt
  (repeat' split) <;> simp [hl, h]

@[simp] theorem completeCount_notices (j : CountJob) :
    NoticesFit (completeCount j s).link.ret := by
  unfold completeCount
  dsimp only
  (repeat' split) <;> simp [hl, h]

@[simp] theorem answerRequest_notices (r : Request) :
    NoticesFit (answerRequest r s).link.ret := by
  unfold answerRequest
  (repeat' split) <;> simp [hl, h]

omit hl in
theorem commitContent_notices {c : Content} (hc : LevelsFit (setContent c s.tables).notice) :
    NoticesFit (commitContent c s).link.ret := by
  unfold commitContent
  have hset : LevelsFit (s.onTables (setContent c)).tables.notice := hc
  have hret : NoticesFit (s.onTables (setContent c)).link.ret := h
  generalize s.onTables (setContent c) = t at hset hret ⊢
  dsimp only
  (repeat' split) <;> simp [hset, hret]

@[simp] theorem tableCommit_notices (b : List Byte) :
    NoticesFit (tableCommit b s).1.link.ret := by
  unfold tableCommit
  dsimp only
  split
  · exact h
  · split
    · exact h
    · split
      · split
        · next himage =>
          obtain ⟨image, -, hjudge⟩ := Option.bind_eq_some_iff.1 himage
          exact commitContent_notices (by simpa using h) (levelsFit_setContent hjudge
              (by simpa [TableStore.freed] using hl))
        · exact h
      · exact h

@[simp] theorem expireLock_notices :
    NoticesFit (expireLock s).link.ret := by
  unfold expireLock
  (repeat' split) <;> simp [hl, h, TableStore.freed]

@[simp] theorem closeItemTake_notices (i : Item) :
    NoticesFit (closeItemTake i s).link.ret := by
  unfold closeItemTake
  refine advanceItem_notices ?_ ?_ _
  all_goals (repeat' split) <;> simp [hl, h]

@[simp] theorem judgeItemClose_notices (b : List Byte) :
    NoticesFit (judgeItemClose b s).1.link.ret := by
  unfold judgeItemClose
  (repeat' split) <;> simp [hl, h]

@[simp] theorem acceptBand_notices (e : IntakeEntry) (b : BandBody) (m : Vector MapEntry 12) (i : Item) :
    NoticesFit (acceptBand e b m i s).link.ret := by
  unfold acceptBand
  dsimp only
  (repeat' split) <;> simp [hl, h]

@[simp] theorem judgeTableLoad_notices (b : List Byte) :
    NoticesFit (judgeTableLoad b s).1.link.ret := by
  unfold judgeTableLoad
  split
  · exact h
  · split
    · exact h
    · exact commitContent_notices h (levelsFit_setContent ‹_› hl)

@[simp] theorem itemAbort_notices (b : List Byte) :
    NoticesFit (itemAbort b s).1.link.ret := by
  unfold itemAbort
  (repeat' split) <;> simp [hl, h]

@[simp] theorem releaseHoldOf_notices (u : Nat) :
    NoticesFit (releaseHoldOf u s).link.ret := by
  unfold releaseHoldOf
  simp [hl, h]

@[simp] theorem holdRelease_notices (b : List Byte) :
    NoticesFit (holdRelease b s).1.link.ret := by
  unfold holdRelease
  (repeat' split) <;> simp [hl, h]

@[simp] theorem dropEveryStop_notices :
    NoticesFit (dropEveryStop s).link.ret := by
  unfold dropEveryStop
  have hunread := unreadStops_notices (s := dropStops (fun _ => true) s) (by simp [hl]) (by simp [h]) s.media.stops
  dsimp only
  split <;> simp [hl, hunread]

@[simp] theorem replaceRoll_notices (p : MediaProfile) (n : Nat) :
    NoticesFit (replaceRoll p n s).link.ret := by
  unfold replaceRoll
  simp [hl, h]

@[simp] theorem rollLoad_notices (b : List Byte) :
    NoticesFit (rollLoad b s).1.link.ret := by
  unfold rollLoad
  (repeat' split) <;> simp [hl, h]

@[simp] theorem verifyClear_notices (b : List Byte) :
    NoticesFit (verifyClear b s).1.link.ret := by
  unfold verifyClear
  (repeat' split) <;> simp [hl, h]

@[simp] theorem cutterClear_notices (b : List Byte) :
    NoticesFit (cutterClear b s).1.link.ret := by
  unfold cutterClear
  dsimp only
  (repeat' split) <;> simp [hl, h]

@[simp] theorem dumpRecord_notices (n : Nat) :
    NoticesFit (dumpRecord s n).link.ret := by
  unfold dumpRecord
  (repeat' split) <;> simp [hl, h]

@[simp] theorem abortOpenItem_notices :
    NoticesFit (abortOpenItem s).link.ret := by
  unfold abortOpenItem
  (repeat' split) <;> simp [hl, h]

@[simp] theorem spendRow_notices :
    NoticesFit (spendRow s).link.ret := by
  unfold spendRow
  dsimp only
  (repeat' split) <;> simp [hl, h]

@[simp] theorem strayRow_notices :
    NoticesFit (strayRow s).link.ret := by
  unfold strayRow
  dsimp only
  (repeat' split) <;> simp [hl, h]

@[simp] theorem feedRow_notices :
    NoticesFit (feedRow s).link.ret := by
  unfold feedRow
  dsimp only
  (repeat' split) <;> simp [hl, h]

@[simp] theorem feedRows_notices (n : Nat) :
    NoticesFit (feedRows n s).link.ret := by
  induction n generalizing s with
  | zero => simp [h, feedRows]
  | succ n ih =>
    unfold feedRows
    simp [hl, h, ih]

@[simp] theorem takeEdge_notices :
    NoticesFit (takeEdge s).link.ret := by
  unfold takeEdge
  simp [hl, h]

@[simp] theorem abortYoungest_notices (n : Nat) :
    NoticesFit (abortYoungest n s).1.link.ret := by
  induction n generalizing s with
  | zero => simp [h, abortYoungest]
  | succ n ih =>
    unfold abortYoungest
    (repeat' split) <;> simp [hl, h, ih]

@[simp] theorem rollEnd_notices :
    NoticesFit (rollEnd s).link.ret := by
  unfold rollEnd
  dsimp only
  (repeat' split) <;> simp [hl, h]

@[simp] theorem assertRollEnd_notices :
    NoticesFit (assertRollEnd s).link.ret := by
  unfold assertRollEnd
  dsimp only
  (repeat' split) <;> simp [hl, h]

@[simp] theorem assertSeat_notices (c : Chan) :
    NoticesFit (assertSeat c s).link.ret := by
  unfold assertSeat
  dsimp only
  (repeat' split) <;> simp [hl, h]

@[simp] theorem assertDetect_notices (c : Chan) (l : DetectLine) :
    NoticesFit (assertDetect c l s).link.ret := by
  unfold assertDetect
  dsimp only
  (repeat' split) <;> simp [hl, h]

@[simp] theorem releaseDetect_notices (c : Chan) (l : DetectLine) :
    NoticesFit (releaseDetect c l s).link.ret := by
  unfold releaseDetect
  dsimp only
  (repeat' split) <;> simp [hl, h]

@[simp] theorem seatDebounced_notices (c : Chan) :
    NoticesFit (seatDebounced c s).link.ret := by
  unfold seatDebounced
  (repeat' split) <;> simp [hl, h]

@[simp] theorem removeCart_notices (c : Chan) :
    NoticesFit (removeCart c s).link.ret := by
  unfold removeCart
  dsimp only
  (repeat' split) <;> simp [hl, h]

@[simp] theorem senseLevel_notices (c : Chan) :
    NoticesFit (senseLevel c s).link.ret := by
  unfold senseLevel
  dsimp only
  (repeat' split) <;> simp [hl, h]

@[simp] theorem failRead_notices (c : Chan) :
    NoticesFit (failRead c s).link.ret := by
  unfold failRead
  dsimp only
  split <;> simp [hl, h]

@[simp] theorem acceptRead_notices (c : Chan) (t : TagContents) :
    NoticesFit (acceptRead c t s).link.ret := by
  unfold acceptRead
  dsimp only
  split <;> simp [hl, h]

@[simp] theorem answerRead_notices (c : Chan) (t : TagContents) (g : Bool) :
    NoticesFit (answerRead c t g s).link.ret := by
  unfold answerRead
  dsimp only
  (repeat' split) <;> simp [hl, h]

@[simp] theorem timeoutRead_notices (c : Chan) :
    NoticesFit (timeoutRead c s).link.ret := by
  unfold timeoutRead
  dsimp only
  (repeat' split) <;> simp [hl, h]

@[simp] theorem kindCheck_notices (c : Chan) (a b : Bool) :
    NoticesFit (kindCheck c a b s).link.ret := by
  unfold kindCheck
  dsimp only
  (repeat' split) <;> simp [hl, h]

omit hl in
@[simp] theorem confirmWrite_notices (c : Chan) :
    NoticesFit (confirmWrite c s).link.ret := by
  unfold confirmWrite
  dsimp only
  (repeat' split) <;> simp [h]

@[simp] theorem timeoutWrite_notices (c : Chan) :
    NoticesFit (timeoutWrite c s).link.ret := by
  unfold timeoutWrite
  dsimp only
  (repeat' split) <;> simp [hl, h]

end Raising

end Sys2Proof.Machine

/-! ## What raising a notice does to the return queue (R11, R13) -/

namespace Sys2Proof.Machine

/-- R11: level 0 drops a notice. -/
theorem raise_of_level_zero {n : Notice} {s : State} (h : classLevel s n.cls = 0) : raise n s = s := if_pos h

/-- R12: with fewer than 28 notices queued a notice joins the queue. -/
theorem raise_joins {n : Notice} {s : State} {level : Nat} (hlevel : classLevel s n.cls = level) (h0 : level ≠ 0)
    (hroom : notices s < 28) :
    raise n s = s.onLink fun l => { l with
      ret := l.ret ++ [{ level := level, tag := 0#8, time := s.now, payload := .notice n }] } := by
  have hroom' : s.link.ret.countP (fun e => !e.isReply) < noticePlaces := hroom
  simp only [raise, hlevel, if_neg h0, State.onLink, queueNotice, if_pos hroom']

/-- R13: the level of the oldest notice of the lowest level is the lowest. -/
theorem lowestLevel_of_split {older younger : List Entry} {d : Entry} (hd : d.isReply = false) (h8 : d.level ≤ 8)
    (ho : ∀ e ∈ older, e.isReply = false → d.level < e.level)
    (hy : ∀ e ∈ younger, e.isReply = false → d.level ≤ e.level) : lowestLevel (older ++ d :: younger) = d.level := by
  obtain ⟨-, hall, hmem⟩ := foldl_lowest_spec (older ++ d :: younger) 8
  have hle : lowestLevel (older ++ d :: younger) ≤ d.level := hall d (by simp) hd
  refine le_antisymm hle ?_
  obtain heq | ⟨e, he, hr, heq⟩ := hmem
  · exact h8.trans_eq heq.symm
  · refine le_of_le_of_eq ?_ heq
    obtain he | rfl | he := by simpa using he
    · exact (ho e he hr).le
    · exact le_rfl
    · exact hy e he hr

/-- R13: the oldest notice of its level is the one that is displaced. -/
theorem dropOldest_of_split {older younger : List Entry} {d : Entry} (hd : d.isReply = false)
    (ho : ∀ e ∈ older, e.isReply = false → d.level < e.level) :
    dropOldest d.level (older ++ d :: younger) = older ++ younger := by
  have hkeep : ∀ e ∈ older, ¬(!e.isReply && e.level == d.level) = true := by
    intro e he hp
    simp only [Bool.and_eq_true, Bool.not_eq_true', beq_iff_eq] at hp
    obtain ⟨hr, hl⟩ := hp
    exact (ho e he hr).ne' hl
  rw [dropOldest, List.eraseP_append_right _ hkeep, List.eraseP_cons_of_pos (by simp [hd])]

/-- R13: with 28 notices queued a notice displaces the oldest of the lowest level, or is discarded. -/
theorem raise_displaces {n : Notice} {s : State} {level : Nat} {older younger : List Entry} {d : Entry}
    (hlevel : classLevel s n.cls = level) (h0 : level ≠ 0) (hfull : 28 ≤ notices s)
    (hs : s.link.ret = older ++ d :: younger) (hd : d.isReply = false) (h8 : d.level ≤ 8)
    (ho : ∀ e ∈ older, e.isReply = false → d.level < e.level)
    (hy : ∀ e ∈ younger, e.isReply = false → d.level ≤ e.level) :
    raise n s = s.onLink fun l =>
      if d.level < level then
        { l with ret := older ++ younger ++ [{ level := level, tag := 0#8, time := s.now, payload := .notice n }],
                 displaced := true }
      else { l with displaced := true } := by
  have hfull' : ¬(s.link.ret.countP (fun e => !e.isReply) < noticePlaces) := Nat.not_lt.2 hfull
  have hlow : lowestLevel s.link.ret = d.level := by rw [hs, lowestLevel_of_split hd h8 ho hy]
  have hdrop : dropOldest d.level s.link.ret = older ++ younger := by rw [hs, dropOldest_of_split hd ho]
  simp only [raise, hlevel, if_neg h0, State.onLink, queueNotice, if_neg hfull', hlow, hdrop]

/-- Settles O10: a notice is dropped, joins, displaces the oldest of the lowest level, or is discarded. -/
theorem noticeQueued : Obligations.NoticeQueued := by
  refine ⟨fun n => by cases n <;> rfl, ?_⟩
  rintro n s level hlevel
  have hclass : classLevel s n.cls = level := hlevel ▸ rfl
  refine ⟨fun h0 => raise_of_level_zero (hclass.trans h0), fun h0 hroom => raise_joins hclass h0 hroom, ?_⟩
  intro older d younger h0 hfull hs hd h8 ho hy
  exact raise_displaces hclass h0 hfull hs hd h8 ho hy

end Sys2Proof.Machine

/-! ## The seats found at a reset (R18, R117) -/

namespace Sys2Proof.Machine

theorem commitContent_tables (c : Content) (s : State) : (commitContent c s).tables = setContent c s.tables := by
  unfold commitContent
  (repeat' split) <;> simp

/-- R117: what the detect lines found asserted make of a slot at a reset. -/
def Slot.found (now : Time) (t : Slot) : Slot :=
  { t with bothSince := if t.d1 && t.d2 then some now else none, levelSince := now, sensed := .ok,
           cart := { Cartridge.cleared with state := if t.d1 || t.d2 then .seating else .absent } }

/-- R11: a notice that a reset raises, at its moment and of the level of an absent NOTICE section. -/
def ResetNotice (now : Time) (e : Entry) : Prop := e.isReply = false ∧ e.level = 4 ∧ e.time = now

@[simp] theorem slot_mapSlot (c : Chan) (f : Slot → Slot) (s : State) : slot (mapSlot c f s) c = f (slot s c) := by
  simp [slot, mapSlot]

theorem slot_mapSlot_of_ne {b c : Chan} (h : b ≠ c) (f : Slot → Slot) (s : State) :
    slot (mapSlot c f s) b = slot s b := by
  have hval : c.val ≠ b.val := fun hv => h (Fin.ext hv.symm)
  simp [slot, mapSlot, Vector.getElem_set_ne _ _ hval]

theorem mapSlot_mapSlot (c : Chan) (f g : Slot → Slot) (s : State) :
    mapSlot c f (mapSlot c g s) = mapSlot c (fun t => f (g t)) s := by
  simp [mapSlot, State.onInk]

theorem mapSlot_congr {c : Chan} {f g : Slot → Slot} {s : State} (h : f (slot s c) = g (slot s c)) :
    mapSlot c f s = mapSlot c g s := by
  unfold slot at h
  simp only [mapSlot, State.onInk, h]

theorem mapSlot_self {c : Chan} {f : Slot → Slot} {s : State} (h : f (slot s c) = slot s c) : mapSlot c f s = s := by
  unfold slot at h
  simp only [Fin.getElem_fin] at h
  simp [mapSlot, State.onInk, h]

/-- R100, R117: the debounce of a slot with both lines asserted runs from the reset. -/
theorem debounce_restarted {c : Chan} {t : Slot} {u : State} (hslot : slot u c = t.restart u.now) :
    (if t.d1 = true ∧ t.d2 = true then mapSlot c (fun k => { k with bothSince := some u.now }) u else u) =
      mapSlot c (fun _ => { t.restart u.now with bothSince := if t.d1 && t.d2 then some u.now else none }) u := by
  split
  · next h => exact mapSlot_congr (by simp [hslot, h])
  · next h => exact (mapSlot_self (by simp [hslot, h, Slot.restart])).symm

/-- R100, R117: a slot with a line asserted becomes SEATING, with its notice. -/
theorem assertFound_of_line {c : Chan} {t : Slot} {u : State} (hslot : slot u c = t.restart u.now)
    (hline : (t.d1 || t.d2) = true) :
    ∃ n : Notice, assertFound c u = raise n (mapSlot c (fun _ => t.found u.now) u) := by
  have hfound : (slot u c).d1 = t.d1 ∧ (slot u c).d2 = t.d2 ∧ (slot u c).cart.state = .absent := by
    simp [hslot, Slot.restart, Cartridge.cleared]
  obtain ⟨hd1, hd2, habsent⟩ := hfound
  simp only [assertFound, assertSeat, hd1, hd2, hline, if_true, habsent, debounce_restarted hslot]
  simp only [moveCart, mapCart, slot_mapSlot, mapSlot_mapSlot]
  rw [if_neg (by simp [Slot.restart, Cartridge.cleared])]
  exact ⟨_, (congrArg (raiseCart c _ _) (mapSlot_congr (by simp [Slot.found, Slot.restart, hline]))).trans rfl⟩

/-- R117: a slot with no line asserted stays as the reset left it. -/
theorem assertFound_of_no_line {c : Chan} {t : Slot} {u : State} (hslot : slot u c = t.restart u.now)
    (hline : (t.d1 || t.d2) = false) : assertFound c u = u ∧ mapSlot c (fun _ => t.found u.now) u = u := by
  obtain ⟨hd1, hd2⟩ := Bool.or_eq_false_iff.1 hline
  refine ⟨by simp [assertFound, hslot, Slot.restart, hd1, hd2], mapSlot_self ?_⟩
  simp [hslot, Slot.found, Slot.restart, hd1, hd2, Cartridge.cleared]

/-- R117: one slot at a reset: found as its lines stand, with a notice if a line is asserted. -/
theorem assertFound_restarted {c : Chan} {t : Slot} {u : State} (hslot : slot u c = t.restart u.now)
    (hnotice : u.tables.notice = none) (hroom : notices u < 28) :
    ∃ ns : List Entry, ns.length ≤ 1 ∧ (∀ e ∈ ns, ResetNotice u.now e) ∧
      assertFound c u = (mapSlot c (fun _ => t.found u.now) u).onLink fun l => { l with ret := l.ret ++ ns } := by
  cases hline : t.d1 || t.d2 with
  | false =>
    obtain ⟨hstays, hsame⟩ := assertFound_of_no_line hslot hline
    exact ⟨[], by simp, by simp, by simp [hstays, hsame, State.onLink]⟩
  | true =>
    obtain ⟨n, hraise⟩ := assertFound_of_line hslot hline
    refine ⟨[{ level := 4, tag := 0#8, time := u.now, payload := .notice n }], by simp, ?_, ?_⟩
    · simp [ResetNotice, Entry.isReply]
    · exact hraise.trans (raise_joins (by simp [classLevel, hnotice]) (by omega) (by simpa [notices] using hroom))

/-- R18, R117: the slots of a list at a reset: each found as its lines stand, with at most one notice each. -/
theorem forChannels_assertFound {cs : List Chan} (hnodup : cs.Nodup) {u : State} {lines : Chan → Slot}
    (hslot : ∀ c ∈ cs, slot u c = (lines c).restart u.now) (hnotice : u.tables.notice = none)
    (hroom : u.link.ret.length + cs.length ≤ 28) :
    ∃ (ns : List Entry) (slots : Vector Slot 12), ns.length ≤ cs.length ∧ (∀ e ∈ ns, ResetNotice u.now e) ∧
      (∀ c : Chan, slots[c] = if c ∈ cs then (lines c).found u.now else u.ink.slots[c]) ∧
      forChannels cs assertFound u =
        (u.onInk fun k => { k with slots := slots }).onLink fun l => { l with ret := l.ret ++ ns } := by
  induction cs generalizing u with
  | nil => exact ⟨[], u.ink.slots, by simp, by simp, by simp, by simp [forChannels, State.onInk, State.onLink]⟩
  | cons c cs ih =>
    obtain ⟨hc, hnodup⟩ := List.nodup_cons.1 hnodup
    simp only [List.length_cons] at hroom
    have hcount : notices u < 28 := lt_of_le_of_lt List.countP_le_length (by omega)
    obtain ⟨ns, hlen, hns, hfirst⟩ := assertFound_restarted (hslot c (by simp)) hnotice hcount
    obtain ⟨ms, slots, hlen', hms, hslots, hrest⟩ := ih (u := assertFound c u) hnodup
      (fun b hb => by
        rw [hfirst]
        have hne : b ≠ c := fun h => hc (h ▸ hb)
        exact (slot_mapSlot_of_ne hne (fun _ => (lines c).found u.now) u).trans (hslot b (by simp [hb])))
      (by simp [hfirst, hnotice]) (by simp [hfirst]; omega)
    refine ⟨ns ++ ms, slots, by simp; omega, ?_, fun b => ?_, ?_⟩
    · simpa [or_imp, forall_and, hfirst] using ⟨hns, by simpa [hfirst] using hms⟩
    · rw [hslots b, hfirst]
      by_cases hb : b ∈ cs
      · simp [hb]
      · by_cases hbc : b = c
        · subst hbc
          rw [if_neg hb, if_pos (by simp)]
          exact slot_mapSlot b (fun _ => (lines b).found u.now) u
        · rw [if_neg hb, if_neg (by simp [hb, hbc])]
          exact slot_mapSlot_of_ne hbc (fun _ => (lines c).found u.now) u
    · change forChannels cs assertFound (assertFound c u) = _
      rw [hrest, hfirst]
      simp [State.onInk, State.onLink, mapSlot]

/-- R18: the restart of every block, and the seats found. -/
theorem restartAll_eq (now : Time) (s : State) :
    ∃ (ns : List Entry) (slots : Vector Slot 12), ns.length ≤ 12 ∧ (∀ e ∈ ns, ResetNotice now e) ∧
      (∀ c : Chan, slots[c] = s.ink.slots[c].found now) ∧
      restartAll now s = ((restart now s).onInk fun k => { k with slots := slots }).onLink fun l =>
        { l with ret := ns } := by
  obtain ⟨ns, slots, hlen, hns, hslots, hrest⟩ :=
    forChannels_assertFound (u := restart now s) (lines := fun c => s.ink.slots[c]) (List.nodup_finRange 12)
      (fun c _ => by simp [slot, restart]) rfl (by simp [restart, State.reset, Link.reset])
  exact ⟨ns, slots, by simpa using hlen, hns, fun c => (hslots c).trans (if_pos (List.mem_finRange c)), hrest⟩

/-- R18 and each block's rule: the power-on values, with the return queue as the seats found leave it. -/
theorem restartAll_atPowerOn (now : Time) (s : State) :
    AtPowerOn now s (restartAll now s) ∧ (restartAll now s).out = s.out ∧ (restartAll now s).link.rx = .idle ∧
      ∀ e ∈ (restartAll now s).link.ret, ResetNotice now e := by
  obtain ⟨ns, slots, -, hns, hslots, heq⟩ := restartAll_eq now s
  rw [heq]
  refine ⟨⟨rfl, rfl, rfl, rfl, rfl, rfl, rfl, rfl, rfl, rfl, rfl, rfl, rfl, rfl, fun c => ?_⟩, rfl, rfl, hns⟩
  exact hslots c

end Sys2Proof.Machine

/-! ## The link port: express records, arrival replies, the hold and the return lane (R6, R10, R12, R14) -/

namespace Sys2Proof.Machine

theorem actsAtOnce_iff (s : State) : actsAtOnce s = true ↔ replies s < 4 ∧ s.link.hold = [] := by
  simp only [actsAtOnce, Bool.and_eq_true, decide_eq_true_eq, List.isEmpty_iff]
  rfl

@[simp] theorem actsAtOnce_clearOut (s : State) : actsAtOnce s.clearOut = actsAtOnce s := rfl

@[simp] theorem replies_clearOut (s : State) : replies s.clearOut = replies s := rfl

/-- R129: the look at the run-out wait is apart from the link port. -/
theorem keepRunOut_onLink (f : Link → Link) (s : State) : keepRunOut (s.onLink f) = (keepRunOut s).onLink f := by
  have hready : runOutReady (s.onLink f) = runOutReady s := rfl
  unfold keepRunOut
  simp only [hready, State.onLink_media]
  split <;> rfl

@[simp] theorem keepRunOut_reply (tag : Byte) (st : Status) (b : ReplyBody) (s : State) :
    keepRunOut (reply tag st b s) = reply tag st b (keepRunOut s) := by
  simp only [reply, keepRunOut_onLink, keepRunOut_frame]

/-! ### Acting on a record -/

/-- R10: an owner that answers OK: the reply alone follows. -/
theorem actExpress_of_ok {k : ExpressKind} {tag : Byte} {body : List Byte} {s t : State} {b : ReplyBody}
    (h : ownerAnswer k body s = { state := t, status := .ok, body := b }) :
    actExpress k tag body s = reply tag .ok b t := by
  simp [actExpress, h, captureIf]

/-- R10, R14: an owner that refuses a body: the record is offered to the fault capture. -/
theorem actExpress_of_bad {k : ExpressKind} {tag : Byte} {body : List Byte} {s : State}
    (h : ownerAnswer k body s = answer (s, .badRecord)) :
    actExpress k tag body s =
      reply tag .badRecord .empty (capture (goodWire k.code 1#8 tag body) body.length false s) := by
  simp [actExpress, h, captureIf, answer]

/-- R6: while the hold has 8 entries the delivery is withheld. -/
theorem express_of_full {s : State} (h : 8 ≤ s.link.hold.length) (k : ExpressKind) (tag : Byte) (body : List Byte) :
    express k tag body s = s := by
  simp [express, deliveryWithheld, holdPlaces, h]

/-- R6: an express record is acted on at once. -/
theorem express_of_acts {s : State} (h : actsAtOnce s = true) (k : ExpressKind) (tag : Byte) (body : List Byte) :
    express k tag body s = actExpress k tag body s := by
  simp [express, deliveryWithheld, holdPlaces, h, ((actsAtOnce_iff s).1 h).2]

/-- R6: an express record joins the end of the hold. -/
theorem express_of_held {s : State} (hroom : s.link.hold.length < 8) (h : actsAtOnce s = false) (k : ExpressKind)
    (tag : Byte) (body : List Byte) :
    express k tag body s = s.onLink fun l => { l with hold := l.hold ++ [.express k tag body] } := by
  simp [express, deliveryWithheld, holdPlaces, h, Nat.not_le.2 hroom]

section Acted

variable {c : Instr} {k : ExpressKind} {tag : Byte} {body : List Byte} {s : State}
  (hexec : exec c s = command (express k tag body) s) (hact : actsAtOnce s = true)

include hexec hact

/-- R6, R10: a command that is an express record acted on at once with an OK answer. -/
theorem replies_of_acts {t : State} {b : ReplyBody}
    (h : ownerAnswer k body s.clearOut = { state := t, status := .ok, body := b }) : Replies c s tag .ok b t :=
  hexec.trans (command_eq ((express_of_acts (by simpa using hact) k tag body).trans (actExpress_of_ok h)))

/-- R10, R14: a command that is an express record acted on at once and refused for its body. -/
theorem refuses_of_acts (h : ownerAnswer k body s.clearOut = answer (s.clearOut, .badRecord)) :
    Refuses c s k tag body :=
  hexec.trans (command_eq ((express_of_acts (by simpa using hact) k tag body).trans (actExpress_of_bad h)))

end Acted

/-! ### The entry that is sent, and the hold -/

/-- R12: the highest level found among the entries of a queue, from a level on. -/
theorem foldl_highest_spec (ret : List Entry) (m : Nat) :
    m ≤ ret.foldl (fun m e => max m e.level) m ∧ ∀ e ∈ ret, e.level ≤ ret.foldl (fun m e => max m e.level) m := by
  induction ret generalizing m with
  | nil => simp
  | cons e ret ih =>
    obtain ⟨hle, hall⟩ := ih (max m e.level)
    refine ⟨by simpa using (le_max_left _ _).trans hle, fun x hx => ?_⟩
    obtain rfl | hx := List.mem_cons.1 hx
    · exact (le_max_right _ _).trans hle
    · exact hall x hx

theorem foldl_highest_le {ret : List Entry} {m n : Nat} (hm : m ≤ n) (h : ∀ e ∈ ret, e.level ≤ n) :
    ret.foldl (fun m e => max m e.level) m ≤ n := by
  induction ret generalizing m with
  | nil => exact hm
  | cons e ret ih => exact ih (max_le hm (h e (by simp))) fun x hx => h x (by simp [hx])

section Departs

variable {older younger : List Entry} {e : Entry} (ho : ∀ x ∈ older, x.level < e.level)

include ho

/-- R12: the oldest entry of the highest level is sent next. -/
theorem nextEntry_of_split (hy : ∀ x ∈ younger, x.level ≤ e.level) : nextEntry (older ++ e :: younger) = some e := by
  have htop : (older ++ e :: younger).foldl (fun m e => max m e.level) 0 = e.level := by
    refine le_antisymm (foldl_highest_le (Nat.zero_le _) fun x hx => ?_) ((foldl_highest_spec _ 0).2 e (by simp))
    obtain hx | rfl | hx := by simpa using hx
    · exact (ho x hx).le
    · exact le_rfl
    · exact hy x hx
  have hnone : older.find? (fun x => x.level == e.level) = none :=
    List.find?_eq_none.2 fun x hx => by simp [(ho x hx).ne]
  simp [nextEntry, htop, List.find?_append, hnone]

theorem dropEntry_of_split : dropEntry e.level (older ++ e :: younger) = older ++ younger := by
  rw [dropEntry, List.eraseP_append_right _ fun x hx => by simp [(ho x hx).ne], List.eraseP_cons_of_pos (by simp)]

/-- R12, R6: what RETURN_ENTRY_SEND does, by the entry that is sent. -/
theorem sendEntry_of_split {s : State} (hs : s.link.ret = older ++ e :: younger)
    (hy : ∀ x ∈ younger, x.level ≤ e.level) :
    sendEntry s =
      if e.isReply then
        releaseHold s.link.hold.length ((s.onLink fun l => { l with ret := older ++ younger }).send (.upstream e))
      else (s.onLink fun l => { l with ret := older ++ younger }).send (.upstream e) := by
  have hdrop : (s.onLink fun l => { l with ret := dropEntry e.level l.ret }) =
      s.onLink fun l => { l with ret := older ++ younger } := by
    simp only [State.onLink, hs, dropEntry_of_split ho]
  simp only [sendEntry, hs, nextEntry_of_split ho hy, hdrop]
  rfl

end Departs

theorem releaseHold_of_empty (n : Nat) {s : State} (h : s.link.hold = []) : releaseHold n s = s := by
  cases n <;> simp [releaseHold, h]

/-- R6: with 4 replies queued nothing leaves the hold. -/
theorem releaseHold_of_full (n : Nat) {s : State} (h : replies s = 4) : releaseHold n s = s := by
  cases n with
  | zero => rfl
  | succ n =>
    unfold releaseHold
    split
    · rfl
    · simp [h, replyPlaces]

/-- R6, R129: the oldest entry of the hold is acted on, and the run-out wait looked at. -/
theorem releaseHold_succ {n : Nat} {s : State} {e : HoldEntry} {rest : List HoldEntry} (h : s.link.hold = e :: rest)
    (hroom : replies s < 4) :
    releaseHold (n + 1) s = releaseHold n (keepRunOut (actHeld e (s.onLink fun l => { l with hold := rest }))) := by
  simp [releaseHold, h, replyPlaces, hroom]

/-- The arrival replies of a hold, queued in their order. -/
def queueReplies (held : List (Byte × Status)) (s : State) : State :=
  held.foldl (fun v h => reply h.1 h.2 .empty v) s

theorem replies_reply (tag : Byte) (st : Status) (b : ReplyBody) (s : State) :
    replies (reply tag st b s) = replies s + 1 := by
  simp [replies, reply, Entry.isReply]

@[simp] theorem keepRunOut_queueReplies (held : List (Byte × Status)) (s : State) :
    keepRunOut (queueReplies held s) = queueReplies held (keepRunOut s) := by
  unfold queueReplies
  induction held generalizing s with
  | nil => rfl
  | cons h held ih => simp [ih]

/-- R6: a hold of arrival replies alone that fit the return queue is emptied into it. -/
theorem releaseHold_replies {n : Nat} {held : List (Byte × Status)} {s : State}
    (hhold : s.link.hold = held.map fun h => .reply h.1 h.2) (hroom : replies s + held.length ≤ 4)
    (hn : held.length ≤ n) :
    releaseHold n (keepRunOut s) = keepRunOut (queueReplies held (s.onLink fun l => { l with hold := [] })) := by
  induction held generalizing s n with
  | nil =>
    have hsame : (s.onLink fun l => { l with hold := [] }) = s := by
      simp only [State.onLink, ← show s.link.hold = [] from hhold]
    rw [hsame]
    exact releaseHold_of_empty n (by simpa using hhold)
  | cons h held ih =>
    obtain ⟨n, rfl⟩ : ∃ m, n = m + 1 := Nat.exists_eq_succ_of_ne_zero (by simp at hn; omega)
    simp only [List.length_cons] at hroom hn
    have hreplies : replies (keepRunOut s) = replies s := by simp [replies]
    rw [releaseHold_succ (e := .reply h.1 h.2) (rest := held.map fun h => .reply h.1 h.2) (by simpa using hhold)
      (by omega), ← keepRunOut_onLink]
    simp only [actHeld, ← keepRunOut_reply, keepRunOut_keepRunOut]
    rw [ih (by simp [reply]) (by rw [replies_reply]; simp [replies] at hroom ⊢; omega) (by omega)]
    rfl

end Sys2Proof.Machine

/-! ## Every step keeps the places of the return queue and of the hold (R6, R9, R12, R13) -/

namespace Sys2Proof.Machine

section Bounds

-- The rules of the state's updates hold by `rfl`; a hypothesis that `simp` discharges through them has the right type
-- only up to unfolding the update, which this option allows.
set_option backward.isDefEq.respectTransparency false

/-- Raising notices is all that is done to the return queue: the hold and the replies stay, and the bounds of the
notices are kept. -/
def Raises (s t : State) : Prop :=
  t.link.hold = s.link.hold ∧ t.link.ret.countP Entry.isReply = s.link.ret.countP Entry.isReply ∧
  (LevelsFit s.tables.notice → NoticesFit s.link.ret → LevelsFit t.tables.notice ∧ NoticesFit t.link.ret)

theorem Raises.of_link {s t : State} (hlink : t.link = s.link) (ht : t.tables.notice = s.tables.notice) : Raises s t :=
  ⟨by rw [hlink], by rw [hlink], fun hl h => ⟨by rwa [ht], by rwa [hlink]⟩⟩

theorem Raises.of_tables {s t : State} (hhold : t.link.hold = s.link.hold)
    (hreplies : t.link.ret.countP Entry.isReply = s.link.ret.countP Entry.isReply) (ht : t.tables = s.tables)
    (hfit : LevelsFit s.tables.notice → NoticesFit s.link.ret → NoticesFit t.link.ret) : Raises s t :=
  ⟨hhold, hreplies, fun hl h => ⟨by rwa [ht], hfit hl h⟩⟩

/-! ### The owners of the express records -/

theorem raises_commitContent {sec : Section} {image : List Byte} {c : Content} (hc : judgeImage sec image = some c)
    (s : State) : Raises s (commitContent c s) :=
  ⟨by simp, by simp, fun hl h => ⟨by simpa [commitContent_tables] using levelsFit_setContent hc hl,
    commitContent_notices h (levelsFit_setContent hc hl)⟩⟩

theorem raises_tableCommit (b : List Byte) (s : State) : Raises s (tableCommit b s).1 := by
  unfold tableCommit
  dsimp only
  (repeat' split) <;> try exact .of_link rfl rfl
  next himage =>
    obtain ⟨image, -, hjudge⟩ := Option.bind_eq_some_iff.1 himage
    exact raises_commitContent hjudge (s.onTables TableStore.freed)

theorem raises_costDump (b : List Byte) (s : State) : Raises s (costDump b s).1 := by
  have hrun (l : List Nat) (u : State) : (l.foldl dumpRecord u).link.hold = u.link.hold ∧
      (l.foldl dumpRecord u).link.ret.countP Entry.isReply = u.link.ret.countP Entry.isReply ∧
      (l.foldl dumpRecord u).tables = u.tables := by
    induction l generalizing u with
    | nil => simp
    | cons n l ih => simp [ih]
  unfold costDump
  split
  · exact .of_link rfl rfl
  · obtain ⟨hhold, hreplies, htables⟩ := hrun (dumpNumbers _ _) s
    exact .of_tables hhold hreplies htables fun hl h =>
      foldl_notices (by simp) (fun hl h n => dumpRecord_notices hl h n) hl h _

/-- R6: every owner but that of ENGINE_RESET does no more to the return queue than raise notices. -/
theorem raises_ownerAnswer {k : ExpressKind} (hk : k ≠ .engineReset) (body : List Byte) (s : State) :
    Raises s (ownerAnswer k body s).state := by
  cases k with
  | engineReset => exact absurd rfl hk
  | statusQuery =>
    simp only [ownerAnswer, statusQuery]
    split <;> exact ⟨rfl, rfl, fun hl h => ⟨hl, h⟩⟩
  | faultDump =>
    simp only [ownerAnswer, faultDump]
    split <;> exact ⟨rfl, rfl, fun hl h => ⟨hl, h⟩⟩
  | counterDump =>
    simp only [ownerAnswer, counterDump]
    split
    · exact .of_link rfl rfl
    · dsimp only
      split
      · exact .of_link (by simp) (by simp)
      · exact .of_link rfl rfl
  | tableBegin =>
    refine .of_link (by simp [ownerAnswer, answer]) ?_
    simp only [ownerAnswer, answer, tableBegin]
    (repeat' split) <;> rfl
  | tablePart =>
    refine .of_link (by simp [ownerAnswer, answer]) ?_
    simp only [ownerAnswer, answer, tablePart]
    (repeat' split) <;> rfl
  | tableCommit => exact raises_tableCommit body s
  | costDump => exact raises_costDump body s
  | itemAbort | holdRelease | rollLoad | verifyClear | cutterClear =>
    exact .of_tables (by simp [ownerAnswer, answer]) (by simp [ownerAnswer, answer]) (by simp [ownerAnswer, answer])
      fun hl h => by simp [ownerAnswer, answer, hl, h]
  | halt | resume | sensorVerify | editionReset =>
    exact .of_link (by simp [ownerAnswer, answer]) (by simp [ownerAnswer, answer])

/-! ### The resets -/

/-- R17, R19: a link reset leaves no reply queued; an ENGINE_RESET STREAM keeps the hold. -/
theorem linkReset_queue (stream : Bool) (s : State) :
    (linkReset stream s).link.hold = (if stream then s.link.hold else []) ∧
    (linkReset stream s).link.ret.countP Entry.isReply = 0 ∧
    (LevelsFit s.tables.notice → LevelsFit (linkReset stream s).tables.notice ∧
      NoticesFit (linkReset stream s).link.ret) := by
  have htables : (linkReset stream s).tables.notice = s.tables.notice := by simp [linkReset, TableStore.freed]
  refine ⟨by simp [linkReset, Link.flushed], by simp [linkReset, Link.flushed], fun hl => ⟨by rwa [htables], ?_⟩⟩
  have hitem : NoticesFit (abortOpenItem ((s.onLink (Link.flushed stream)).onTables TableStore.freed)).link.ret :=
    abortOpenItem_notices hl noticesFit_nil
  simpa [linkReset] using hitem

/-- R117: the notices that a reset raises are within the bounds. -/
theorem resetNotices_fit {now : Time} {ns : List Entry} (hlen : ns.length ≤ 12) (hns : ∀ e ∈ ns, ResetNotice now e) :
    ns.countP Entry.isReply = 0 ∧ NoticesFit ns := by
  refine ⟨List.countP_eq_zero.2 fun e he => ?_, List.countP_le_length.trans (by omega), fun e he _ => ?_⟩
  · obtain ⟨hreply, -⟩ := hns e he
    simp [hreply]
  · obtain ⟨-, hlevel, -⟩ := hns e he
    omega

/-- R17, R18: ENGINE_RESET ALL keeps the hold and leaves only the notices of the seats found. -/
theorem resetAll_queue (s : State) :
    (resetAll s).link.hold = s.link.hold ∧ (resetAll s).link.ret.countP Entry.isReply = 0 ∧
    LevelsFit (resetAll s).tables.notice ∧ NoticesFit (resetAll s).link.ret := by
  obtain ⟨ns, slots, hlen, hns, -, heq⟩ := restartAll_eq s.now s
  have hret : (resetAll s).link.ret = ns := by simp [resetAll, heq]
  have htables : (resetAll s).tables.notice = none := by simp [resetAll, heq, restart, State.reset, TableStore.reset]
  obtain ⟨hreplies, hfit⟩ := resetNotices_fit hlen hns
  rw [hret, htables]
  exact ⟨by simp [resetAll], hreplies, by simp [LevelsFit], hfit⟩

/-! ### Acting on a record, at once or from the hold -/

/-- At most `n` replies and some notices are queued: the hold stays and the bounds of the notices are kept. -/
def Queues (n : Nat) (s t : State) : Prop :=
  t.link.hold = s.link.hold ∧
  t.link.ret.countP Entry.isReply ≤ s.link.ret.countP Entry.isReply + n ∧
  (LevelsFit s.tables.notice → NoticesFit s.link.ret → LevelsFit t.tables.notice ∧ NoticesFit t.link.ret)

theorem Raises.queues {s t : State} (h : Raises s t) (n : Nat) : Queues n s t := by
  obtain ⟨hhold, hreplies, hfit⟩ := h
  exact ⟨hhold, by omega, hfit⟩

theorem Queues.trans {m n k : Nat} {s t u : State} (h : Queues m s t) (hu : Queues n t u) (hk : m + n ≤ k) :
    Queues k s u := by
  obtain ⟨hhold, hreplies, hfit⟩ := h
  obtain ⟨hhold', hreplies', hfit'⟩ := hu
  exact ⟨hhold'.trans hhold, by omega, fun hl h => hfit' (hfit hl h).1 (hfit hl h).2⟩

theorem queues_reply (tag : Byte) (st : Status) (b : ReplyBody) (s : State) : Queues 1 s (reply tag st b s) := by
  refine ⟨rfl, ?_, fun hl h => ⟨hl, noticesFit_append_reply rfl h⟩⟩
  simp [reply, Entry.isReply]

theorem raises_captureIf (st : Status) (w : List Byte) (n : Nat) (s : State) : Raises s (captureIf st w n s) :=
  .of_tables (by simp) (by simp) (by simp) fun _ h => by simpa using h

theorem raises_capture (w : List Byte) (n : Nat) (m : Bool) (s : State) : Raises s (capture w n m s) :=
  .of_tables (by simp) (by simp) (by simp) fun _ h => by simpa using h

theorem raises_abortItem (u : Nat) (c : AbortCause) (s : State) : Raises s (abortItem u c s) :=
  .of_tables (by simp) (by simp) (by simp) fun hl h => by simp [hl, h]

theorem queues_ownerAnswer (k : ExpressKind) (body : List Byte) (s : State) :
    Queues 0 s (ownerAnswer k body s).state := by
  by_cases hk : k = .engineReset
  · subst hk
    simp only [ownerAnswer, engineReset]
    split
    · exact (Raises.of_link rfl rfl).queues 0
    · obtain ⟨hhold, hreplies, hl, hn⟩ := resetAll_queue s
      exact ⟨hhold, by simp [answer, hreplies], fun _ _ => ⟨hl, hn⟩⟩
    · obtain ⟨hhold, hreplies, hfit⟩ := linkReset_queue true s
      exact ⟨hhold, by simp [answer, hreplies], fun hl _ => hfit hl⟩
  · exact (raises_ownerAnswer hk body s).queues 0

theorem queues_actExpress (k : ExpressKind) (tag : Byte) (body : List Byte) (s : State) :
    Queues 1 s (actExpress k tag body s) :=
  (queues_ownerAnswer k body s).trans (n := 1)
    (((raises_captureIf _ _ _ _).queues 0).trans (queues_reply _ _ _ _) le_rfl) le_rfl

theorem queues_actHeld (e : HoldEntry) (s : State) : Queues 1 s (actHeld e s) := by
  cases e with
  | express k tag body => exact queues_actExpress k tag body s
  | reply tag st => exact queues_reply tag st .empty s

theorem raises_keepRunOut (s : State) : Raises s (keepRunOut s) := .of_link (by simp) (by simp)

/-! ### The bounds -/

theorem returnBounded_iff (s : State) : ReturnBounded s ↔
    replies s ≤ 4 ∧ s.link.hold.length ≤ 8 ∧ (s.link.hold ≠ [] → replies s = 4) ∧
      LevelsFit s.tables.notice ∧ NoticesFit s.link.ret := by
  unfold ReturnBounded LevelsFit NoticesFit notices
  tauto

/-- R12: raising notices keeps the bounds. -/
theorem Raises.bounded {s t : State} (h : Raises s t) (hs : ReturnBounded s) : ReturnBounded t := by
  obtain ⟨hhold, hreplies, hfit⟩ := h
  rw [returnBounded_iff] at hs ⊢
  obtain ⟨hr, hlen, hfull, hl, hn⟩ := hs
  unfold replies at *
  rw [hhold, hreplies]
  exact ⟨hr, hlen, hfull, hfit hl hn⟩

/-- R6, R12: where the link port acts at once, one more reply keeps the bounds. -/
theorem Queues.bounded {s t : State} (h : Queues 1 s t) (hs : ReturnBounded s) (hact : actsAtOnce s = true) :
    ReturnBounded t := by
  obtain ⟨hhold, hreplies, hfit⟩ := h
  obtain ⟨hroom, hempty⟩ := (actsAtOnce_iff s).1 hact
  rw [returnBounded_iff] at hs ⊢
  obtain ⟨-, -, -, hl, hn⟩ := hs
  rw [hhold, hempty]
  unfold replies at *
  exact ⟨by omega, by simp, by simp, hfit hl hn⟩

/-- R6: an entry joins a hold that has room, where the link port does not act at once. -/
theorem bounded_hold {s : State} (e : HoldEntry) (hs : ReturnBounded s) (hact : actsAtOnce s = false)
    (hroom : s.link.hold.length < 8) :
    ReturnBounded (s.onLink fun l => { l with hold := l.hold ++ [e] }) := by
  rw [returnBounded_iff] at hs ⊢
  obtain ⟨hr, -, hfull, hl, hn⟩ := hs
  have hfour : replies s = 4 := by
    by_cases hempty : s.link.hold = []
    · have hnot := (actsAtOnce_iff s).not.1 (by simp [hact])
      simp only [hempty, and_true] at hnot
      omega
    · exact hfull hempty
  refine ⟨hr, ?_, fun _ => hfour, hl, hn⟩
  simpa using hroom

theorem bounded_arrivalReply (tag : Byte) (st : Status) {s : State} (hs : ReturnBounded s)
    (hroom : s.link.hold.length < 8) : ReturnBounded (arrivalReply tag st s) := by
  unfold arrivalReply
  split
  · exact (queues_reply tag st .empty s).bounded hs ‹_›
  · exact bounded_hold _ hs (by simpa using ‹¬actsAtOnce s = true›) hroom

theorem bounded_express (k : ExpressKind) (tag : Byte) (body : List Byte) {s : State} (hs : ReturnBounded s) :
    ReturnBounded (express k tag body s) := by
  by_cases hfull : 8 ≤ s.link.hold.length
  · rwa [express_of_full hfull]
  · cases hact : actsAtOnce s with
    | true =>
      rw [express_of_acts hact]
      exact (queues_actExpress k tag body s).bounded hs hact
    | false =>
      rw [express_of_held (by omega) hact]
      exact bounded_hold _ hs hact (by omega)

/-- R6: once entries of the hold have been acted on, either none is left or 4 replies are queued. -/
theorem releaseHold_bounded {n : Nat} {s : State} (hr : replies s ≤ 4) (hlen : s.link.hold.length ≤ 8)
    (hn : s.link.hold.length ≤ n) (hl : LevelsFit s.tables.notice) (h : NoticesFit s.link.ret) :
    ReturnBounded (releaseHold n s) := by
  induction n generalizing s with
  | zero =>
    have hempty : s.link.hold = [] := List.length_eq_zero_iff.1 (by omega)
    exact (returnBounded_iff s).2 ⟨hr, hlen, by simp [hempty], hl, h⟩
  | succ n ih =>
    by_cases hfull : replies s = 4
    · rw [releaseHold_of_full _ hfull]
      exact (returnBounded_iff s).2 ⟨hr, hlen, fun _ => hfull, hl, h⟩
    · cases hhold : s.link.hold with
      | nil =>
        rw [releaseHold_of_empty _ hhold]
        exact (returnBounded_iff s).2 ⟨hr, hlen, by simp [hhold], hl, h⟩
      | cons e rest =>
        rw [releaseHold_succ hhold (by omega)]
        obtain ⟨hkept, hreplies, hfit⟩ := (queues_actHeld e (s.onLink fun l => { l with hold := rest })).trans
          ((raises_keepRunOut _).queues 0) (k := 1) (by omega)
        obtain ⟨hl', h'⟩ := hfit hl h
        rw [hhold, List.length_cons] at hlen hn
        refine ih ?_ ?_ ?_ hl' h'
        · simp only [replies, State.onLink_link] at hreplies hr hfull ⊢
          omega
        · rw [hkept]
          simp only [State.onLink_link]
          omega
        · rw [hkept]
          simp only [State.onLink_link]
          omega

/-! ### The return lane -/

/-- R12: the entry that is sent is the oldest of the highest level. -/
theorem exists_split_of_nextEntry {ret : List Entry} {e : Entry} (h : nextEntry ret = some e) :
    ∃ older younger, ret = older ++ e :: younger ∧ (∀ x ∈ older, x.level < e.level) ∧
      ∀ x ∈ younger, x.level ≤ e.level := by
  obtain ⟨heq, older, younger, hsplit, hnone⟩ := List.find?_eq_some_iff_append.1 h
  obtain ⟨-, hall⟩ := foldl_highest_spec ret 0
  rw [beq_iff_eq] at heq
  rw [← heq] at hall hnone
  refine ⟨older, younger, hsplit, fun x hx => ?_, fun x hx => hall x (by simp [hsplit, hx])⟩
  have hne := hnone x hx
  have hle := hall x (by simp [hsplit, hx])
  simp only [Bool.not_eq_true', beq_eq_false_iff_ne] at hne
  omega

theorem bounded_sendEntry {s : State} (hs : ReturnBounded s) : ReturnBounded (sendEntry s) := by
  cases hnext : nextEntry s.link.ret with
  | none => simpa [sendEntry, hnext] using hs
  | some e =>
    obtain ⟨older, younger, hret, ho, hy⟩ := exists_split_of_nextEntry hnext
    rw [sendEntry_of_split ho hret hy]
    rw [returnBounded_iff] at hs
    obtain ⟨hr, hlen, hfull, hl, hn⟩ := hs
    have hsub : (older ++ younger).Sublist s.link.ret := by
      rw [hret]
      exact (List.Sublist.refl older).append (List.sublist_cons_self e younger)
    split
    · exact releaseHold_bounded (hsub.countP_le.trans hr) hlen le_rfl hl (hn.sublist hsub)
    · next hreply =>
      have hsame : (older ++ younger).countP Entry.isReply = s.link.ret.countP Entry.isReply := by
        simp [hret, hreply]
      refine (returnBounded_iff _).2 ⟨hsame.trans_le hr, hlen, fun hne => hsame.trans (hfull hne), hl, hn.sublist hsub⟩

/-! ### Arrivals on the job link -/

theorem bounded_receive (r : Record) {s : State} (hs : ReturnBounded s) (hroom : s.link.hold.length < 8) :
    ReturnBounded (receive r s) := by
  unfold receive
  split
  · exact bounded_arrivalReply _ _ hs hroom
  · split
    · exact bounded_arrivalReply _ _ ((raises_capture _ _ _ s).bounded hs) (by simpa using hroom)
    · exact bounded_express _ _ _ hs
    · unfold enterIntake
      dsimp only
      split <;> exact hs

theorem bounded_receiveBandHeader (flags tag reserved : Byte) (length : BitVec 32) (fixed : List Byte) {s : State}
    (hs : ReturnBounded s) (hroom : s.link.hold.length < 8) :
    ReturnBounded (receiveBandHeader flags tag reserved length fixed s) := by
  unfold receiveBandHeader
  dsimp only
  split
  · exact bounded_arrivalReply _ _ ((raises_capture _ _ _ (s.onLink _)).bounded hs) (by simpa using hroom)
  · split <;> exact hs

theorem bounded_finishBand (planes : List Byte) (crc : BitVec 32) {s : State} (hs : ReturnBounded s)
    (hroom : s.link.hold.length < 8) : ReturnBounded (finishBand planes crc s) := by
  unfold finishBand
  split
  · dsimp only
    split
    · exact hs
    · have hreply := bounded_arrivalReply ‹Byte› .linkError (s := s.onLink fun l => { l with rx := .idle }) hs hroom
      unfold loseBand
      dsimp only
      split
      · exact (raises_abortItem _ _ _).bounded hreply
      · exact hreply
  · exact hs

theorem bounded_finishDropped (bytes : List Byte) {s : State} (hs : ReturnBounded s) :
    ReturnBounded (finishDropped bytes s) := by
  unfold finishDropped captureRest
  (repeat' split) <;> exact hs

/-! ### The takes of the intake -/

theorem bounded_take {k : StreamKind} {can : IntakeEntry → State → Bool} {act : IntakeEntry → State → State}
    (hact : ∀ e s, Queues 1 s (act e s)) {s : State} (hs : ReturnBounded s) : ReturnBounded (take k can act s) := by
  unfold take
  split
  · exact hs
  · split
    · next htake =>
      obtain ⟨-, hheld, -⟩ := htake
      exact (hact _ (s.onLink _)).bounded hs (show actsAtOnce s = true by simpa [intakeHeld] using hheld)
    · exact hs

theorem queues_answerTake {e : IntakeEntry} {r : State × Status} {s : State} (h : Raises s r.1) :
    Queues 1 s (answerTake e r) :=
  (h.queues 0).trans (n := 1) (((raises_captureIf _ _ _ _).queues 0).trans (queues_reply _ _ _ _) le_rfl) le_rfl

theorem raises_judgeTableLoad (b : List Byte) (s : State) : Raises s (judgeTableLoad b s).1 := by
  unfold judgeTableLoad
  split
  · exact .of_link rfl rfl
  · split
    · exact .of_link rfl rfl
    · exact raises_commitContent ‹_› s

theorem queues_refuseBand (e : IntakeEntry) (st : Status) (s : State) : Queues 1 s (refuseBand e st s) := by
  have hcapture : Raises s
      ((if st = .badRecord then capture (bandWire e.tag e.length e.body) e.length true s else s).onLink
      fun l => { l with rx := .dropping }) := by
    split
    · exact raises_capture _ _ _ s
    · exact .of_tables rfl rfl rfl fun _ h => h
  exact (hcapture.queues 0).trans (queues_reply _ _ _ _) le_rfl

theorem raises_acceptBand (e : IntakeEntry) (b : BandBody) (m : Vector MapEntry 12) (i : Item) (s : State) :
    Raises s (acceptBand e b m i s) :=
  .of_tables (by simp) (by simp) (by simp) fun hl h => by simp [hl, h]

theorem queues_judgeBandItem (e : IntakeEntry) (b : BandBody) (m : Vector MapEntry 12) (s : State) :
    Queues 1 s (judgeBandItem e b m s) := by
  unfold judgeBandItem
  split
  · exact queues_refuseBand _ _ _
  · next i _ =>
    have hextend : Raises s (extendReservation i.uid s) := .of_link (by simp) (by simp)
    (repeat' split)
    · exact queues_refuseBand _ _ _
    · exact queues_refuseBand _ _ _
    · exact (raises_acceptBand _ _ _ _ _).queues 1
    · exact (hextend.queues 0).trans ((raises_acceptBand _ _ _ _ _).queues 1) le_rfl
    · exact (queues_refuseBand _ _ _).trans ((raises_abortItem _ _ _).queues 0) le_rfl

theorem queues_judgeBand (e : IntakeEntry) (s : State) : Queues 1 s (judgeBand e s) := by
  unfold judgeBand
  (repeat' split)
  · exact queues_refuseBand _ _ _
  · exact queues_refuseBand _ _ _
  · exact queues_refuseBand _ _ _
  · exact queues_judgeBandItem _ _ _ _

theorem queues_judgeFeed (e : IntakeEntry) (s : State) : Queues 1 s (judgeFeed e s) := by
  have hrefuse (st : Status) : Queues 1 s (answerTake e (s, st)) := queues_answerTake (.of_link rfl rfl)
  unfold judgeFeed
  (repeat' split)
  · exact hrefuse _
  · exact hrefuse _
  · exact hrefuse _
  · exact (Raises.of_link (by simp) (by simp)).queues 1

/-! ### The commands -/

/-- A command keeps the bounds if the state it leaves does. -/
theorem bounded_of_leaves {c : Instr} {s t u : State} (h : exec c s = .next t) (hc : Leaves c s u)
    (hu : ReturnBounded u) : ReturnBounded t := by
  obtain rfl := Host.Outcome.next.inj (hc.symm.trans h)
  exact (raises_keepRunOut u).bounded hu

theorem bounded_restartAll (now : Time) (s : State) : ReturnBounded (restartAll now s) := by
  obtain ⟨ns, slots, hlen, hns, -, heq⟩ := restartAll_eq now s
  obtain ⟨hreplies, hfit⟩ := resetNotices_fit hlen hns
  refine (returnBounded_iff _).2 ?_
  rw [heq]
  exact ⟨(hreplies.trans_le (by omega) : ns.countP Entry.isReply ≤ 4), by simp [restart, State.reset, Link.reset],
    fun h => absurd rfl h, by rintro v ⟨⟩, hfit⟩

theorem bounded_linkReset {s : State} (hs : ReturnBounded s) : ReturnBounded (linkReset false s) := by
  obtain ⟨hhold, hreplies, hfit⟩ := linkReset_queue false s
  rw [returnBounded_iff] at hs ⊢
  obtain ⟨-, -, -, hl, -⟩ := hs
  rw [if_neg (by simp)] at hhold
  rw [replies, hhold, hreplies]
  exact ⟨by omega, by simp, by simp, hfit hl⟩

/-- The commands of the blocks behind the link port, which only raise notices. -/
def raisesOnly : Instr → Bool
  | .powerOn | .linkReset | .recordArrival _ | .bandHeaderArrival _ _ _ _ _ | .bandLastByte _ _ | .returnEntrySend
  | .droppedBandLastByte _ | .jobOpen | .jobClose | .itemOpen | .itemClose | .band | .feed | .clean | .tableLoad
  | .statusQuery _ _ | .faultDump _ _ | .engineResetAll _ _ | .engineResetStream _ _ | .halt _ _ | .resume _ _
  | .itemAbort _ _ | .holdReleaseContinue _ _ _ | .holdReleaseAbort _ _ _ | .tableBegin _ _ | .tablePart _ _
  | .tableCommit _ _ | .rollLoad _ _ | .sensorVerifyWhite _ _ | .sensorVerifyDark _ _ | .sensorVerifyLamp _ _
  | .sensorVerifyFull _ _ | .verifyClear _ _ | .editionReset _ _ | .cutterClear _ _ | .costDump _ _
  | .counterDumpRead _ _ | .counterDumpClear _ _ => false
  | _ => true

theorem exec_raises {c : Instr} (hc : raisesOnly c = true) (s : State) : ∃ t, Leaves c s t ∧ Raises s t := by
  cases c
  case powerOn | linkReset | recordArrival | bandHeaderArrival | bandLastByte | returnEntrySend | droppedBandLastByte |
      jobOpen | jobClose | itemOpen | itemClose | band | feed | clean | tableLoad | statusQuery | faultDump |
      engineResetAll | engineResetStream | halt | resume | itemAbort | holdReleaseContinue | holdReleaseAbort |
      tableBegin | tablePart | tableCommit | rollLoad | sensorVerifyWhite | sensorVerifyDark | sensorVerifyLamp |
      sensorVerifyFull | verifyClear | editionReset | cutterClear | costDump | counterDumpRead | counterDumpClear =>
    exact absurd hc (by simp [raisesOnly])
  case lockExpired =>
    refine ⟨_, rfl, by simp, by simp, fun hl h => ⟨?_, by simp [hl, h]⟩⟩
    unfold expireLock
    (repeat' split) <;> simpa [TableStore.freed] using hl
  case queueEntry | abortFeedEntry | offer | encoderEdge | rollEndAssert | runOutWaitStart | runOutFeed |
      detectLineAssert | detectLineRelease | seatingDebounce | removal | levelSenseLineChange | sensedLevelChange |
      tagReadAnswer | tagReadTimeout | kindCheck | tagWriteConfirm | tagWriteTimeout =>
    exact ⟨_, rfl, .of_tables (by simp) (by simp) (by simp) fun hl h => by simp [hl, h]⟩
  case rollEndRelease => exact ⟨releaseRollEnd s.clearOut, rfl, .of_link rfl rfl⟩
  all_goals
    refine ⟨_, rfl, ?_⟩
    dsimp only [onFlight]
    (repeat' split) <;> exact .of_tables (by simp) (by simp) (by simp) fun hl h => by simp [hl, h]

/-- R9: the takes of the intake. -/
theorem bounded_exec_take {c : Instr} {s t : State} (hs : ReturnBounded s.clearOut)
    (hc : c ∈ [.jobOpen, .jobClose, .itemOpen, .itemClose, .band, .feed, .clean, .tableLoad])
    (h : exec c s = .next t) : ReturnBounded t := by
  simp only [List.mem_cons, List.not_mem_nil, or_false] at hc
  obtain rfl | rfl | rfl | rfl | rfl | rfl | rfl | rfl := hc
  · exact bounded_of_leaves h rfl (bounded_take (fun e u => queues_answerTake (.of_link (by simp) (by simp))) hs)
  · exact bounded_of_leaves h rfl (bounded_take (fun e u => queues_answerTake (.of_link (by simp) (by simp))) hs)
  · exact bounded_of_leaves h rfl (bounded_take (fun e u => queues_answerTake (.of_link (by simp) (by simp))) hs)
  · exact bounded_of_leaves h rfl (bounded_take (fun e u => queues_answerTake
      (.of_tables (by simp) (by simp) (by simp) fun hl h => by simp [hl, h])) hs)
  · exact bounded_of_leaves h rfl (bounded_take queues_judgeBand hs)
  · exact bounded_of_leaves h rfl (bounded_take queues_judgeFeed hs)
  · exact bounded_of_leaves h rfl (bounded_take (fun e u => queues_answerTake (.of_link (by simp) (by simp))) hs)
  · exact bounded_of_leaves h rfl (bounded_take (fun e u => queues_answerTake (raises_judgeTableLoad e.body u)) hs)

/-- R3 to R8, R12, R18, R19: the commands of the link port itself. -/
theorem bounded_exec_link {c : Instr} {s t : State} (hs : ReturnBounded s.clearOut)
    (hc : (∃ r, c = .recordArrival r) ∨ (∃ a b d e f, c = .bandHeaderArrival a b d e f) ∨
        (∃ p d, c = .bandLastByte p d) ∨
      (∃ r, c = .droppedBandLastByte r) ∨ c = .returnEntrySend ∨ c = .powerOn ∨ c = .linkReset)
    (h : exec c s = .next t) : ReturnBounded t := by
  have hroom (hfull : ¬deliveryWithheld s.clearOut = true) : s.clearOut.link.hold.length < 8 := by
    simpa [deliveryWithheld, holdPlaces] using hfull
  obtain ⟨r, rfl⟩ | ⟨a, b, d, e, f, rfl⟩ | ⟨p, d, rfl⟩ | ⟨r, rfl⟩ | rfl | rfl | rfl := hc
  · refine bounded_of_leaves (u := if withheld r s.clearOut then s.clearOut else receive r s.clearOut) h rfl ?_
    split
    · exact hs
    · next hfree =>
      simp only [withheld, Bool.or_eq_true, not_or] at hfree
      exact bounded_receive r hs (hroom hfree.1)
  · refine bounded_of_leaves (u := if deliveryWithheld s.clearOut || streamBlocked s.clearOut then s.clearOut
      else receiveBandHeader a b d e f s.clearOut) h rfl ?_
    split
    · exact hs
    · next hfree =>
      simp only [Bool.or_eq_true, not_or] at hfree
      exact bounded_receiveBandHeader _ _ _ _ _ hs (hroom hfree.1)
  · refine bounded_of_leaves
      (u := if deliveryWithheld s.clearOut then s.clearOut else finishBand p d s.clearOut) h rfl ?_
    split
    · exact hs
    · exact bounded_finishBand _ _ hs (hroom ‹_›)
  · refine bounded_of_leaves
      (u := if deliveryWithheld s.clearOut then s.clearOut else finishDropped r s.clearOut) h rfl ?_
    split
    · exact hs
    · exact bounded_finishDropped _ hs
  · exact bounded_of_leaves h rfl (bounded_sendEntry hs)
  · exact bounded_of_leaves h rfl (bounded_restartAll 0#32 s.clearOut)
  · exact bounded_of_leaves h rfl (bounded_linkReset hs)

/-- R6, R12: every command keeps the bounds. -/
theorem bounded_exec (c : Instr) {s t : State} (hs : ReturnBounded s) (h : exec c s = .next t) : ReturnBounded t := by
  have hclear : ReturnBounded s.clearOut := hs
  by_cases hc : raisesOnly c = true
  · obtain ⟨u, hleaves, hraises⟩ := exec_raises hc s
    exact bounded_of_leaves h hleaves (hraises.bounded hs)
  · cases c
    case powerOn | linkReset | returnEntrySend | recordArrival | bandHeaderArrival | bandLastByte |
        droppedBandLastByte =>
      exact bounded_exec_link hclear (by simp) h
    case jobOpen | jobClose | itemOpen | itemClose | band | feed | clean | tableLoad =>
      exact bounded_exec_take hclear (by simp) h
    case statusQuery | faultDump | engineResetAll | engineResetStream | halt | resume | itemAbort |
        holdReleaseContinue |
        holdReleaseAbort | tableBegin | tablePart | tableCommit | rollLoad | sensorVerifyWhite | sensorVerifyDark |
        sensorVerifyLamp | sensorVerifyFull | verifyClear | editionReset | cutterClear | costDump | counterDumpRead |
        counterDumpClear =>
      exact bounded_of_leaves h rfl (bounded_express _ _ _ hclear)
    all_goals exact absurd rfl hc

/-- Settles O7: a step is a command, which keeps the bounds, or 1 ms, which leaves the link port. -/
theorem returnQueueStaysBounded : Obligations.ReturnQueueStaysBounded := by
  intro s t hs h
  unfold step at h
  split at h
  · obtain rfl := Host.Outcome.next.inj h
    exact hs
  · next c rest _ =>
    have hrest : ReturnBounded { s with pending := rest } := hs
    exact bounded_exec c hrest h

end Bounds
end Sys2Proof.Machine

/-! ## The link port's own express records, and which row an express record is (R5, R6, R15, R16) -/

namespace Sys2Proof.Machine

/-- R28, R16: the sections of the status body are those present. -/
theorem mem_present_iff (s : State) (sec : Section) :
    sec ∈ allSections.filter (sectionPresent s) ↔ sectionPresent s sec = true := by
  have hall : sec ∈ allSections := by cases sec <;> simp [allSections]
  simp [List.mem_filter, hall]

/-- Settles O19: STATUS_QUERY acted on at once, with its status body. -/
theorem statusQueried : Obligations.StatusQueried := by
  intro tag body s hact
  refine ⟨fun hbody => refuses_of_acts rfl hact (by simp [ownerAnswer, statusQuery, hbody]), statusBody s.clearOut,
    replies_of_acts rfl hact (by simp [ownerAnswer, statusQuery]), ?_⟩
  refine ⟨rfl, rfl, rfl, rfl, rfl, rfl, rfl, rfl, fun c => ?_, rfl, rfl, mem_present_iff s, rfl, rfl, rfl, rfl⟩
  simp [statusBody, slot, account, Account.available, subTankFloor]

/-- R14, R15: a FAULT_DUMP with a body is refused, and is itself offered to an armed capture. -/
theorem capture_faultDump (tag first : Byte) (rest : List Byte) (s : State) :
    capture (goodWire 0x4F#8 1#8 tag (first :: rest)) (first :: rest).length false s.clearOut =
      if s.link.capture.armed then
        s.clearOut.onLink fun l => { l with capture :=
          { armed := false, bytes := (goodWire 0x4F#8 1#8 tag (first :: rest)).take 64,
            length := if rest.length + 13 ≤ 254 then rest.length + 13 else 255, filling := false } }
      else s.clearOut := by
  simp only [capture, captureBytes, List.length_cons, State.clearOut_link]

/-- Settles O20: FAULT_DUMP acted on at once, with what was captured. -/
theorem faultDumped : Obligations.FaultDumped := by
  intro tag s hact
  have hdump : Replies (.faultDump tag []) s tag .ok
      (.capture (BitVec.ofNat 8 s.link.capture.length :: s.link.capture.bytes))
      (s.clearOut.onLink fun l => { l with capture := Capture.fresh }) :=
    replies_of_acts rfl hact (by simp [ownerAnswer, faultDump])
  refine ⟨hdump, fun hfresh => by simpa [hfresh, Capture.fresh] using hdump, fun first rest => ?_⟩
  have hrefuse : Refuses (.faultDump tag (first :: rest)) s .faultDump tag (first :: rest) :=
    refuses_of_acts rfl hact (by simp [ownerAnswer, faultDump])
  rw [← capture_faultDump]
  exact hrefuse

/-- Settles O3: the power-on values, field by field. -/
theorem resetValues : Obligations.ResetValues := by
  refine ⟨rfl, rfl, rfl, ⟨rfl, rfl⟩, fun sec => ?_, ⟨rfl, rfl⟩, ⟨rfl, rfl⟩, ⟨rfl, rfl⟩, ⟨rfl, rfl⟩, rfl, ⟨rfl, rfl⟩,
    ⟨rfl, rfl⟩, ⟨rfl, rfl⟩, ⟨rfl, rfl⟩⟩
  cases sec <;> rfl

/-! ### RETURN_ENTRY_SEND -/

section Sent

variable {older younger : List Entry} {e : Entry} {s : State}

/-- R12: the state in which the hold is looked at once an entry of the return queue has been sent. -/
def entrySent (ret : List Entry) (hold : List HoldEntry) (e : Entry) (s : State) : State :=
  (s.clearOut.onLink fun l => { l with ret := ret, hold := hold }).send (.upstream e)

/-- R6: the departure of one of 4 replies leaves 3. -/
theorem replies_entrySent (hs : s.link.ret = older ++ e :: younger) (he : e.isReply = true) (h4 : replies s = 4)
    (hold : List HoldEntry) : replies (entrySent (older ++ younger) hold e s) = 3 := by
  have hcount : (older ++ e :: younger).countP Entry.isReply = 4 := hs ▸ h4
  simp only [List.countP_append, List.countP_cons, he, if_true] at hcount
  simp only [replies, entrySent, State.send_link, State.onLink_link, List.countP_append]
  omega

variable (hs : s.link.ret = older ++ e :: younger) (ho : ∀ x ∈ older, x.level < e.level)
  (hy : ∀ x ∈ younger, x.level ≤ e.level)

include hs ho hy

/-- R12: a notice, or a reply with nothing held, is sent and that is all. -/
theorem leaves_entrySent (h : e.isReply = false ∨ s.link.hold = []) :
    Leaves .returnEntrySend s
      ((s.clearOut.onLink fun l => { l with ret := older ++ younger }).send (.upstream e)) := by
  refine command_eq ((sendEntry_of_split ho (s := s.clearOut) hs hy).trans ?_)
  obtain h | h := h
  · simp [h]
  · split
    · exact releaseHold_of_empty _ (by simpa using h)
    · rfl

/-- R6: a departing reply of 4 lets the oldest entry of the hold be acted on, and the rest be looked at. -/
theorem exec_returnEntrySend_release {x : HoldEntry} {rest : List HoldEntry} (he : e.isReply = true)
    (h4 : replies s = 4) (hhold : s.link.hold = x :: rest) :
    exec .returnEntrySend s = .next (keepRunOut (releaseHold rest.length
      (keepRunOut (actHeld x (entrySent (older ++ younger) rest e s))))) := by
  refine command_eq ((sendEntry_of_split ho (s := s.clearOut) hs hy).trans ?_)
  rw [if_pos he, State.clearOut_link, hhold, List.length_cons]
  have hroom := replies_entrySent hs he h4 (x :: rest)
  have hstate : ((s.clearOut.onLink fun l => { l with ret := older ++ younger }).send (.upstream e)) =
      entrySent (older ++ younger) (x :: rest) e s := by
    simp only [entrySent, State.onLink, State.clearOut, ← hhold]
  rw [hstate, releaseHold_succ (e := x) (rest := rest) rfl (by omega)]
  rfl

/-- R6: where the entry acted on brings the replies to 4, or nothing else is held, the rest of the hold stays. -/
theorem leaves_release {x : HoldEntry} {rest : List HoldEntry} (he : e.isReply = true) (h4 : replies s = 4)
    (hhold : s.link.hold = x :: rest)
    (hstop : replies (actHeld x (entrySent (older ++ younger) rest e s)) = 4 ∨
      (actHeld x (entrySent (older ++ younger) rest e s)).link.hold = []) :
    Leaves .returnEntrySend s (actHeld x (entrySent (older ++ younger) rest e s)) := by
  refine (exec_returnEntrySend_release hs ho hy he h4 hhold).trans ?_
  have hstays : releaseHold rest.length (keepRunOut (actHeld x (entrySent (older ++ younger) rest e s))) =
      keepRunOut (actHeld x (entrySent (older ++ younger) rest e s)) := by
    obtain hstop | hstop := hstop
    · exact releaseHold_of_full _ (by simpa [replies] using hstop)
    · exact releaseHold_of_empty _ (by simpa using hstop)
  rw [hstays, keepRunOut_keepRunOut]

end Sent

/-- R6: acting on an express record other than ENGINE_RESET queues one reply. -/
theorem replies_actExpress {k : ExpressKind} (hk : k ≠ .engineReset) (tag : Byte) (body : List Byte) (s : State) :
    replies (actExpress k tag body s) = replies s + 1 := by
  obtain ⟨-, hreplies, -⟩ := raises_ownerAnswer hk body s
  rw [actExpress, replies_reply]
  simpa [replies] using hreplies

/-- R6: acting on an express record leaves the hold. -/
theorem hold_actExpress (k : ExpressKind) (tag : Byte) (body : List Byte) (s : State) :
    (actExpress k tag body s).link.hold = s.link.hold := (queues_actExpress k tag body s).1

/-- Settles O16: the entry of the highest rank is sent, and a departing reply of 4 frees one held entry. -/
theorem returnEntrySent : Obligations.ReturnEntrySent := by
  intro older e younger s hs ho hy
  refine ⟨leaves_entrySent hs ho hy, fun tag status rest he h4 hhold => ?_, fun k tag body rest he h4 hhold hk => ?_⟩
  · have hthree := replies_entrySent hs he h4 rest
    exact leaves_release hs ho hy he h4 hhold (.inl (by rw [actHeld, replies_reply, hthree]))
  · have hthree := replies_entrySent hs he h4 rest
    refine leaves_release hs ho hy he h4 hhold ?_
    obtain hk | rfl := hk
    · exact .inl (by rw [actHeld, replies_actExpress hk, hthree])
    · exact .inr (hold_actExpress k tag body _)

end Sys2Proof.Machine

/-! ## The starting points (R17, R18, R19) -/

namespace Sys2Proof.Machine

theorem keepRunOut_of_none {s : State} (h : s.media.runOut = none) : keepRunOut s = s :=
  keepRunOut_of_ready s (by simp [h])

theorem onLink_hold_nil {s : State} (h : s.link.hold = []) : (s.onLink fun l => { l with hold := [] }) = s := by
  simp only [State.onLink, ← h]

/-- R17: ENGINE_RESET with a body that goes on after the action byte is refused. -/
theorem ownerAnswer_engineReset_of_long (code : Byte) {rest : List Byte} (h : rest ≠ []) (s : State) :
    ownerAnswer .engineReset (code :: rest) s = answer (s, .badRecord) := by
  simp [ownerAnswer, engineReset, engineResetBody, h]

theorem ownerAnswer_engineReset_all (s : State) :
    ownerAnswer .engineReset [2#8] s = answer (resetAll s, .ok) := rfl

theorem ownerAnswer_engineReset_stream (s : State) :
    ownerAnswer .engineReset [1#8] s = answer (linkReset true s, .ok) := rfl

/-- R10: the arrival replies of a hold as entries of the return queue. -/
def replyEntries (now : Time) (held : List (Byte × Status)) : List Entry :=
  held.map fun h => { level := 8, tag := h.1, time := now, payload := .reply h.2 .empty }

theorem queueReplies_eq (held : List (Byte × Status)) (s : State) :
    queueReplies held s = s.onLink fun l => { l with ret := l.ret ++ replyEntries s.now held } := by
  unfold queueReplies
  induction held generalizing s with
  | nil => simp [replyEntries, State.onLink]
  | cons h held ih =>
    rw [List.foldl_cons, ih]
    simp [replyEntries, reply, State.onLink]

/-- R129: no run-out wait runs at power-on. -/
theorem AtPowerOn.runOut {now : Time} {s t : State} (h : AtPowerOn now s t) : t.media.runOut = none := by
  obtain ⟨-, -, -, -, -, -, -, -, -, -, -, -, hmedia, -⟩ := h
  rw [hmedia]
  rfl

/-- The return queue, the reception and what is sent are apart from the power-on values. -/
theorem AtPowerOn.of_reset {now : Time} {s t : State} (h : AtPowerOn now s t) (hold : List HoldEntry) (rx : Rx)
    (o : Output) :
    AtPowerOn now s (((t.onLink fun l => { l with hold := hold, rx := rx }).send o).onLink fun l =>
      { l with hold := [] }) := by
  obtain ⟨hnow, hpending, hintake, -, hrest⟩ := h
  exact ⟨hnow, hpending, hintake, rfl, hrest⟩

/-- R17, R18, R78: what ENGINE_RESET ALL leaves, but for the hold. -/
theorem resetAll_atPowerOn (s : State) :
    AtPowerOn s.now s ((resetAll s).onLink fun l => { l with hold := [] }) ∧
      (resetAll s).out = s.out ++ [.headReset] ∧ (resetAll s).link.hold = s.link.hold ∧
      (resetAll s).link.rx = (if s.link.rx = .idle then .idle else .dropping) ∧
      ∀ e ∈ (resetAll s).link.ret, ResetNotice s.now e := by
  obtain ⟨hpower, hout, -, hret⟩ := restartAll_atPowerOn s.now s
  refine ⟨hpower.of_reset _ _ _, by simp [resetAll, hout], by simp [resetAll], ?_, by simpa [resetAll] using hret⟩
  simp only [resetAll, State.send_link, State.onLink_link]
  cases s.link.rx <;> simp [Rx.dropped]

/-- R17: from the hold, an ENGINE_RESET that leaves no reply queued lets the arrival replies behind it follow its
own. -/
theorem exec_returnEntrySend_reset {older younger : List Entry} {e : Entry} {s t : State} {tag code : Byte}
    {held : List (Byte × Status)} (hs : s.link.ret = older ++ e :: younger) (ho : ∀ x ∈ older, x.level < e.level)
    (hy : ∀ x ∈ younger, x.level ≤ e.level) (he : e.isReply = true) (h4 : replies s = 4) (hheld : held.length ≤ 3)
    (hhold : s.link.hold = .express .engineReset tag [code] :: held.map fun h => .reply h.1 h.2)
    (hanswer : ownerAnswer .engineReset [code] (entrySent (older ++ younger) (held.map fun h => .reply h.1 h.2) e s) =
      answer (t, .ok))
    (hempty : t.link.ret.countP Entry.isReply = 0)
    (hkept : t.link.hold = held.map fun h => .reply h.1 h.2) :
    Leaves .returnEntrySend s (queueReplies ((tag, .ok) :: held) (t.onLink fun l => { l with hold := [] })) := by
  refine (exec_returnEntrySend_release hs ho hy he h4 hhold).trans ?_
  rw [actHeld, actExpress_of_ok (t := t) hanswer, releaseHold_replies (s := reply tag .ok .empty t) (held := held) hkept
    (by rw [replies_reply, replies, hempty]; omega) (by simp), keepRunOut_keepRunOut]
  rfl

/-- Settles O17: POWER_ON, and ENGINE_RESET ALL at once and from the hold. -/
theorem powerOnValues : Obligations.PowerOnValues := by
  refine ⟨fun s => ?_, fun tag s hact => ?_, fun tag rest s hact hrest => ?_, ?_⟩
  · obtain ⟨hpower, hout, hrx, hret⟩ := restartAll_atPowerOn 0#32 s.clearOut
    have hleaves : Leaves .powerOn s (restartAll 0#32 s.clearOut) := rfl
    exact ⟨restartAll 0#32 s.clearOut, hleaves.trans (congrArg Host.Outcome.next
        (keepRunOut_of_none hpower.runOut)), hpower, hout, hrx, hret⟩
  · obtain ⟨hpower, hout, hkept, hrx, hret⟩ := resetAll_atPowerOn s.clearOut
    obtain ⟨-, hhold⟩ := (actsAtOnce_iff s).1 hact
    rw [onLink_hold_nil (hkept.trans hhold)] at hpower
    have hleaves : Replies (.engineResetAll tag []) s tag .ok .empty (resetAll s.clearOut) :=
      replies_of_acts rfl hact (ownerAnswer_engineReset_all _)
    obtain ⟨hnow, -⟩ := id hpower
    generalize resetAll s.clearOut = t at hpower hout hrx hret hleaves hnow
    refine ⟨reply tag .ok .empty t, t.link.ret, hleaves.trans (congrArg Host.Outcome.next
        (keepRunOut_of_none hpower.runOut)),
      hpower, hout, hrx, hret, ?_⟩
    simp [reply, hnow]
  · exact refuses_of_acts rfl hact (ownerAnswer_engineReset_of_long _ hrest _)
  · intro older e younger tag held s hs ho hy he h4 hheld hhold
    obtain ⟨hpower, hout, hkept, hrx, hret⟩ :=
      resetAll_atPowerOn (entrySent (older ++ younger) (held.map fun h => .reply h.1 h.2) e s)
    obtain ⟨hnow, -⟩ := id hpower
    have hleaves (hempty) := exec_returnEntrySend_reset hs ho hy he h4 hheld hhold (ownerAnswer_engineReset_all _)
      hempty hkept
    generalize resetAll (entrySent (older ++ younger) (held.map fun h => .reply h.1 h.2) e s) = t
      at hpower hout hkept hrx hret hnow hleaves
    have hempty : t.link.ret.countP Entry.isReply = 0 := by
      refine List.countP_eq_zero.2 fun x hx => ?_
      obtain ⟨hreply, -⟩ := hret x hx
      simp [hreply]
    have hleaves := hleaves hempty
    rw [queueReplies_eq] at hleaves
    refine ⟨_, t.link.ret, hleaves.trans (congrArg Host.Outcome.next (keepRunOut_of_none hpower.runOut)), hpower,
        hout, hrx, hret, ?_⟩
    have hnow : t.now = s.now := hnow
    simp [replyEntries, hnow]

end Sys2Proof.Machine

/-! ## Record headers, and the records that arrive (R3 to R8) -/

namespace Sys2Proof.Machine

/-! ### Which headers are good (R4, R5, 1.8) -/

theorem kindOf_stream_iff (b : Byte) (k : StreamKind) : kindOf b = some (.stream k) ↔ b = k.code := by
  constructor
  · intro h
    unfold kindOf at h
    split at h
    · next hfind =>
      obtain rfl := Kind.stream.inj (Option.some.inj h)
      have hcode := List.find?_some hfind
      exact (beq_iff_eq.1 hcode).symm
    · simp at h
  · rintro rfl
    cases k <;> rfl

theorem kindOf_express_iff (b : Byte) (k : ExpressKind) : kindOf b = some (.express k) ↔ b = k.code := by
  constructor
  · intro h
    unfold kindOf at h
    split at h
    · simp at h
    · obtain ⟨k', hfind, hk⟩ := Option.map_eq_some_iff.1 h
      obtain rfl := Kind.express.inj hk
      have hcode := List.find?_some hfind
      exact (beq_iff_eq.1 hcode).symm
  · rintro rfl
    cases k <;> rfl

/-- R4, check 2: the flags byte of a kind's class. -/
def Kind.flag : Kind → Byte
  | .stream _ => 0#8
  | .express _ => 1#8

/-- R4, checks 1 to 4. -/
theorem checkHeader_iff (kind flags reserved : Byte) (length : Nat) (k : Kind) :
    checkHeader kind flags reserved length = some k ↔
      kindOf kind = some k ∧ flags = k.flag ∧ reserved = 0#8 ∧ lengthInBound k length = true := by
  unfold checkHeader
  cases hkind : kindOf kind with
  | none => simp
  | some k' =>
    simp only [Option.ite_none_right_eq_some, Option.some.injEq]
    constructor
    · rintro ⟨⟨hflags, hreserved, hlength⟩, rfl⟩
      exact ⟨rfl, hflags, hreserved, hlength⟩
    · rintro ⟨rfl, hflags, hreserved, hlength⟩
      exact ⟨⟨hflags, hreserved, hlength⟩, rfl⟩

/-- R4: all five checks. -/
theorem headerKind_iff (r : Record) (k : Kind) :
    headerKind r = some k ↔
      kindOf r.kind = some k ∧ r.flags = k.flag ∧ r.reserved = 0#8 ∧ lengthInBound k r.length.toNat = true ∧
        r.length.toNat = r.body.length := by
  unfold headerKind
  split
  · next k' hcheck =>
    obtain ⟨hkind, hflags, hreserved, hlength⟩ := (checkHeader_iff _ _ _ _ _).1 hcheck
    simp only [Option.ite_none_right_eq_some, Option.some.injEq, hkind]
    constructor
    · rintro ⟨hbody, rfl⟩
      exact ⟨rfl, hflags, hreserved, hlength, hbody⟩
    · rintro ⟨rfl, -, -, -, hbody⟩
      exact ⟨hbody, rfl⟩
  · next hcheck =>
    simp only [reduceCtorEq, false_iff]
    rintro ⟨hkind, hflags, hreserved, hlength, -⟩
    simp [(checkHeader_iff _ _ _ _ _).2 ⟨hkind, hflags, hreserved, hlength⟩] at hcheck

theorem lengthInBound_stream_iff (k : StreamKind) (n : Nat) : lengthInBound (.stream k) n = true ↔
    if k = .band then 16 ≤ n ∧ n ≤ 3686416 else n ≤ 65528 := by
  cases k <;> simp only [lengthInBound, Bool.and_eq_true, decide_eq_true_eq, reduceCtorEq, if_true, if_false] <;> rfl

theorem lengthInBound_express_iff (k : ExpressKind) (n : Nat) : lengthInBound (.express k) n = true ↔ n ≤ 4096 := by
  simp only [lengthInBound, decide_eq_true_eq]
  rfl

theorem headerKind_stream_iff (r : Record) (k : StreamKind) :
    headerKind r = some (.stream k) ↔ r.kind = k.code ∧ r.flags = 0#8 ∧ r.reserved = 0#8 ∧
      (if k = .band then 16 ≤ r.length.toNat ∧ r.length.toNat ≤ 3686416 else r.length.toNat ≤ 65528) ∧
      r.length.toNat = r.body.length := by
  rw [headerKind_iff, kindOf_stream_iff, lengthInBound_stream_iff]
  rfl

theorem headerKind_express_iff (r : Record) (k : ExpressKind) :
    headerKind r = some (.express k) ↔ r.kind = k.code ∧ r.flags = 1#8 ∧ r.reserved = 0#8 ∧
      r.length.toNat ≤ 4096 ∧ r.length.toNat = r.body.length := by
  rw [headerKind_iff, kindOf_express_iff, lengthInBound_express_iff]
  rfl

/-- Settles O11: the good headers, by kind, and the fields of a body. -/
theorem headerChecks : Obligations.HeaderChecks := by
  refine ⟨fun b k => ⟨rfl, rfl, ?_⟩, fun k => ?_, fun k => ?_, fun r => ⟨headerKind_stream_iff r,
      headerKind_express_iff r⟩⟩
  · simp only [u32, u16, u8]
    ring
  · cases k <;> simp [StreamKind.code]
  · cases k <;> simp [ExpressKind.code]

/-! ### A whole record that arrives -/

theorem crcGood_iff (r : Record) : crcGood r = true ↔ crc32 (recordHead r) = r.crc := beq_iff_eq

theorem streamKind_iff (b : Byte) : streamKind b = true ↔ ∃ k : StreamKind, b = k.code := by
  simp only [streamKind, List.any_eq_true, beq_iff_eq]
  constructor
  · rintro ⟨k, -, hk⟩
    exact ⟨k, hk.symm⟩
  · rintro ⟨k, rfl⟩
    exact ⟨k, by cases k <;> simp [streamKinds], rfl⟩

/-- R5: no express kind has the code of a stream kind. -/
theorem ExpressKind.code_ne_stream (k : ExpressKind) (j : StreamKind) : k.code ≠ j.code := by
  cases k <;> cases j <;> decide

theorem deliveryWithheld_iff (s : State) : deliveryWithheld s = true ↔ 8 ≤ s.link.hold.length := by
  simp only [deliveryWithheld, decide_eq_true_eq]
  rfl

/-- R3 to R8: when a whole record is withheld. -/
theorem withheld_iff (r : Record) (s : State) : withheld r s = true ↔
    8 ≤ s.link.hold.length ∨ crc32 (recordHead r) = r.crc ∧
      (r.kind = 0x14#8 ∨ s.link.rx ≠ .idle ∧ ∃ k : StreamKind, r.kind = k.code) := by
  simp only [withheld, Bool.or_eq_true, Bool.and_eq_true, deliveryWithheld_iff, crcGood_iff, streamKind_iff,
    streamBlocked, bne_iff_ne, beq_iff_eq]
  rfl

/-- A record that is withheld changes nothing. -/
theorem waits_of_withheld {r : Record} {s : State} (h : withheld r s = true) : Waits (.recordArrival r) s :=
  command_eq (f := fun s => if withheld r s then s else receive r s) (if_pos h)

/-- A record that is not withheld is received. -/
theorem leaves_of_not_withheld {r : Record} {s : State} (h : ¬withheld r s = true) :
    Leaves (.recordArrival r) s (receive r s.clearOut) :=
  command_eq (f := fun s => if withheld r s then s else receive r s) (if_neg h)

/-- R6: an arrival reply is queued at once, or joins the hold. -/
theorem arrivalReply_eq (tag : Byte) (st : Status) (s : State) :
    arrivalReply tag st s =
      if replies s < 4 ∧ s.link.hold = [] then reply tag st .empty s
      else s.onLink fun l => { l with hold := l.hold ++ [.reply tag st] } := by
  simp only [arrivalReply, actsAtOnce_iff]

/-- R3: a record whose CRC fails is answered with its tag alone. -/
theorem receive_of_bad_crc {r : Record} {s : State} (h : crc32 (recordHead r) ≠ r.crc) :
    receive r s = arrivalReply r.tag .linkError s := by
  have hbad : crcGood r = false := by simpa [← crcGood_iff] using h
  simp [receive, hbad]

/-- R4, R14: a record of good CRC that fails a check of its header. -/
theorem receive_of_bad_header {r : Record} {s : State} (hcrc : crc32 (recordHead r) = r.crc) (h : headerKind r = none) :
    receive r s = arrivalReply r.tag .badRecord (capture (recordWire r) r.length.toNat false s) := by
  simp [receive, (crcGood_iff r).2 hcrc, h]

theorem receive_express {r : Record} {s : State} {k : ExpressKind} (hcrc : crc32 (recordHead r) = r.crc)
    (h : headerKind r = some (.express k)) : receive r s = express k r.tag r.body s := by
  simp [receive, (crcGood_iff r).2 hcrc, h]

theorem receive_stream {r : Record} {s : State} {k : StreamKind} (hcrc : crc32 (recordHead r) = r.crc)
    (h : headerKind r = some (.stream k)) : receive r s = enterIntake k r s := by
  simp [receive, (crcGood_iff r).2 hcrc, h]

/-- R5, R6: a good record of an express kind does what the express record does. -/
theorem exec_recordArrival_express {r : Record} {k : ExpressKind} (s : State) (hcrc : crc32 (recordHead r) = r.crc)
    (hk : headerKind r = some (.express k)) :
    exec (.recordArrival r) s = command (express k r.tag r.body) s := by
  have hcode : r.kind = k.code := ((headerKind_express_iff r k).1 hk).1
  by_cases hfull : 8 ≤ s.link.hold.length
  · exact (waits_of_withheld ((withheld_iff r s).2 (.inl hfull))).trans (command_eq
      (express_of_full (s := s.clearOut) hfull _ _ _)).symm
  · have hfree : ¬withheld r s = true := by
      rw [withheld_iff]
      rintro (h | ⟨-, h | ⟨-, j, h⟩⟩)
      · exact hfull h
      · exact k.code_ne_stream .band (hcode.symm.trans h)
      · exact k.code_ne_stream j (hcode.symm.trans h)
    exact (leaves_of_not_withheld hfree).trans (by rw [receive_express hcrc hk, command])

/-! ### Bodies that no row of their kind fixes -/

theorem engineResetBody_of_no_row {body : List Byte} (h : ∀ rest, body ≠ 1#8 :: rest ∧ body ≠ 2#8 :: rest) :
    engineResetBody body = none := by
  refine if_neg ?_
  rintro ⟨hlen, hcode⟩
  obtain ⟨b, rfl⟩ := List.length_eq_one_iff.1 hlen
  obtain ⟨h1, h2⟩ := h []
  obtain hcode | hcode := hcode
  · exact h1 (by rw [show b = 1#8 from BitVec.eq_of_toNat_eq hcode])
  · exact h2 (by rw [show b = 2#8 from BitVec.eq_of_toNat_eq hcode])

theorem counterDumpBody_of_no_row {body : List Byte} (h : ∀ rest, body ≠ 0#8 :: rest ∧ body ≠ 1#8 :: rest) :
    counterDumpBody body = none := by
  refine if_neg ?_
  rintro ⟨hlen, hcode⟩
  obtain ⟨b, rfl⟩ := List.length_eq_one_iff.1 hlen
  obtain ⟨h0, h1⟩ := h []
  obtain hcode | hcode := Nat.le_one_iff_eq_zero_or_eq_one.1 hcode
  · exact h0 (by rw [show b = 0#8 from BitVec.eq_of_toNat_eq hcode])
  · exact h1 (by rw [show b = 1#8 from BitVec.eq_of_toNat_eq hcode])

theorem verifyBody_of_no_row {body : List Byte}
    (h : ∀ rest, body ≠ 2#8 :: rest ∧ body ≠ 3#8 :: rest ∧ body ≠ 4#8 :: rest ∧ body ≠ 5#8 :: rest) :
    verifyBody body = none := by
  refine if_neg ?_
  rintro ⟨hlen, hlow, hhigh⟩
  obtain ⟨b, rfl⟩ := List.length_eq_one_iff.1 hlen
  obtain ⟨h2, h3, h4, h5⟩ := h []
  have hb : b.toNat = 2 ∨ b.toNat = 3 ∨ b.toNat = 4 ∨ b.toNat = 5 := by
    simp only [u8, List.getD_cons_zero] at hlow hhigh
    omega
  obtain hb | hb | hb | hb := hb
  · exact h2 (by rw [show b = 2#8 from BitVec.eq_of_toNat_eq hb])
  · exact h3 (by rw [show b = 3#8 from BitVec.eq_of_toNat_eq hb])
  · exact h4 (by rw [show b = 4#8 from BitVec.eq_of_toNat_eq hb])
  · exact h5 (by rw [show b = 5#8 from BitVec.eq_of_toNat_eq hb])

theorem holdReleaseBody_of_no_row {body : List Byte}
    (h : ∀ item rest, body ≠ item :: 0#8 :: rest ∧ body ≠ item :: 1#8 :: rest) : holdReleaseBody body = none := by
  refine if_neg ?_
  rintro ⟨hlen, -, hcode⟩
  obtain ⟨item, b, c, d, rfl⟩ : ∃ item b c d, body = [item, b, c, d] := by
    match body, hlen with
    | [item, b, c, d], _ => exact ⟨item, b, c, d, rfl⟩
  obtain ⟨h0, h1⟩ := h item [c, d]
  obtain hcode | hcode := Nat.le_one_iff_eq_zero_or_eq_one.1 hcode
  · exact h0 (by rw [show b = 0#8 from BitVec.eq_of_toNat_eq hcode])
  · exact h1 (by rw [show b = 1#8 from BitVec.eq_of_toNat_eq hcode])

/-- Settles O13: a good express record is the row of its kind, or of the byte that the row fixes. -/
theorem expressRecordArrives : Obligations.ExpressRecordArrives := by
  refine ⟨actsAtOnce_iff, fun r k s hcrc hk => ⟨fun hfull => ?_, fun hroom hheld => ?_, fun hact hrow => ?_⟩,
    fun r k s hcrc hk => ?_⟩
  · exact waits_of_withheld ((withheld_iff r s).2 (.inl hfull))
  · have hnot : actsAtOnce s = false := by
      rw [← Bool.not_eq_true, actsAtOnce_iff, not_and_or]
      exact hheld.imp (by omega) id
    exact (exec_recordArrival_express s hcrc hk).trans (command_eq (express_of_held (s := s.clearOut) hroom hnot _ _ _))
  · refine refuses_of_acts (exec_recordArrival_express s hcrc hk) hact ?_
    obtain ⟨rfl, hbody⟩ | ⟨rfl, hbody⟩ | ⟨rfl, hbody⟩ | ⟨rfl, hbody⟩ := hrow
    · simp [ownerAnswer, engineReset, engineResetBody_of_no_row hbody]
    · simp [ownerAnswer, holdRelease, holdReleaseBody_of_no_row hbody]
    · simp [ownerAnswer, sensorVerify, verifyBody_of_no_row hbody]
    · simp [ownerAnswer, counterDump, counterDumpBody_of_no_row hbody]
  · have hrow := exec_recordArrival_express s hcrc hk
    have hbody {b : List Byte} (h : r.body = b) : exec (.recordArrival r) s = command (express k r.tag b) s := h ▸ hrow
    cases k
    case engineReset | counterDump => exact fun rest => ⟨fun h => hbody h, fun h => hbody h⟩
    case holdRelease => exact fun item rest => ⟨fun h => hbody h, fun h => hbody h⟩
    case sensorVerify => exact fun rest => ⟨fun h => hbody h, fun h => hbody h, fun h => hbody h, fun h => hbody h⟩
    all_goals exact hrow

/-! ### The CRC-32 (R3) -/

/-- R3: one bit enters the reflected register of the model, whose least significant bit leaves. -/
def crcReflected (r : BitVec 32) (bit : Bool) : BitVec 32 :=
  (r >>> 1) ^^^ (if r.getLsbD 0 = bit then 0#32 else 0xEDB88320#32)

/-- R3: the register that a bit enters, read from its other end. -/
theorem reverse_crcShift (r : BitVec 32) (bit : Bool) : (crcShift r bit).reverse = crcReflected r.reverse bit := by
  have hmsb : r.reverse.getLsbD 0 = r.msb := BitVec.getLsbD_reverse
  have hshift (x y : BitVec 32) : ((x <<< 1) ^^^ y).reverse = (x.reverse >>> 1) ^^^ y.reverse := by
    refine BitVec.eq_of_getLsbD_eq fun k _ => ?_
    simp only [BitVec.getLsbD_reverse, BitVec.getLsbD_xor, BitVec.getMsbD_xor, BitVec.getLsbD_ushiftRight,
      BitVec.getMsbD_shiftLeft]
    simp [Nat.add_comm]
  have hgen : (0x04C11DB7#32).reverse = 0xEDB88320#32 := by
    refine BitVec.eq_of_getLsbD_eq fun k hk => ?_
    rw [BitVec.getLsbD_reverse]
    interval_cases k <;> rfl
  rw [crcShift, hshift, crcReflected, hmsb]
  split <;> simp [hgen]

/-- R3: one bit of a byte at a time: the rest of the byte is shifted on. -/
theorem crcBit_xor (r v : BitVec 32) : crcBit (r ^^^ v) = crcReflected r (v.getLsbD 0) ^^^ (v >>> 1) := by
  have hbit : (r ^^^ v).getLsbD 0 = true ↔ ¬r.getLsbD 0 = v.getLsbD 0 := by
    rw [BitVec.getLsbD_xor]
    cases r.getLsbD 0 <;> cases v.getLsbD 0 <;> decide
  unfold crcBit crcReflected
  rw [BitVec.ushiftRight_xor_distrib]
  by_cases h : r.getLsbD 0 = v.getLsbD 0
  · rw [if_neg (by rw [hbit]; exact not_not.2 h), if_pos h, BitVec.xor_zero]
  · rw [if_pos (hbit.2 h), if_neg h, BitVec.xor_assoc, BitVec.xor_assoc, BitVec.xor_comm (v >>> 1)]

/-- R3: one byte enters the reflected register, least significant bit first. -/
theorem crcByte_eq (r : BitVec 32) (b : Byte) :
    crcByte r b = (List.range 8).foldl (fun r k => crcReflected r (b.getLsbD k)) r := by
  have hlsb (m : Nat) (hm : m < 32) : ((b.setWidth 32) >>> m).getLsbD 0 = b.getLsbD m := by
    simp [hm]
  have hzero : (b.setWidth 32) >>> 8 = 0#32 := by
    refine BitVec.eq_of_getLsbD_eq fun k _ => ?_
    simp
  have hfirst : (b.setWidth 32).getLsbD 0 = b.getLsbD 0 := hlsb 0 (by omega)
  have hrange : List.range 8 = [0, 1, 2, 3, 4, 5, 6, 7] := rfl
  simp only [crcByte, crcBit_xor, ← BitVec.shiftRight_add, hfirst, hlsb, Nat.reduceAdd, Nat.reduceLT, hzero,
    BitVec.xor_zero, hrange, List.foldl_cons, List.foldl_nil]

/-- R3: the CRC of the model is that of the rule, read from the register's other end. -/
theorem crc32_eq (bytes : List Byte) : crc32 bytes = ~~~(crcRegister bytes).reverse := by
  have hbits (b : Byte) (ks : List Nat) (r : BitVec 32) :
      (ks.foldl (fun r k => crcShift r (b.getLsbD k)) r).reverse =
        ks.foldl (fun r k => crcReflected r (b.getLsbD k)) r.reverse := by
    induction ks generalizing r with
    | nil => rfl
    | cons k ks ih => rw [List.foldl_cons, ih, reverse_crcShift, List.foldl_cons]
  have hbytes (r : BitVec 32) : (bytes.foldl (fun r b => (List.range 8).foldl (fun r k => crcShift r (b.getLsbD k)) r)
      r).reverse = bytes.foldl crcByte r.reverse := by
    induction bytes generalizing r with
    | nil => rfl
    | cons b bytes ih => rw [List.foldl_cons, ih, hbits, List.foldl_cons, crcByte_eq]
  have hones : (0xFFFFFFFF#32).reverse = 0xFFFFFFFF#32 := by
    refine BitVec.eq_of_getLsbD_eq fun k hk => ?_
    rw [BitVec.getLsbD_reverse]
    interval_cases k <;> rfl
  rw [crc32, crcRegister, hbytes, hones]

/-- R3: the check value of the rule's CRC. -/
theorem crc32_check : crc32 [0x31#8, 0x32#8, 0x33#8, 0x34#8, 0x35#8, 0x36#8, 0x37#8, 0x38#8, 0x39#8] =
    0xCBF43926#32 := by
  simp [crc32, crcByte, crcBit]

/-- R6: an arrival reply acts on the hold and the replies that a command finds. -/
theorem arrivalReply_of_link {s u : State} (tag : Byte) (st : Status) (hret : replies u = replies s)
    (hhold : u.link.hold = s.link.hold) :
    arrivalReply tag st u =
      if replies s < 4 ∧ s.link.hold = [] then reply tag st .empty u
      else u.onLink fun l => { l with hold := l.hold ++ [.reply tag st] } := by
  rw [arrivalReply_eq, hret, hhold]

/-- Settles O12: a whole record is withheld, answered at once or later, or enters the intake queue. -/
theorem recordArrives : Obligations.RecordArrives := by
  refine ⟨crc32_eq, crc32_check, fun r s => ⟨fun hfull => ?_, fun hroom => ⟨fun hcrc => ?_, fun hcrc =>
    ⟨fun hband => ?_, fun k hk hrx => ?_, fun hband hkind hfree => ?_, fun k hk hband hidle => ?_⟩⟩⟩⟩
  · exact waits_of_withheld ((withheld_iff r s).2 (.inl hfull))
  · have hnot : ¬withheld r s = true := by
      rw [withheld_iff]
      rintro (hfull | ⟨hgood, -⟩)
      · omega
      · exact hcrc hgood
    have hleaves := leaves_of_not_withheld hnot
    rwa [receive_of_bad_crc hcrc, arrivalReply_of_link (u := s.clearOut) (s := s) _ _ rfl rfl] at hleaves
  · exact waits_of_withheld ((withheld_iff r s).2 (.inr ⟨hcrc, .inl hband⟩))
  · exact waits_of_withheld ((withheld_iff r s).2 (.inr ⟨hcrc, .inr ⟨hrx, k, hk⟩⟩))
  · have hnot : ¬withheld r s = true := by
      rw [withheld_iff]
      rintro (hfull | ⟨-, h | ⟨hrx, k, hk⟩⟩)
      · omega
      · exact hband h
      · exact hfree.elim hrx fun hnone => hnone k hk
    have hleaves := leaves_of_not_withheld hnot
    rwa [receive_of_bad_header hcrc hkind, arrivalReply_of_link (s := s) _ _ (by simp [replies]) (by simp)] at hleaves
  · obtain ⟨hcode, -⟩ := (headerKind_stream_iff r k).1 hk
    have hnot : ¬withheld r s = true := by
      rw [withheld_iff]
      rintro (hfull | ⟨-, h | ⟨hrx, -⟩⟩)
      · omega
      · exact hband (by cases k <;> simp_all [StreamKind.code])
      · exact hrx hidle
    have hleaves := leaves_of_not_withheld hnot
    rw [receive_stream hcrc hk] at hleaves
    refine ⟨fun hfits => ?_, fun hover => ?_⟩
    · rwa [show enterIntake k r s.clearOut = _ from if_pos hfits] at hleaves
    · rwa [show enterIntake k r s.clearOut = _ from if_neg (Nat.not_le.2 hover)] at hleaves

end Sys2Proof.Machine

/-! ## A BAND on the job link (R4, R6, R7, R8, R14, R58, R63) -/

namespace Sys2Proof.Machine

/-- R4, R8: a BAND header is bad exactly when its flags, its reserved byte or its length is. -/
theorem checkHeader_band_eq_none (flags reserved : Byte) (length : Nat) :
    checkHeader 0x14#8 flags reserved length = none ↔
      ¬(flags = 0#8 ∧ reserved = 0#8 ∧ 16 ≤ length ∧ length ≤ 3686416) := by
  have hkind : kindOf 0x14#8 = some (.stream .band) := (kindOf_stream_iff _ .band).2 rfl
  have hsome (k : Kind) : checkHeader 0x14#8 flags reserved length = some k ↔
      k = .stream .band ∧ flags = 0#8 ∧ reserved = 0#8 ∧ 16 ≤ length ∧ length ≤ 3686416 := by
    rw [checkHeader_iff, hkind]
    constructor
    · rintro ⟨heq, hflags, hreserved, hlength⟩
      obtain rfl := Option.some.inj heq
      exact ⟨rfl, hflags, hreserved, (lengthInBound_stream_iff .band length).1 hlength⟩
    · rintro ⟨rfl, hflags, hreserved, hlength⟩
      exact ⟨rfl, hflags, hreserved, (lengthInBound_stream_iff .band length).2 hlength⟩
  rw [Option.eq_none_iff_forall_ne_some]
  simp only [ne_eq, hsome, not_and]
  constructor
  · exact fun h => h _ rfl
  · exact fun h _ _ => h

section Header

variable {flags tag reserved : Byte} {length : BitVec 32} {fixed : List Byte} {s : State}

/-- R6, R8: a BAND header that may be delivered is received. -/
theorem leaves_bandHeader (hroom : s.link.hold.length < 8) (hidle : s.link.rx = .idle) :
    Leaves (.bandHeaderArrival flags tag reserved length fixed) s
      (receiveBandHeader flags tag reserved length fixed s.clearOut) := by
  refine command_eq (f := fun s => if deliveryWithheld s || streamBlocked s then s
    else receiveBandHeader flags tag reserved length fixed s) (if_neg ?_)
  simp only [Bool.or_eq_true, deliveryWithheld_iff, streamBlocked, State.clearOut_link, hidle]
  simp [hroom]

theorem receiveBandHeader_of_bad
    (h : ¬(flags = 0#8 ∧ reserved = 0#8 ∧ 16 ≤ length.toNat ∧ length.toNat ≤ 3686416)) :
    receiveBandHeader flags tag reserved length fixed s =
      arrivalReply tag .badRecord (capture ([0x14#8, flags, tag, reserved] ++ leBytes 4 length.toNat ++ fixed)
        length.toNat true (s.onLink fun l => { l with rx := .dropping })) :=
  if_pos ((checkHeader_band_eq_none _ _ _).2 h)

/-- R7, R8: the fixed part of a good BAND enters the intake queue, or waits on the link for room. -/
theorem receiveBandHeader_of_good
    (h : flags = 0#8 ∧ reserved = 0#8 ∧ 16 ≤ length.toNat ∧ length.toNat ≤ 3686416) :
    receiveBandHeader flags tag reserved length fixed s =
      if intakeFill s + (8 + fixed.length) ≤ 65536 then
        s.onLink fun l =>
          { l with intake := l.intake ++ [{ kind := .band, tag := tag, length := length.toNat, body := fixed }],
                   rx := .waiting }
      else s :=
  if_neg fun hnone => (checkHeader_band_eq_none _ _ _).1 hnone h

end Header

/-- R8: a last byte that may be delivered, and what a command without a BAND coming does. -/
theorem leaves_bandLastByte {planes : List Byte} {crc : BitVec 32} {s : State} (hroom : s.link.hold.length < 8) :
    Leaves (.bandLastByte planes crc) s (finishBand planes crc s.clearOut) :=
  command_eq (f := fun s => if deliveryWithheld s then s else finishBand planes crc s)
    (if_neg (by simpa [deliveryWithheld_iff] using hroom))

theorem leaves_droppedBandLastByte {rest : List Byte} {s : State} (hroom : s.link.hold.length < 8) :
    Leaves (.droppedBandLastByte rest) s (finishDropped rest s.clearOut) :=
  command_eq (f := fun s => if deliveryWithheld s then s else finishDropped rest s)
    (if_neg (by simpa [deliveryWithheld_iff] using hroom))

theorem finishBand_of_not_filling {planes : List Byte} {crc : BitVec 32} {s : State}
    (h : ∀ band wire length tag, s.link.rx ≠ .filling band wire length tag) : finishBand planes crc s = s := by
  unfold finishBand
  split
  · next hrx => exact absurd hrx (h _ _ _ _)
  · rfl

/-- R8, R63: the last byte of a FILLING band. -/
theorem finishBand_of_filling {planes wire : List Byte} {crc : BitVec 32} {band length : Nat} {tag : Byte} {s : State}
    (h : s.link.rx = .filling band wire length tag) :
    finishBand planes crc s =
      if length = 16 + planes.length ∧ crc32 (wire ++ planes) = crc then
        mapBand band (fillBand planes) (s.onLink fun l => { l with rx := .idle })
      else loseBand band tag (s.onLink fun l => { l with rx := .idle }) := by
  simp only [finishBand, h]

theorem arrivalReply_path (tag : Byte) (st : Status) (s : State) : (arrivalReply tag st s).path = s.path := by
  unfold arrivalReply
  split <;> rfl

/-- R8, R58: a FILLING band that fails loses its item. -/
theorem loseBand_of_find {band : Nat} {tag : Byte} {s : State} {b : Band} (h : findBand s band = some b) :
    loseBand band tag s = abortItem b.item .bandLost (arrivalReply tag .linkError s) := by
  have hfind : findBand (arrivalReply tag .linkError s) band = some b := by
    rw [findBand, arrivalReply_path]
    exact h
  simp only [loseBand, hfind]

/-- R8, R14: the last byte of a dropped BAND ends a capture that it still fills. -/
theorem finishDropped_of_dropping {rest : List Byte} {s : State} (h : s.link.rx = .dropping) :
    finishDropped rest s = s.onLink fun l => { l with
      rx := .idle,
      capture := if l.capture.filling then
        { l.capture with bytes := (l.capture.bytes ++ rest).take 64, filling := false }
        else l.capture } := by
  simp only [finishDropped, if_pos h, captureRest, State.onLink_link, captureBytes]
  by_cases hfilling : s.link.capture.filling = true <;> simp [State.onLink, hfilling]

/-- Settles O14: a BAND's header and last byte, and when they are withheld. -/
theorem bandArrives : Obligations.BandArrives := by
  refine ⟨fun s => ⟨fun h flags tag reserved length fixed => ?_, fun h planes crc => ?_, fun h rest => ?_⟩,
    fun flags tag reserved length fixed s hroom hidle => ⟨fun hgood hfits => ?_, fun hgood hover => ?_, fun hbad => ?_⟩,
    fun planes wire crc band length tag s hroom hrx => ⟨fun hgood => ?_, fun b hbad hband => ?_⟩,
    fun rest s hroom hrx => ?_⟩
  · refine command_eq (f := fun s => if deliveryWithheld s || streamBlocked s then s
      else receiveBandHeader flags tag reserved length fixed s) (if_pos ?_)
    rw [Bool.or_eq_true, deliveryWithheld_iff]
    exact h.imp id fun hrx => by simpa [streamBlocked] using hrx
  · by_cases hfull : 8 ≤ s.link.hold.length
    · exact command_eq (f := fun s => if deliveryWithheld s then s else finishBand planes crc s)
        (if_pos ((deliveryWithheld_iff s.clearOut).2 hfull))
    · have hleaves := leaves_bandLastByte (planes := planes) (crc := crc) (s := s) (by omega)
      rwa [finishBand_of_not_filling (s := s.clearOut) (h.resolve_left hfull)] at hleaves
  · by_cases hfull : 8 ≤ s.link.hold.length
    · exact command_eq (f := fun s => if deliveryWithheld s then s else finishDropped rest s)
        (if_pos ((deliveryWithheld_iff s.clearOut).2 hfull))
    · have hleaves := leaves_droppedBandLastByte (rest := rest) (s := s) (by omega)
      rwa [show finishDropped rest s.clearOut = s.clearOut from if_neg (h.resolve_left hfull)] at hleaves
  · have hleaves := leaves_bandHeader (flags := flags) (tag := tag) (reserved := reserved) (length := length)
      (fixed := fixed) hroom hidle
    rwa [receiveBandHeader_of_good hgood, if_pos (show intakeFill s.clearOut + _ ≤ _ from hfits)] at hleaves
  · have hleaves := leaves_bandHeader (flags := flags) (tag := tag) (reserved := reserved) (length := length)
      (fixed := fixed) hroom hidle
    rwa [receiveBandHeader_of_good hgood,
      if_neg (show ¬intakeFill s.clearOut + _ ≤ _ from Nat.not_le.2 hover)] at hleaves
  · have hleaves := leaves_bandHeader (flags := flags) (tag := tag) (reserved := reserved) (length := length)
      (fixed := fixed) hroom hidle
    rwa [receiveBandHeader_of_bad hbad] at hleaves
  · have hleaves := leaves_bandLastByte (planes := planes) (crc := crc) hroom
    rwa [finishBand_of_filling (s := s.clearOut) hrx, if_pos hgood] at hleaves
  · have hleaves := leaves_bandLastByte (planes := planes) (crc := crc) hroom
    rwa [finishBand_of_filling (s := s.clearOut) hrx, if_neg hbad, loseBand_of_find
      (s := s.clearOut.onLink fun l => { l with rx := .idle }) (b := b) hband] at hleaves
  · have hleaves := leaves_droppedBandLastByte (rest := rest) hroom
    rwa [finishDropped_of_dropping (s := s.clearOut) hrx] at hleaves

end Sys2Proof.Machine

/-! ## What the parts of an abort leave of the items, the stops and the head operations (R55) -/

namespace Sys2Proof.Machine

/-! ### The live items -/

/-- The jobs are the same, and the live items but for what the items `u` have beside the figures `g`. -/
def OnlyItem {α : Type} (u : Nat) (g : Item → α) (s t : State) : Prop :=
  t.items.jobs = s.items.jobs ∧ ∃ f : Item → Item, t.items.live = s.items.live.map f ∧
    ∀ k, (f k).uid = k.uid ∧ g (f k) = g k ∧ (k.uid ≠ u → f k = k)

section OnlyItem

variable {α β : Type} {u : Nat} {g : Item → α} {r s t : State}

theorem OnlyItem.of_items (h : t.items = s.items) : OnlyItem u g s t :=
  ⟨by rw [h], id, by simp [h], fun _ => ⟨rfl, rfl, fun _ => rfl⟩⟩

theorem OnlyItem.trans (hr : OnlyItem u g r s) (hs : OnlyItem u g s t) : OnlyItem u g r t := by
  obtain ⟨hjobs, f, hlive, hf⟩ := hr
  obtain ⟨hjobs', f', hlive', hf'⟩ := hs
  refine ⟨hjobs'.trans hjobs, f' ∘ f, by rw [hlive', hlive, List.map_map], fun k => ?_⟩
  obtain ⟨huid, hg, hkeep⟩ := hf k
  obtain ⟨huid', hg', hkeep'⟩ := hf' (f k)
  exact ⟨huid'.trans huid, hg'.trans hg, fun hk => (hkeep' (huid ▸ hk)).trans (hkeep hk)⟩

theorem OnlyItem.map (h : OnlyItem u g s t) (p : α → β) : OnlyItem u (p ∘ g) s t := by
  obtain ⟨hjobs, f, hlive, hf⟩ := h
  refine ⟨hjobs, f, hlive, fun k => ?_⟩
  obtain ⟨huid, hg, hkeep⟩ := hf k
  exact ⟨huid, congrArg p hg, hkeep⟩

theorem onlyItem_mapItem (s : State) {f : Item → Item} (huid : ∀ k, (f k).uid = k.uid) (hg : ∀ k, g (f k) = g k) :
    OnlyItem u g s (mapItem u f s) := by
  refine ⟨rfl, fun k => if k.uid = u then f k else k, rfl, fun k => ?_⟩
  by_cases hk : k.uid = u <;> simp [hk, huid, hg]

/-- An item that is live still has the figures it had. -/
theorem OnlyItem.origin (h : OnlyItem u g s t) {k : Item} (hk : k ∈ t.items.live) :
    ∃ k₀ ∈ s.items.live, k.uid = k₀.uid ∧ g k = g k₀ ∧ (k.uid ≠ u → k = k₀) := by
  obtain ⟨-, f, hlive, hf⟩ := h
  obtain ⟨k₀, hk₀, rfl⟩ := List.mem_map.1 (hlive ▸ hk)
  obtain ⟨huid, hg, hkeep⟩ := hf k₀
  exact ⟨k₀, hk₀, huid, hg, fun hk => hkeep (huid ▸ hk)⟩

theorem OnlyItem.mem_of_ne (h : OnlyItem u g s t) {k : Item} (hk : k ∈ s.items.live) (hu : k.uid ≠ u) :
    k ∈ t.items.live := by
  obtain ⟨-, f, hlive, hf⟩ := h
  obtain ⟨-, -, hkeep⟩ := hf k
  exact hlive ▸ List.mem_map.2 ⟨k, hk, hkeep hu⟩

theorem OnlyItem.find (h : OnlyItem u g s t) (v : Nat) : (findItem t v).map g = (findItem s v).map g := by
  obtain ⟨-, f, hlive, hf⟩ := h
  have hkey : ((fun i : Item => i.uid == v) ∘ f) = fun i => i.uid == v := by
    funext k
    rw [Function.comp_apply, (hf k).1]
  have hg : g ∘ f = g := funext fun k => (hf k).2.1
  rw [findItem, hlive, List.find?_map, hkey, Option.map_map, hg, findItem]

end OnlyItem

/-- The figures of an item that the abort looks at. -/
def Item.abortKey (k : Item) : Fate × Nat × Nat × Nat × Nat :=
  (k.fate, k.abortOrder, k.reservation, k.openRows, k.abortFeedRows)

section AbortKey

variable {u : Nat}

/-- R53: a hold changes a state and the state under hold. -/
theorem onlyItem_holdItem (u : Nat) (s : State) : OnlyItem u Item.abortKey s (holdItem u s) := by
  unfold holdItem
  split
  · split
    · exact .trans (onlyItem_mapItem s (f := fun k => { k with state := .held, under := some k.state })
        (fun _ => rfl) (fun _ => rfl)) (.of_items (by simp))
    · exact .of_items rfl
  · exact .of_items rfl

theorem onlyItem_panelJudged (u n : Nat) (old new : Verdict) (s : State) :
    OnlyItem u Item.abortKey s (panelJudged u n old new s) := by
  have hset : OnlyItem u Item.abortKey s (mapItem u (setVerdict n new) s) :=
    onlyItem_mapItem s (fun _ => rfl) (fun _ => rfl)
  unfold panelJudged
  split
  · exact (hset.trans (onlyItem_holdItem u _)).trans (.of_items (by simp))
  · exact hset

theorem onlyItem_mergeVerdict (u n : Nat) (v : Verdict) (s : State) :
    OnlyItem u Item.abortKey s (mergeVerdict u n v s) := by
  obtain ⟨-, heq⟩ | ⟨i, old, -, -, ⟨-, heq⟩ | ⟨m, -, heq⟩⟩ := mergeVerdict_cases u n v s
  · exact .of_items (by rw [heq])
  · exact heq ▸ onlyItem_panelJudged u n old _ s
  · exact heq ▸ (onlyItem_panelJudged u n old (old.worse v) s).trans (.of_items (by simp))

theorem onlyItem_unreadIfMeasure {t : Stop} (ht : t.item = u) (s : State) :
    OnlyItem u Item.abortKey s (unreadIfMeasure t s) := by
  have hrecord (m : MeasureStop) : OnlyItem u Item.abortKey s (recordUnread t m s) :=
    ht ▸ (onlyItem_mergeVerdict t.item (t.panel.getD 0) .incomplete s).trans (.of_items (by simp [recordUnread]))
  unfold unreadIfMeasure
  split
  · exact .of_items rfl
  · next m _ =>
    dsimp only
    split <;> split
    · exact .of_items rfl
    · exact hrecord m
    · exact .of_items rfl
    · exact hrecord m

theorem onlyItem_unreadStops {gone : List Stop} (h : ∀ t ∈ gone, t.item = u) (s : State) :
    OnlyItem u Item.abortKey s (unreadStops gone s) := by
  induction gone generalizing s with
  | nil => exact .of_items rfl
  | cons t gone ih =>
    exact (onlyItem_unreadIfMeasure (h t (by simp)) s).trans (ih (fun t ht => h t (by simp [ht])) _)

/-- The measure stops of an item (R55). -/
def measuresOf (u : Nat) (s : State) : List Stop := s.media.stops.filter fun t => t.isMeasure && t.item == u

theorem item_of_mem_measuresOf {s : State} {t : Stop} (h : t ∈ measuresOf u s) : t.item = u := by
  simp only [measuresOf, List.mem_filter, Bool.and_eq_true, beq_iff_eq] at h
  exact h.2.2

/-- R55, R152: the measure stops of an item go, and a waiting measure action of one of them ends at once. -/
theorem dropMeasures_cases (u : Nat) (s : State) :
    let d := unreadStops (measuresOf u s) (dropStops (fun t => t.isMeasure && t.item == u) s)
    dropMeasures u s = d ∨ ∃ m, dropMeasures u s = proceed m (d.onColour fun c => { c with measure := none }) := by
  unfold dropMeasures
  dsimp only
  split
  · split
    · exact .inr ⟨_, rfl⟩
    · exact .inl rfl
  · exact .inl rfl

theorem onlyItem_dropMeasures (u : Nat) (s : State) : OnlyItem u Item.abortKey s (dropMeasures u s) := by
  have hunread : OnlyItem u Item.abortKey s
      (unreadStops (measuresOf u s) (dropStops (fun t => t.isMeasure && t.item == u) s)) :=
    .trans (.of_items rfl) (onlyItem_unreadStops (fun t ht => item_of_mem_measuresOf ht) _)
  obtain heq | ⟨m, heq⟩ := dropMeasures_cases u s
  · exact heq ▸ hunread
  · exact heq ▸ hunread.trans (.of_items (by simp))

@[simp] theorem releaseInk_slots (l : List (Chan × Nat)) (s : State) :
    (releaseInk l s).ink.slots = s.ink.slots ∧ (releaseInk l s).ink.recent = s.ink.recent := by
  unfold releaseInk
  induction l generalizing s with
  | nil => exact ⟨rfl, rfl⟩
  | cons a l ih => exact ih _

@[simp] theorem endWaits_slots (w : Asker) (l : List (Chan × Nat)) (s : State) :
    (endWaits w l s).ink.slots = s.ink.slots ∧ (endWaits w l s).ink.recent = s.ink.recent := by
  have hone (c : Chan) (s : State) : (endWait w l c s).ink.slots = s.ink.slots ∧
      (endWait w l c s).ink.recent = s.ink.recent := by
    unfold endWait
    split <;> simp [setWait]
  have hall (cs : List Chan) (s : State) : (forChannels cs (endWait w l) s).ink.slots = s.ink.slots ∧
      (forChannels cs (endWait w l) s).ink.recent = s.ink.recent := by
    unfold forChannels
    induction cs generalizing s with
    | nil => exact ⟨rfl, rfl⟩
    | cons c cs ih =>
      obtain ⟨hslots, hrecent⟩ := ih (endWait w l c s)
      obtain ⟨hslots', hrecent'⟩ := hone c s
      exact ⟨hslots.trans hslots', hrecent.trans hrecent'⟩
  simp only [endWaits, State.onInk_ink]
  exact hall (List.finRange 12) s

/-- R67, R63: a band has left the store, its ink, its strips, the queue and the stream lane. -/
def bandDropped (b : Band) (s : State) : State :=
  let d := dropBand b.serial (s.onPath fun p => { p with
    waiting := p.waiting.filter fun o => !(lostGutters s b).contains o })
  ((if b.holdsInk then releaseInk b.amounts d else d).onLink fun l => { l with rx := match l.rx with
    | .filling n w len t => if n = b.serial then .dropping else .filling n w len t
    | r => r }).onColour fun c => { c with strips := c.strips.filter fun t => t.band != b.serial }

/-- R67: the discarded rows count as gutter of the item. -/
def rowsWasted (b : Band) (s : State) : State :=
  mapItem b.item (fun i => { i with gutterRows := i.gutterRows + b.rows }) s

/-- R115: the discard ends the band's ink waits last. -/
theorem discardBand_eq (b : Band) (s : State) :
    discardBand b s = if (rowsWasted b (bandDropped b s)).ink.waitAsker = some b.serial then
      endWaits (.band b.itemId b.index) b.amounts (rowsWasted b (bandDropped b s)) else
      rowsWasted b (bandDropped b s) := rfl

theorem bandDropped_spec (b : Band) (s : State) :
    (bandDropped b s).items = s.items ∧
    (bandDropped b s).path = { s.path with
      waiting := s.path.waiting.filter fun o => !(lostGutters s b).contains o,
      store := s.path.store.filter fun a => a.serial != b.serial,
      queue := s.path.queue.filter fun q => q != .band b.serial } ∧
    (bandDropped b s).ink.slots = s.ink.slots ∧ (bandDropped b s).ink.recent = s.ink.recent ∧
    (bandDropped b s).colour.verify = s.colour.verify := by
  unfold bandDropped
  dsimp only
  split <;> simp [dropBand]

/-- R67, R63: what the discard of a band leaves of the items, the head operations, the slots and the sensor tests. -/
theorem discardBand_spec (b : Band) (s : State) :
    (discardBand b s).items = (rowsWasted b s).items ∧
    (discardBand b s).path = { s.path with
      waiting := s.path.waiting.filter fun o => !(lostGutters s b).contains o,
      store := s.path.store.filter fun a => a.serial != b.serial,
      queue := s.path.queue.filter fun q => q != .band b.serial } ∧
    (discardBand b s).ink.slots = s.ink.slots ∧ (discardBand b s).ink.recent = s.ink.recent ∧
    (discardBand b s).colour.verify = s.colour.verify := by
  obtain ⟨hitems, hpath, hslots, hrecent, hverify⟩ := bandDropped_spec b s
  have hwasted : (rowsWasted b (bandDropped b s)).items = (rowsWasted b s).items := by
    simp only [rowsWasted, mapItem, State.onItems_items, hitems]
  rw [discardBand_eq]
  split
  · simp only [endWaits_frame, endWaits_slots, hwasted, true_and]
    exact ⟨hpath, hslots, hrecent, hverify⟩
  · exact ⟨hwasted, hpath, hslots, hrecent, hverify⟩

theorem onlyItem_discardBand {b : Band} (hb : b.item = u) (s : State) :
    OnlyItem u Item.abortKey s (discardBand b s) := by
  subst hb
  obtain ⟨hitems, -⟩ := discardBand_spec b s
  have hwasted : OnlyItem b.item Item.abortKey s (rowsWasted b s) := onlyItem_mapItem s (fun _ => rfl) (fun _ => rfl)
  exact hwasted.trans (.of_items hitems)

theorem onlyItem_discardBands {bands : List Band} (h : ∀ b ∈ bands, b.item = u) (s : State) :
    OnlyItem u Item.abortKey s (discardBands bands s).1 := by
  induction bands generalizing s with
  | nil => exact .of_items rfl
  | cons b bands ih =>
    exact (onlyItem_discardBand (h b (by simp)) s).trans (ih (fun b hb => h b (by simp [hb])) _)

/-- The figures of an item that the close of its last panel leaves. -/
def Item.closeKey (k : Item) : Fate × Nat × Nat × Nat := (k.fate, k.abortOrder, k.reservation, k.abortFeedRows)

/-- R49: the gutter of an aborted panel moves the plan. -/
def gutterFed (u g : Nat) (s : State) : State :=
  if 0 < g then movePlan g (mapItem u (fun i => { i with gutterRows := i.gutterRows + g }) s) else s

/-- R49: one cut of a closing panel. -/
def panelCut (i : Item) (mp : MediaProfile) (n : Nat) (time : Option Time × Option Nat) (role : CutRole) (row : Row)
    (s : State) : State × Option Row :=
  if mp.cutterEnabled then
    insertCut i (some n) (row + mp.cutter)
      { role := role, cutRow := row, notBefore := time.1, hold := false, lastBand := time.2 } s
  else (s, none)

/-- R49, R56: the panel close of an abort. -/
theorem closePanel_aborted {u : Nat} {last : Bool} {t : Time} {s : State} {i : Item} {mp : MediaProfile} {p : Panel}
    (hi : findItem s u = some i) (hmp : s.tables.mediaProfile = some mp) (hp : i.panels.getLast? = some p) :
    closePanel u last (some t) s =
      let time := keptTime s i p t
      let a := panelCut i mp p.index time .a s.items.planRow (gutterFed u mp.gutter s)
      let b := if 0 < mp.gutter then panelCut i mp p.index time .b (s.items.planRow + mp.gutter) a.1 else (a.1, none)
      let closed := { p with rows := i.openRows, last := last, cutA := a.2, cutB := b.2 }
      raise (.panelClosed (panelBody i closed)) ((mapItem u (fun i => { i with
        panels := i.panels.dropLast ++ [closed], openRows := 0 }) b.1).onItems fun m => { m with
          cutRef := s.items.planRow + mp.gutter }) := by
  simp only [closePanel, hi, hmp, hp]
  rfl

@[simp] theorem gutterFed_frame (u g : Nat) (s : State) :
    (gutterFed u g s).path = s.path ∧ (gutterFed u g s).media = s.media := by
  unfold gutterFed
  split <;> simp

theorem onlyItem_gutterFed (u g : Nat) (s : State) : OnlyItem u Item.closeKey s (gutterFed u g s) := by
  unfold gutterFed
  split
  · exact .trans (onlyItem_mapItem s (f := fun i => { i with gutterRows := i.gutterRows + g }) (fun _ => rfl)
      (fun _ => rfl)) ⟨rfl, id, by simp [movePlan], fun _ => ⟨rfl, rfl, fun _ => rfl⟩⟩
  · exact .of_items rfl

@[simp] theorem panelCut_frame (i : Item) (mp : MediaProfile) (n : Nat) (time : Option Time × Option Nat)
    (role : CutRole) (row : Row) (s : State) :
    (panelCut i mp n time role row s).1.path = s.path ∧ (panelCut i mp n time role row s).1.items = s.items := by
  unfold panelCut
  split <;> simp

/-- The stops have grown by cuts of the item `u` alone, and the roll keeps its reservations. -/
def CutsJoined (u : Nat) (s t : State) : Prop :=
  t.media.roll.reserved = s.media.roll.reserved ∧ (∀ v ∈ s.media.stops, v ∈ t.media.stops) ∧
    ∀ v ∈ t.media.stops, v ∈ s.media.stops ∨ v.item = u ∧ ∃ c, v.kind = .cut c ∧ c.hold = false

theorem CutsJoined.of_media {s t : State} (h : t.media = s.media) : CutsJoined u s t :=
  ⟨by rw [h], fun v hv => h ▸ hv, fun v hv => .inl (h ▸ hv)⟩

theorem CutsJoined.trans {r s t : State} (hr : CutsJoined u r s) (hs : CutsJoined u s t) : CutsJoined u r t := by
  obtain ⟨hroll, hkept, hnew⟩ := hr
  obtain ⟨hroll', hkept', hnew'⟩ := hs
  exact ⟨hroll'.trans hroll, fun v hv => hkept' v (hkept v hv), fun v hv => (hnew' v hv).elim (hnew v) .inr⟩

theorem mem_insertInOrder {t v : Stop} {l : List Stop} : v ∈ insertInOrder t l ↔ v = t ∨ v ∈ l := by
  induction l with
  | nil => simp [insertInOrder]
  | cons w l ih =>
    unfold insertInOrder
    split
    · simp [ih, or_left_comm]
    · simp

theorem cutsJoined_panelCut (i : Item) (mp : MediaProfile) (n : Nat) (time : Option Time × Option Nat)
    (role : CutRole) (row : Row) (s : State) : CutsJoined i.uid s (panelCut i mp n time role row s).1 := by
  unfold panelCut
  split
  · unfold insertCut
    split
    · next hroom =>
      refine ⟨by simp [takeStopId, insertStop, hroom], fun v hv => ?_, fun v hv => ?_⟩
      · simpa [takeStopId, insertStop, hroom, mem_insertInOrder] using .inr hv
      · simp only [takeStopId, insertStop, hroom, if_true, State.onMedia_media, mem_insertInOrder] at hv
        obtain rfl | hv := hv
        · exact .inr ⟨rfl, _, rfl, rfl⟩
        · exact .inl hv
    · exact .of_media rfl
  · exact .of_media rfl

/-- R49, R56: what the panel close of an abort leaves: figures of its item, the head operations, and the stops but for
its cuts. -/
theorem closePanel_aborted_spec (u : Nat) (last : Bool) (t : Time) (s : State) :
    OnlyItem u Item.closeKey s (closePanel u last (some t) s) ∧ (closePanel u last (some t) s).path = s.path ∧
      CutsJoined u s (closePanel u last (some t) s) := by
  have hidle : closePanel u last (some t) s = s → OnlyItem u Item.closeKey s (closePanel u last (some t) s) ∧
      (closePanel u last (some t) s).path = s.path ∧ CutsJoined u s (closePanel u last (some t) s) := fun h => by
    rw [h]
    exact ⟨.of_items rfl, rfl, .of_media rfl⟩
  cases hi : findItem s u with
  | none => exact hidle (by simp [closePanel, hi])
  | some i =>
  cases hmp : s.tables.mediaProfile with
  | none => exact hidle (by simp [closePanel, hi, hmp])
  | some mp =>
  cases hp : i.panels.getLast? with
  | none => exact hidle (by simp [closePanel, hi, hmp, hp])
  | some p =>
  have huid : i.uid = u := by simpa using List.find?_some hi
  rw [closePanel_aborted hi hmp hp]
  dsimp only
  generalize hA : panelCut i mp p.index (keptTime s i p t) .a s.items.planRow (gutterFed u mp.gutter s) = a
  generalize hB : (if 0 < mp.gutter then
    panelCut i mp p.index (keptTime s i p t) .b (s.items.planRow + mp.gutter) a.1 else (a.1, none)) = b
  have hb : b.1.path = s.path ∧ b.1.items = (gutterFed u mp.gutter s).items ∧ CutsJoined u s b.1 := by
    have ha : a.1.path = s.path ∧ a.1.items = (gutterFed u mp.gutter s).items ∧ CutsJoined u s a.1 := by
      subst hA huid
      exact ⟨by simp, by simp, .trans (.of_media (by simp)) (cutsJoined_panelCut ..)⟩
    obtain ⟨hpath, hitems, hcuts⟩ := ha
    subst hB huid
    split
    · exact ⟨by simp [hpath], by simp [hitems], hcuts.trans (cutsJoined_panelCut ..)⟩
    · exact ⟨hpath, hitems, hcuts⟩
  obtain ⟨hpath, hitems, hcuts⟩ := hb
  refine ⟨?_, by simp [hpath], hcuts.trans (.of_media (by simp))⟩
  refine .trans ((onlyItem_gutterFed u mp.gutter s).trans (.of_items hitems)) (.trans (onlyItem_mapItem b.1
    (f := fun k => { k with
      panels := k.panels.dropLast ++ [{ p with rows := i.openRows, last := last, cutA := a.2, cutB := b.2 }],
      openRows := 0 }) (fun _ => rfl) (fun _ => rfl)) ?_)
  exact ⟨by simp, id, by simp, fun _ => ⟨rfl, rfl, fun _ => rfl⟩⟩

/-- R56: what an abort's panel close, made or put off, leaves. -/
theorem closeAborted_spec (u : Nat) (t : Time) (s : State) :
    OnlyItem u Item.closeKey s (closeAborted u t s).1 ∧ (closeAborted u t s).1.path = s.path ∧
      CutsJoined u s (closeAborted u t s).1 := by
  unfold closeAborted
  split
  · split
    · exact ⟨.of_items rfl, rfl, .of_media rfl⟩
    · split
      · exact ⟨onlyItem_mapItem s (fun _ => rfl) (fun _ => rfl), rfl, .of_media rfl⟩
      · exact closePanel_aborted_spec u true t s
  · exact ⟨.of_items rfl, rfl, .of_media rfl⟩

/-- R56: the rows that the gutter of an aborted item's open panel adds to the abort feed. -/
def abortGutter (i : Item) (s : State) : Nat :=
  if i.openRows ≠ 0 ∧ s.tables.lock ≠ some .mediaProfile then
    (match s.tables.mediaProfile with | some p => p.gutter | none => 0)
  else 0

theorem closeAborted_rows {u : Nat} {t : Time} {s : State} {i : Item} (hi : findItem s u = some i) :
    (closeAborted u t s).2 = abortGutter i s := by
  by_cases hrows : i.openRows = 0
  · simp [closeAborted, abortGutter, hi, hrows]
  · by_cases hlock : s.tables.lock = some .mediaProfile
    · simp [closeAborted, abortGutter, hi, hrows, locked, hlock]
    · rw [abortGutter, if_pos ⟨hrows, hlock⟩]
      cases hmp : s.tables.mediaProfile with
      | none => simp [closeAborted, hi, hrows, locked, hlock, hmp]
      | some p => simp [closeAborted, hi, hrows, locked, hlock, hmp]

end AbortKey

end Sys2Proof.Machine

/-! ## The stops and the head operations that an abort leaves (R55, R67, R136) -/

namespace Sys2Proof.Machine

/-! ### Marking: the measure stops leave, and no other stop changes but for its hold -/

/-- R138: a stop without its hold. -/
def Stop.unheld (t : Stop) : Stop := t.mapCut fun c => { c with hold := false }

/-- The stops are the same but for holds, and the roll keeps its reservations. -/
def HoldsOnly (s t : State) : Prop :=
  t.media.roll.reserved = s.media.roll.reserved ∧ t.media.stops.map Stop.unheld = s.media.stops.map Stop.unheld

theorem HoldsOnly.of_media {s t : State} (h : t.media = s.media) : HoldsOnly s t := by
  rw [HoldsOnly, h]
  exact ⟨rfl, rfl⟩

theorem HoldsOnly.trans {r s t : State} (hr : HoldsOnly r s) (hs : HoldsOnly s t) : HoldsOnly r t :=
  ⟨hs.1.trans hr.1, hs.2.trans hr.2⟩

theorem unheld_mapCut_hold (v : Bool) (t : Stop) : (t.mapCut fun c => { c with hold := v }).unheld = t.unheld := by
  obtain ⟨uid, position, item, itemId, panel, kind⟩ := t
  cases kind <;> rfl

theorem holdsOnly_mapCuts (sel : Stop → Bool) (v : Bool) (s : State) :
    HoldsOnly s (mapCuts sel (fun c => { c with hold := v }) s) := by
  refine ⟨rfl, ?_⟩
  rw [mapCuts, State.onMedia_media, List.map_map]
  refine List.map_congr_left fun t _ => ?_
  by_cases h : sel t = true <;> simp [h, unheld_mapCut_hold]

theorem holdsOnly_mergeVerdict (u n : Nat) (v : Verdict) (s : State) : HoldsOnly s (mergeVerdict u n v s) := by
  have hcuts (s : State) : HoldsOnly s (holdCuts u n s) := by
    unfold holdCuts
    split
    · split
      · exact (holdsOnly_mapCuts (fun t => t.item == u && t.panel == some n) true s).trans (.of_media (by simp))
      · exact .of_media rfl
    · exact .of_media rfl
  have hjudged (old new : Verdict) : HoldsOnly s (panelJudged u n old new s) := by
    unfold panelJudged
    split
    · exact .trans (.of_media (by simp)) (hcuts _)
    · exact .of_media (by simp)
  obtain ⟨-, heq⟩ | ⟨i, old, -, -, ⟨-, heq⟩ | ⟨m, -, heq⟩⟩ := mergeVerdict_cases u n v s
  · exact .of_media (by rw [heq])
  · exact heq ▸ hjudged old _
  · exact heq ▸ (hjudged old (old.worse v)).trans (.of_media (by simp))

@[simp] theorem mergeVerdict_verify (u n : Nat) (v : Verdict) (s : State) :
    (mergeVerdict u n v s).colour.verify = s.colour.verify := by
  obtain ⟨-, heq⟩ | ⟨i, old, -, -, ⟨-, heq⟩ | ⟨m, -, heq⟩⟩ := mergeVerdict_cases u n v s <;> simp [heq, mapEdition]

@[simp] theorem touchEdition_verify (n : Option Nat) (s : State) :
    (touchEdition n s).colour.verify = s.colour.verify := by
  cases n <;> rfl

/-- R152: a strip recorded unread changes holds alone among the stops, and no sensor test. -/
theorem unreadIfMeasure_spec (t : Stop) (s : State) :
    HoldsOnly s (unreadIfMeasure t s) ∧ (unreadIfMeasure t s).colour.verify = s.colour.verify := by
  have hrecord (m : MeasureStop) : HoldsOnly s (recordUnread t m s) ∧
      (recordUnread t m s).colour.verify = s.colour.verify :=
    ⟨(holdsOnly_mergeVerdict t.item (t.panel.getD 0) .incomplete s).trans (.of_media (by simp [recordUnread])),
      by simp [recordUnread]⟩
  unfold unreadIfMeasure
  split
  · exact ⟨.of_media rfl, rfl⟩
  · next m _ =>
    dsimp only
    split <;> split
    · exact ⟨.of_media rfl, rfl⟩
    · exact hrecord m
    · exact ⟨.of_media rfl, rfl⟩
    · exact hrecord m

theorem unreadStops_spec (gone : List Stop) (s : State) :
    HoldsOnly s (unreadStops gone s) ∧ (unreadStops gone s).colour.verify = s.colour.verify := by
  induction gone generalizing s with
  | nil => exact ⟨.of_media rfl, rfl⟩
  | cons t gone ih =>
    obtain ⟨hholds, hverify⟩ := unreadIfMeasure_spec t s
    obtain ⟨hholds', hverify'⟩ := ih (unreadIfMeasure t s)
    exact ⟨hholds.trans hholds', hverify'.trans hverify⟩

/-- The band path but for the phase of the operation in flight. -/
def SameWork (s t : State) : Prop :=
  t.path.store = s.path.store ∧ t.path.waiting = s.path.waiting ∧ t.path.abortWait = s.path.abortWait ∧
    t.path.queue = s.path.queue ∧ flightBand t = flightBand s ∧ flightOp t = flightOp s

theorem SameWork.of_path {s t : State} (h : t.path = s.path) : SameWork s t := by
  simp [SameWork, flightBand, flightOp, h]

/-- R148: proceeding changes the phase of the operation in flight alone. -/
theorem sameWork_proceed (m : Nat) (s : State) : SameWork s (proceed m s) := by
  unfold proceed
  split
  · next f hf =>
    split
    · obtain ⟨opId, work, phase, elapsed, rest⟩ := f
      cases work <;> simp [SameWork, flightBand, flightOp, hf, State.send]
    · exact .of_path rfl
  · exact .of_path rfl

/-- R55, R152: the measure stops of the item have left the list; nothing else of the stops has changed but holds. -/
theorem dropMeasures_spec (u : Nat) (s : State) :
    (dropMeasures u s).media.roll.reserved = s.media.roll.reserved ∧
    (dropMeasures u s).media.stops.map Stop.unheld =
      (s.media.stops.filter fun t => !(t.isMeasure && t.item == u)).map Stop.unheld ∧
    (dropMeasures u s).colour.verify = s.colour.verify ∧ SameWork s (dropMeasures u s) := by
  obtain ⟨⟨hroll, hstops⟩, hverify⟩ := unreadStops_spec (measuresOf u s)
    (dropStops (fun t => t.isMeasure && t.item == u) s)
  obtain heq | ⟨m, heq⟩ := dropMeasures_cases u s
  · rw [heq]
    exact ⟨hroll, hstops, hverify, .of_path (by simp)⟩
  · rw [heq]
    simp only [proceed_frame, State.onColour_media, State.onColour_colour]
    refine ⟨hroll, hstops, hverify, ?_⟩
    have hsame := sameWork_proceed m ((unreadStops (measuresOf u s) (dropStops
        (fun t => t.isMeasure && t.item == u) s)).onColour
      fun c => { c with measure := none })
    simpa [SameWork, flightBand, flightOp] using hsame

@[simp] theorem unheld_item (t : Stop) : t.unheld.item = t.item := by
  obtain ⟨uid, position, item, itemId, panel, kind⟩ := t
  cases kind <;> rfl

theorem unheld_place {v w : Stop} (h : v.unheld = w.unheld) : v.uid = w.uid ∧ v.position = w.position := by
  obtain ⟨_, _, _, _, _, kind⟩ := v
  obtain ⟨_, _, _, _, _, kind'⟩ := w
  cases kind <;> cases kind' <;> simp_all [Stop.unheld, Stop.mapCut]

/-- R55: after the mark the item's stops are cuts without holds, and every cut stop still stands. -/
theorem abortMarked_stops (u : Nat) (s : State) :
    (abortMarked u s).media.roll.reserved = s.media.roll.reserved ∧
    (∀ v ∈ (abortMarked u s).media.stops, v.item = u → ∃ w : Stop, w.isMeasure = false ∧ v = w.unheld) ∧
    ∀ w ∈ s.media.stops, w.isMeasure = false → ∃ v ∈ (abortMarked u s).media.stops,
      v.unheld = w.unheld ∧ (w.item = u → v = w.unheld) := by
  let m := mapItem u (fun i => { i with fate := .aborted, abortOrder := nextAbort s }) s
  obtain ⟨hroll, hstops, -, -⟩ := dropMeasures_spec u m
  have hstops : (dropMeasures u m).media.stops.map Stop.unheld =
      (s.media.stops.filter fun t => !(t.isMeasure && t.item == u)).map Stop.unheld := hstops
  have hmarked : (abortMarked u s).media.stops =
      (dropMeasures u m).media.stops.map fun t => if t.item == u then t.unheld else t := rfl
  refine ⟨hroll, fun v hv hitem => ?_, fun w hw hcut => ?_⟩
  · rw [hmarked] at hv
    obtain ⟨v₀, hv₀, rfl⟩ := List.mem_map.1 hv
    obtain ⟨w, hw, hwv⟩ := List.mem_map.1 (hstops ▸ List.mem_map_of_mem hv₀)
    by_cases h : v₀.item = u
    · have hw : w.isMeasure = false := by
        have hitem : w.item = u := by rw [← unheld_item, hwv, unheld_item, h]
        simpa [hitem] using (List.mem_filter.1 hw).2
      exact ⟨w, hw, by simp [h, hwv]⟩
    · simp [h] at hitem
  · have hkept : w.unheld ∈ (dropMeasures u m).media.stops.map Stop.unheld := by
      rw [hstops]
      exact List.mem_map_of_mem (List.mem_filter.2 ⟨hw, by simp [hcut]⟩)
    obtain ⟨v₀, hv₀, hwv⟩ := List.mem_map.1 hkept
    refine ⟨if v₀.item == u then v₀.unheld else v₀, hmarked ▸ List.mem_map_of_mem hv₀, ?_, fun hitem => ?_⟩
    · split
      · rw [← hwv]
        exact unheld_mapCut_hold false v₀
      · exact hwv
    · have hv : v₀.item = u := by rw [← unheld_item, hwv, unheld_item, hitem]
      simp [hv, hwv]

/-! ### The items marked, and the rows of their bands (R56, R67) -/

/-- R55: the mark itself. -/
theorem abortMarked_items (u : Nat) (s : State) :
    OnlyItem u Item.abortKey (mapItem u (fun i => { i with fate := .aborted, abortOrder := nextAbort s }) s)
      (abortMarked u s) :=
  (onlyItem_dropMeasures u _).trans (.of_items (by simp [abortMarked]))

theorem abortMarked_path (u : Nat) (s : State) :
    SameWork s (abortMarked u s) ∧ (abortMarked u s).colour.verify = s.colour.verify := by
  obtain ⟨-, -, hverify, hwork⟩ := dropMeasures_spec u
    (mapItem u (fun i => { i with fate := .aborted, abortOrder := nextAbort s }) s)
  exact ⟨hwork, hverify⟩

theorem isGutterOf_unique {o : Op} {a b : Nat} (ha : o.isGutterOf a = true) (hb : o.isGutterOf b = true) : a = b := by
  unfold Op.isGutterOf at ha hb
  split at ha
  · next n _ hwork => simp_all
  · simp at ha

/-- R50: a gutter is bound to one band, so the discard of another leaves it. -/
theorem discardRows_discardBand {a b : Band} (h : a.serial ≠ b.serial) (s : State) :
    discardRows (discardBand a s) b = discardRows s b := by
  obtain ⟨-, hpath, -⟩ := discardBand_spec a s
  have hother (o : Op) (hb : o.isGutterOf b.serial = true) : o ∉ lostGutters s a := fun ho => by
    unfold lostGutters at ho
    split at ho
    · simp at ho
    · exact h (isGutterOf_unique (List.mem_filter.1 ho).2 hb)
  have hlost : lostGutters (discardBand a s) b = lostGutters s b := by
    rw [lostGutters, hpath, List.filter_filter, lostGutters.eq_def s b]
    congr 1
    refine List.filter_congr fun o _ => ?_
    cases ho : o.isGutterOf b.serial with
    | false => rw [Bool.false_and]
    | true =>
      have hno : (lostGutters s a).contains o = false := by simpa using hother o ho
      rw [hno]
      rfl
  rw [discardRows, hlost, discardRows]

/-- R67: the rows that bands discarded together add to the abort feed. -/
theorem discardBands_rows {bands : List Band} (h : (bands.map Band.serial).Nodup) (s : State) :
    (discardBands bands s).2 = (bands.map (discardRows s)).sum := by
  induction bands generalizing s with
  | nil => rfl
  | cons b bands ih =>
    rw [List.map_cons, List.nodup_cons] at h
    obtain ⟨hb, hbands⟩ := h
    have hrest : bands.map (discardRows (discardBand b s)) = bands.map (discardRows s) :=
      List.map_congr_left fun a ha => discardRows_discardBand (fun heq => hb (heq.symm ▸ List.mem_map_of_mem ha)) s
    rw [List.map_cons, List.sum_cons, ← hrest, ← ih hbands (discardBand b s)]
    rfl

/-- R67: bands discarded together leave the store and the queue; no waiting abort feed and no operation in flight
changes. -/
theorem discardBands_path (bands : List Band) (s : State) :
    (discardBands bands s).1.path.abortWait = s.path.abortWait ∧
    (discardBands bands s).1.path.flight = s.path.flight ∧
    (discardBands bands s).1.path.queue ⊆ s.path.queue ∧
    (∀ b ∈ (discardBands bands s).1.path.store, b ∈ s.path.store ∧ b ∉ bands) ∧
    (discardBands bands s).1.ink.slots = s.ink.slots ∧ (discardBands bands s).1.ink.recent = s.ink.recent ∧
    (discardBands bands s).1.colour.verify = s.colour.verify := by
  induction bands generalizing s with
  | nil => simp [discardBands]
  | cons a bands ih =>
    obtain ⟨hwait, hflight, hqueue, hstore, hslots, hrecent, hverify⟩ := ih (discardBand a s)
    obtain ⟨-, hpath, hslots', hrecent', hverify'⟩ := discardBand_spec a s
    rw [hpath] at hwait hflight hqueue hstore
    refine ⟨hwait, hflight, fun q hq => (List.mem_filter.1 (hqueue hq)).1, fun b hb => ?_, hslots.trans hslots',
      hrecent.trans hrecent', hverify.trans hverify'⟩
    obtain ⟨hmem, hrest⟩ := hstore b hb
    obtain ⟨hmem, hne⟩ := List.mem_filter.1 hmem
    refine ⟨hmem, fun hin => ?_⟩
    obtain rfl | hin := List.mem_cons.1 hin
    · simp at hne
    · exact hrest hin

/-- R50: the rows of the gutters bound to a band. -/
theorem sum_gutterRows (n : Nat) (ops : List Op) :
    ((ops.filter (Op.isGutterOf n)).map Op.rows).sum =
      (ops.map fun o => match o.work with
        | .feed (.gutter k) rows => if k = n then rows else 0
        | _ => 0).sum := by
  induction ops with
  | nil => rfl
  | cons o ops ih =>
    rw [List.filter_cons, List.map_cons, List.sum_cons, ← ih]
    obtain ⟨serial, owner, work, rest⟩ := o
    cases work with
    | clean _ _ _ => simp [Op.isGutterOf]
    | feed src rows =>
      cases src with
      | gutter k => by_cases h : k = n <;> simp [Op.isGutterOf, Op.rows, h]
      | _ => simp [Op.isGutterOf]

/-- R55, R67: the rows of the bands that an abort discards, of distinct serials, are those of its rule. -/
theorem abortLost_rows {u : Nat} {s : State} (h : (s.path.store.map Band.serial).Nodup) :
    (abortLost u s).2 = abortRows u 0 s := by
  obtain ⟨⟨hstore, hwaiting, -⟩, -⟩ := abortMarked_path u s
  have hbands : abortDiscards u (abortMarked u s) = abortDiscards u s := by rw [abortDiscards, hstore, abortDiscards]
  have hrows (b : Band) : discardRows (abortMarked u s) b = discardRows s b := by
    rw [discardRows, lostGutters, hwaiting, discardRows, lostGutters]
  have hnodup : ((abortDiscards u s).map Band.serial).Nodup := h.sublist (List.filter_sublist.map _)
  rw [abortLost, hbands, discardBands_rows hnodup, funext hrows, abortRows, Nat.zero_add]
  refine congrArg List.sum (List.map_congr_left fun b _ => ?_)
  rw [discardRows, lostGutters]
  split
  · rfl
  · exact congrArg (b.rows + ·) (sum_gutterRows b.serial s.path.waiting)

end Sys2Proof.Machine

/-! ## The abort of an item, whole (R45, R55, R56, R136) -/

namespace Sys2Proof.Machine

/-! ### The times of the kept cuts (R136) -/

theorem flightBand_eq_some {s : State} {b : Nat} :
    flightBand s = some b ↔ ∃ f, s.path.flight = some f ∧ f.work = .band b := by
  unfold flightBand
  split
  · next hf => simp [hf]
  · next hno =>
    simp only [reduceCtorEq, false_iff, not_exists, not_and]
    intro f hf hb
    obtain ⟨opId, work, phase, elapsed, commanded, points, reported⟩ := f
    obtain rfl : work = .band b := hb
    exact hno _ _ _ _ _ _ _ hf

/-- R136: the time of a panel none of whose kept bands is in flight. -/
def settledTime (i : Item) (p : Panel) (fallback : Time) : Option Time × Option Nat :=
  match i.lastSettled with
  | some l => if p.firstBand ≤ l then (i.dryMark, none) else (some fallback, none)
  | none => (some fallback, none)

theorem keptTime_of_none {s : State} (h : flightBand s = none) (i : Item) (p : Panel) (fallback : Time) :
    keptTime s i p fallback = settledTime i p fallback := by
  simp only [keptTime, h]
  rfl

theorem keptTime_of_some {s : State} {b : Nat} (h : flightBand s = some b) (i : Item) (p : Panel) (fallback : Time) :
    keptTime s i p fallback =
      if p.firstBand ≤ b ∧ b ≤ p.lastBand then (none, some b) else settledTime i p fallback := by
  simp only [keptTime, h]
  rfl

theorem settledTime_spec (i : Item) (p : Panel) (fallback : Time) :
    (∀ l, i.lastSettled = some l → p.firstBand ≤ l →
      (settledTime i p fallback).1 = i.dryMark ∧ (settledTime i p fallback).2 = none) ∧
    ((∀ l, i.lastSettled = some l → l < p.firstBand) →
      (settledTime i p fallback).1 = some fallback ∧ (settledTime i p fallback).2 = none) := by
  unfold settledTime
  cases i.lastSettled with
  | none => simp
  | some l =>
    by_cases h : p.firstBand ≤ l
    · simp [h, Nat.not_lt.2 h]
    · simp [h]

/-- R136: the kept time rests on the band in flight alone. -/
theorem keptTime_spec {s t : State} (h : flightBand t = flightBand s) (i : Item) (p : Panel) (fallback : Time) :
    KeptTime s i p fallback (keptTime t i p fallback).1 (keptTime t i p fallback).2 := by
  refine ⟨fun f b hf hb hfirst hlast => ?_, fun hnot => ?_⟩
  · rw [keptTime_of_some (h.trans (flightBand_eq_some.2 ⟨f, hf, hb⟩)), if_pos ⟨hfirst, hlast⟩]
    exact ⟨rfl, rfl⟩
  · cases hband : flightBand s with
    | none =>
      rw [keptTime_of_none (h.trans hband)]
      exact settledTime_spec i p fallback
    | some b =>
      obtain ⟨f, hf, hb⟩ := flightBand_eq_some.1 hband
      rw [keptTime_of_some (h.trans hband), if_neg (hnot f b hf hb)]
      exact settledTime_spec i p fallback

/-- R136: what fixing the times does to one stop. -/
theorem fixStop_cases (s : State) (i : Item) (fallback : Time) (t : Stop) :
    fixStop s i fallback t = t ∨ ∃ c nb band, t.kind = .cut c ∧ c.notBefore = none ∧
      fixStop s i fallback t = { t with kind := .cut { c with notBefore := nb, lastBand := band } } := by
  unfold fixStop
  split
  · next c n hkind hpanel =>
    split
    · next hcut =>
      split
      · exact .inr ⟨c, _, _, hkind, hcut.2, rfl⟩
      · exact .inl rfl
    · exact .inl rfl
  · exact .inl rfl

theorem fixStop_of_absent {s : State} {i : Item} {fallback : Time} {t : Stop} {c : CutStop} {n : Nat} {p : Panel}
    (hkind : t.kind = .cut c) (hpanel : t.panel = some n) (hitem : t.item = i.uid) (hnone : c.notBefore = none)
    (hp : (i.panels.find? fun q => q.index == n) = some p) :
    fixStop s i fallback t = { t with kind := .cut { c with
      notBefore := (keptTime s i p fallback).1, lastBand := (keptTime s i p fallback).2 } } := by
  simp only [fixStop, hkind, hpanel, hp, if_pos (And.intro hitem hnone)]

/-! ### The last moves of the item (R52) -/

/-- The figures of an item that its last moves leave. -/
def Item.endKey (k : Item) : Fate × Nat × Nat × Nat × Option ItemState :=
  (k.fate, k.abortOrder, k.reservation, k.abortFeedRows, k.under)

/-- R52: the items `u` take no more rows: they are CLOSING, SETTLING or in COSTING. -/
def ItemEnding (u : Nat) (s : State) : Prop :=
  ∀ k ∈ s.items.live, k.uid = u → k.state = .closing ∨ k.state = .settling ∨ k.state = .costing

theorem mem_mapItem {u : Nat} {f : Item → Item} {s : State} {k : Item} :
    k ∈ (mapItem u f s).items.live ↔ ∃ k₀ ∈ s.items.live, (if k₀.uid = u then f k₀ else k₀) = k := List.mem_map

theorem mem_of_findItem {s : State} {u : Nat} {i : Item} (h : findItem s u = some i) : i ∈ s.items.live ∧ i.uid = u :=
  ⟨List.mem_of_find?_eq_some h, by simpa using List.find?_some h⟩

theorem findItem_mapItem_self {s : State} {u : Nat} {i : Item} {f : Item → Item} (hf : ∀ k, (f k).uid = k.uid)
    (hi : findItem s u = some i) : findItem (mapItem u f s) u = some (f i) := by
  obtain ⟨-, huid⟩ := mem_of_findItem hi
  rw [findItem_mapItem u u hf, hi, Option.map_some, if_pos huid]

/-- R52: what a move of an ending item leaves; its reservation is released before. -/
def MovedOn (u : Nat) (s t : State) : Prop :=
  ItemEnding u t ∧
  (∀ k ∈ t.items.live, ∃ k₀ ∈ s.items.live, k.uid = k₀.uid ∧ k.endKey = k₀.endKey ∧ (k.uid ≠ u → k = k₀)) ∧
  (∀ k ∈ s.items.live, k.uid ≠ u → k ∈ t.items.live) ∧
  t.media.stops = s.media.stops ∧ t.media.roll.reserved = s.media.roll.reserved ∧
  t.colour.verify = s.colour.verify

theorem MovedOn.trans {u : Nat} {r s t : State} (hr : MovedOn u r s) (hs : MovedOn u s t) : MovedOn u r t := by
  obtain ⟨-, horigin, hmem, hstops, hroll, hverify⟩ := hr
  obtain ⟨hending, horigin', hmem', hstops', hroll', hverify'⟩ := hs
  refine ⟨hending, fun k hk => ?_, fun k hk hu => hmem' k (hmem k hk hu) hu, hstops'.trans hstops, hroll'.trans hroll,
    hverify'.trans hverify⟩
  obtain ⟨k₁, hk₁, huid', hkey', hkeep'⟩ := horigin' k hk
  obtain ⟨k₀, hk₀, huid, hkey, hkeep⟩ := horigin k₁ hk₁
  exact ⟨k₀, hk₀, huid'.trans huid, hkey'.trans hkey, fun hu => (hkeep' hu).trans (hkeep (huid' ▸ hu))⟩

section Moves

variable {u : Nat} {s : State}

theorem MovedOn.refl (h : ItemEnding u s) : MovedOn u s s :=
  ⟨h, fun k hk => ⟨k, hk, rfl, rfl, fun _ => rfl⟩, fun _ hk _ => hk, rfl, rfl, rfl⟩

/-- R52: the item takes another state of its end, and a notice says so. -/
theorem movedOn_mapItem {f : Item → Item} {t : State} (huid : ∀ k, (f k).uid = k.uid)
    (hkey : ∀ k, (f k).endKey = k.endKey)
    (hstate : ∀ k, (f k).state = .closing ∨ (f k).state = .settling ∨ (f k).state = .costing)
    (hitems : t.items = (mapItem u f s).items) (hmedia : t.media = s.media) (hcolour : t.colour = s.colour) :
    MovedOn u s t := by
  have honly : OnlyItem u Item.endKey s t := (onlyItem_mapItem s huid hkey).trans (.of_items hitems)
  refine ⟨fun k hk hu => ?_, fun k hk => honly.origin hk, fun k hk hu => honly.mem_of_ne hk hu, by rw [hmedia],
    by rw [hmedia], by rw [hcolour]⟩
  obtain ⟨k₀, -, rfl⟩ := mem_mapItem.1 (hitems ▸ hk)
  by_cases hk₀ : k₀.uid = u
  · simpa [hk₀] using hstate k₀
  · simp [hk₀] at hu

theorem movedOn_toSettling (h : ItemEnding u s) : MovedOn u s (toSettling u s) := by
  unfold toSettling
  split
  · next i hi =>
    obtain ⟨hmem, huid⟩ := mem_of_findItem hi
    split
    · exact .refl h
    · split
      · exact movedOn_mapItem (f := fun k => { k with state := .settling }) (fun _ => rfl) (fun _ => rfl)
          (fun _ => .inr (.inl rfl)) (by simp) (by simp) (by simp)
      · split
        · next hheld => simpa [hheld.1] using h i hmem huid
        · exact .refl h
  · exact .refl h

theorem closeItem_stops (u : Nat) (s : State) : (closeItem u s).media.stops = s.media.stops := by
  unfold closeItem
  split
  · next i hi => simp [releaseReservation, hi]
  · rfl

/-- R52, R178: the pricing of an item whose reservation is released takes it from the live items. -/
theorem movedOn_priceItem (h : ItemEnding u s) (hfree : ∀ k ∈ s.items.live, k.uid = u → k.reservation = 0) :
    MovedOn u s (priceItem u s) := by
  unfold priceItem
  split
  · next i p hi hp =>
    obtain ⟨hmem, rfl⟩ := mem_of_findItem hi
    dsimp only
    generalize hw : mapJob i.job _ _ = w
    have hitems : w.items.live = s.items.live := by simp [← hw]
    obtain ⟨hlive, hroll, hcolour, -⟩ := closeItem_spec ((findItem_congr hitems i.uid).trans hi)
    have hmedia : w.media = s.media := by simp [← hw]
    have hverify : (closeItem i.uid w).colour.verify = s.colour.verify := by
      have hcount : (countPrint i w).colour.verify = w.colour.verify := by
        unfold countPrint
        split <;> rfl
      rw [hcolour, hcount, ← hw]
      simp
    rw [hitems] at hlive
    have hkept {k : Item} (hk : k ∈ (closeItem i.uid w).items.live) : k ∈ s.items.live ∧ k.uid ≠ i.uid := by
      simpa [hlive] using hk
    refine ⟨fun k hk hu => absurd hu (hkept hk).2, fun k hk => ⟨k, (hkept hk).1, rfl, rfl, fun _ => rfl⟩,
      fun k hk hu => by simp [hlive, hk, hu], (closeItem_stops _ _).trans (by rw [hmedia]), ?_, hverify⟩
    rw [hroll, hmedia, hfree i hmem rfl]
    rfl
  · exact .refl h

theorem movedOn_toCosting (h : ItemEnding u s) (hfree : ∀ k ∈ s.items.live, k.uid = u → k.reservation = 0) :
    MovedOn u s (toCosting u s) := by
  unfold toCosting
  split
  · split
    · dsimp only
      generalize hw : (raiseItem .costing u (mapItem u (fun k => { k with state := .costing }) s)).onCosting _ = w
      have hmoved : MovedOn u s w := by
        subst hw
        exact movedOn_mapItem (f := fun k => { k with state := .costing }) (fun _ => rfl) (fun _ => rfl)
          (fun _ => .inr (.inr rfl)) (by simp) (by simp) (by simp)
      split
      · obtain ⟨hending, horigin, -⟩ := id hmoved
        refine hmoved.trans (movedOn_priceItem hending fun k hk hu => ?_)
        obtain ⟨k₀, hk₀, huid, hkey, -⟩ := horigin k hk
        have hreservation : k.reservation = k₀.reservation := congrArg (fun x => x.2.2.1) hkey
        exact hreservation.trans (hfree k₀ hk₀ (huid ▸ hu))
      · exact hmoved
    · exact .refl h
  · exact .refl h

theorem movedOn_advanceItem (h : ItemEnding u s) (hfree : ∀ k ∈ s.items.live, k.uid = u → k.reservation = 0) :
    MovedOn u s (advanceItem u s) := by
  have hmoved := movedOn_toSettling h
  obtain ⟨hending, horigin, -⟩ := id hmoved
  refine hmoved.trans (movedOn_toCosting hending fun k hk hu => ?_)
  obtain ⟨k₀, hk₀, huid, hkey, -⟩ := horigin k hk
  have hreservation : k.reservation = k₀.reservation := congrArg (fun x => x.2.2.1) hkey
  exact hreservation.trans (hfree k₀ hk₀ (huid ▸ hu))

end Moves

/-! ### The items as the abort leaves them (R45, R55, R56) -/

section Items

variable {u : Nat} {i : Item} {s : State}

/-- R56: rows that join the abort feed are counted by the item. -/
theorem joinAbortFeed_items (u rows : Nat) (s : State) :
    (joinAbortFeed u rows s).items =
      (mapItem u (fun k => { k with abortFeedRows := k.abortFeedRows + rows }) s).items := by
  unfold joinAbortFeed
  split
  · next hrows => simp [mapItem, hrows]
  · dsimp only
    (repeat' split) <;> rfl

/-- R56: the rows that an abort adds to the abort feed. -/
def abortAdded (u : Nat) (i : Item) (s : State) : Nat := (abortLost u s).2 + (abortClosed u i s).2

theorem abortLost_items (u : Nat) (s : State) : OnlyItem u Item.abortKey
    (mapItem u (fun k => { k with fate := .aborted, abortOrder := nextAbort s }) s) (abortLost u s).1 := by
  refine (abortMarked_items u s).trans (onlyItem_discardBands (fun b hb => ?_) _)
  obtain ⟨-, hsel⟩ := List.mem_filter.1 hb
  simp only [Bool.and_eq_true, beq_iff_eq] at hsel
  exact hsel.1.1

theorem abortLost_find (hi : findItem s u = some i) : ∃ k, findItem (abortLost u s).1 u = some k ∧
    k.reservation = i.reservation ∧ k.openRows = i.openRows := by
  have hkey := (abortLost_items u s).find u
  have hmarked := findItem_mapItem_self (f := fun k => { k with fate := .aborted, abortOrder := nextAbort s })
    (fun _ => rfl) hi
  rw [hmarked, Option.map_some] at hkey
  obtain ⟨k, hk, hkey⟩ := Option.map_eq_some_iff.1 hkey
  simp only [Item.abortKey, Prod.mk.injEq] at hkey
  obtain ⟨-, -, hreservation, hrows, -⟩ := hkey
  exact ⟨k, hk, hreservation, hrows⟩

/-- R45: the roll gets the rows back that the item had reserved. -/
theorem abortTimed_spec (hi : findItem s u = some i) :
    (abortTimed u i s).items = (mapItem u (fun k => { k with reservation := 0 }) (abortLost u s).1).items ∧
    (abortTimed u i s).path = (abortLost u s).1.path ∧
    (abortTimed u i s).media.roll.reserved = s.media.roll.reserved - i.reservation := by
  obtain ⟨k, hk, hreservation, -⟩ := abortLost_find hi
  have hroll : (abortLost u s).1.media.roll.reserved = s.media.roll.reserved := by
    simp [abortLost, abortMarked_stops u s]
  refine ⟨by simp [abortTimed, releaseReservation, hk], by simp [abortTimed], ?_⟩
  simp [abortTimed, releaseReservation, hk, fixAbortTimes, hroll, hreservation]

/-- R49: the open rows of the item when its panel is to close. -/
theorem abortTimed_find (hi : findItem s u = some i) :
    ∃ k, findItem (abortTimed u i s) u = some k ∧ k.openRows = i.openRows := by
  obtain ⟨k, hk, -, hrows⟩ := abortLost_find hi
  obtain ⟨hitems, -⟩ := abortTimed_spec hi
  exact ⟨{ k with reservation := 0 }, (findItem_congr (congrArg ItemManager.live hitems) u).trans
    (findItem_mapItem_self (fun _ => rfl) hk), hrows⟩

/-- R45, R55: what the abort has made of the live items once the panel is closed. -/
theorem abortClosed_item (hi : findItem s u = some i) {k : Item} (hk : k ∈ (abortClosed u i s).1.items.live) :
    ∃ k₀ ∈ s.items.live, k.uid = k₀.uid ∧ (k.uid ≠ u → k = k₀) ∧
      (k.uid = u → k.closeKey = (.aborted, nextAbort s, 0, k₀.abortFeedRows)) := by
  obtain ⟨k₃, hk₃, huid₃, hkey₃, hkeep₃⟩ := (closeAborted_spec u (s.now + dryTime s) (abortTimed u i s)).1.origin hk
  rw [(abortTimed_spec hi).1] at hk₃
  obtain ⟨k₂, hk₂, rfl⟩ := mem_mapItem.1 hk₃
  obtain ⟨k₁, hk₁, huid₁, hkey₁, hkeep₁⟩ := (abortLost_items u s).origin hk₂
  obtain ⟨k₀, hk₀, rfl⟩ := mem_mapItem.1 hk₁
  refine ⟨k₀, hk₀, ?_⟩
  by_cases h : k₀.uid = u
  · simp_all [Item.abortKey, Item.closeKey]
  · simp_all

/-- R45, R55, R56: what the abort has made of the live items before its last moves. -/
theorem abortMoved_item (hi : findItem s u = some i) {k : Item} (hk : k ∈ (abortMoved u i s).items.live) :
    ∃ k₀ ∈ s.items.live, k.uid = k₀.uid ∧ (k.uid ≠ u → k = k₀) ∧ (k.uid = u →
      k.endKey = (.aborted, nextAbort s, 0, k₀.abortFeedRows + abortAdded u i s, none) ∧
      k.state = abortState u i s) := by
  obtain ⟨k₂, hk₂, rfl⟩ := mem_mapItem.1 hk
  rw [abortGathered, joinAbortFeed_items] at hk₂
  obtain ⟨k₁, hk₁, rfl⟩ := mem_mapItem.1 hk₂
  obtain ⟨k₀, hk₀, huid, hkeep, hself⟩ := abortClosed_item hi hk₁
  refine ⟨k₀, hk₀, ?_⟩
  by_cases h : k₁.uid = u
  · simp_all [Item.closeKey, Item.endKey, abortAdded]
  · simp_all

/-- R55: the jobs and the other items stay as they are until the last moves. -/
theorem onlyItem_abortMoved (hi : findItem s u = some i) : OnlyItem u (fun _ => ()) s (abortMoved u i s) := by
  have hmap (f : Item → Item) (r : State) (hf : ∀ k, (f k).uid = k.uid) :
      OnlyItem u (fun _ => ()) r (mapItem u f r) := onlyItem_mapItem r hf fun _ => rfl
  have hlost := (hmap (fun k => { k with fate := .aborted, abortOrder := nextAbort s }) s fun _ => rfl).trans
    ((abortLost_items u s).map fun _ => ())
  have htimed := (hlost.trans (hmap (fun k => { k with reservation := 0 }) _ fun _ => rfl)).trans
    (.of_items (abortTimed_spec hi).1)
  have hclosed := htimed.trans ((closeAborted_spec u (s.now + dryTime s) (abortTimed u i s)).1.map fun _ => ())
  have hgathered : OnlyItem u (fun _ => ()) s (abortGathered u i s) :=
    (hclosed.trans
      (hmap (fun k => { k with abortFeedRows := k.abortFeedRows + abortAdded u i s }) _ fun _ => rfl)).trans
      (.of_items (joinAbortFeed_items u (abortAdded u i s) (abortClosed u i s).1))
  exact hgathered.trans (hmap (fun k => { k with state := abortState u i s, under := none }) _ fun _ => rfl)

theorem abortState_ending (u : Nat) (i : Item) (s : State) :
    abortState u i s = .closing ∨ abortState u i s = .settling := by
  unfold abortState
  split
  · exact .inl rfl
  · exact .inr rfl

/-- R52: the last moves of an aborted item, with their notices. -/
theorem movedOn_abortItem (hi : findItem s u = some i) (hfate : i.fate ≠ .aborted) (hstate : i.state ≠ .costing)
    (c : AbortCause) : MovedOn u (abortMoved u i s) (abortItem u c s) := by
  have hmoved {k : Item} (hk : k ∈ (abortMoved u i s).items.live) (hu : k.uid = u) :
      (k.state = .closing ∨ k.state = .settling ∨ k.state = .costing) ∧ k.reservation = 0 := by
    obtain ⟨k₀, -, -, -, hself⟩ := abortMoved_item hi hk
    obtain ⟨hkey, hstate⟩ := hself hu
    simp only [Item.endKey, Prod.mk.injEq] at hkey
    obtain ⟨-, -, hreservation, -⟩ := hkey
    exact ⟨hstate ▸ (abortState_ending u i s).imp id .inl, hreservation⟩
  rw [abortItem_eq hi hfate hstate]
  have hraised : MovedOn u (abortMoved u i s) (raiseItem (if abortState u i s = .closing then .closing else .settling) u
      (raiseItem (.aborted c) u (abortMoved u i s))) := by
    refine ⟨fun k hk hu => ?_, fun k hk => ?_, fun k hk _ => by simpa using hk, by simp, by simp, by simp⟩
    · exact (hmoved (by simpa using hk) hu).1
    · exact ⟨k, by simpa using hk, rfl, rfl, fun _ => rfl⟩
  obtain ⟨hending, -⟩ := id hraised
  exact hraised.trans (movedOn_advanceItem hending fun k hk hu => (hmoved (by simpa using hk) hu).2)

/-- R45, R52, R55, R56: the items once the abort is done. -/
theorem abortItem_item (hi : findItem s u = some i) (hfate : i.fate ≠ .aborted) (hstate : i.state ≠ .costing)
    (c : AbortCause) {k : Item} (hk : k ∈ (abortItem u c s).items.live) :
    ∃ k₀ ∈ s.items.live, k.uid = k₀.uid ∧ (k.uid ≠ u → k = k₀) ∧ (k.uid = u →
      k.fate = .aborted ∧ k.abortOrder = nextAbort s ∧ k.reservation = 0 ∧ k.under = none ∧
      k.abortFeedRows = k₀.abortFeedRows + abortAdded u i s ∧
      (k.state = .closing ∨ k.state = .settling ∨ k.state = .costing)) := by
  obtain ⟨hending, horigin, -⟩ := movedOn_abortItem hi hfate hstate c
  obtain ⟨k₁, hk₁, huid₁, hkey₁, hkeep₁⟩ := horigin k hk
  obtain ⟨k₀, hk₀, huid₀, hkeep₀, hself⟩ := abortMoved_item hi hk₁
  refine ⟨k₀, hk₀, huid₁.trans huid₀, fun hu => (hkeep₁ hu).trans (hkeep₀ (huid₁ ▸ hu)), fun hu => ?_⟩
  obtain ⟨hkey, -⟩ := hself (huid₁ ▸ hu)
  have hkey := hkey₁.trans hkey
  simp only [Item.endKey, Prod.mk.injEq] at hkey
  obtain ⟨hfate, horder, hreservation, hrows, hunder⟩ := hkey
  exact ⟨hfate, horder, hreservation, hunder, hrows, hending k hk hu⟩

end Items

end Sys2Proof.Machine

/-! ## What an abort has done once its command ends (R45, R55, R56, R136) -/

namespace Sys2Proof.Machine

section Aborted

variable {u : Nat} {i : Item} {s : State}

/-! ### The stops -/

theorem abortItem_media (hi : findItem s u = some i) (hfate : i.fate ≠ .aborted) (hstate : i.state ≠ .costing)
    (c : AbortCause) :
    (abortItem u c s).media.roll.reserved = s.media.roll.reserved - i.reservation ∧
    (∀ v ∈ (abortTimed u i s).media.stops, v ∈ (abortItem u c s).media.stops) ∧
    ∀ v ∈ (abortItem u c s).media.stops, v ∈ (abortTimed u i s).media.stops ∨
      v.item = u ∧ ∃ c, v.kind = .cut c ∧ c.hold = false := by
  obtain ⟨-, -, -, hstops, hroll, -⟩ := movedOn_abortItem hi hfate hstate c
  obtain ⟨-, -, hreserved, hkept, hnew⟩ := closeAborted_spec u (s.now + dryTime s) (abortTimed u i s)
  obtain ⟨-, -, hreleased⟩ := abortTimed_spec hi
  have hmedia : (abortMoved u i s).media = (abortClosed u i s).1.media := by simp [abortMoved, abortGathered]
  rw [hstops, hroll, hmedia]
  exact ⟨hreserved.trans hreleased, hkept, hnew⟩

/-- The state whose band in flight R136 looks at. -/
def abortReleased (u : Nat) (s : State) : State := releaseReservation u (abortLost u s).1

theorem abortTimed_stops (u : Nat) (i : Item) (s : State) : (abortTimed u i s).media.stops =
    (abortMarked u s).media.stops.map (fixStop (abortReleased u s) i (s.now + dryTime s)) := by
  have hstops : (abortReleased u s).media.stops = (abortMarked u s).media.stops := by
    unfold abortReleased releaseReservation
    split <;> simp [abortLost]
  rw [← hstops]
  rfl

theorem flightBand_abortReleased (u : Nat) (s : State) : flightBand (abortReleased u s) = flightBand s := by
  obtain ⟨-, hflight, -⟩ := discardBands_path (abortDiscards u (abortMarked u s)) (abortMarked u s)
  obtain ⟨⟨-, -, -, -, hband, -⟩, -⟩ := abortMarked_path u s
  rw [← hband]
  simp only [flightBand, abortReleased, releaseReservation_frame, abortLost, hflight]

@[simp] theorem fixStop_place (t : State) (j : Item) (fallback : Time) (v : Stop) :
    (fixStop t j fallback v).uid = v.uid ∧ (fixStop t j fallback v).position = v.position ∧
    (fixStop t j fallback v).item = v.item := by
  obtain heq | ⟨c, nb, band, -, -, heq⟩ := fixStop_cases t j fallback v <;> simp [heq]

theorem unheld_of_cut {w : Stop} {c : CutStop} (h : w.kind = .cut c) :
    w.unheld = { w with kind := .cut { c with hold := false } } := by
  simp [Stop.unheld, Stop.mapCut, h]

theorem exists_cut_of_isMeasure {w : Stop} (h : w.isMeasure = false) : ∃ c, w.kind = .cut c := by
  obtain ⟨_, _, _, _, _, kind⟩ := w
  cases kind with
  | cut c => exact ⟨c, rfl⟩
  | measure m => simp [Stop.isMeasure, Stop.cut?] at h

/-- R55: the item's measure stops are gone, and its cut stops have no hold. -/
theorem abortItem_cuts (hi : findItem s u = some i) (hfate : i.fate ≠ .aborted) (hstate : i.state ≠ .costing)
    (c : AbortCause) {v : Stop} (hv : v ∈ (abortItem u c s).media.stops) (hu : v.item = u) :
    ∃ c, v.kind = .cut c ∧ c.hold = false := by
  obtain ⟨-, -, hnew⟩ := abortItem_media hi hfate hstate c
  obtain ⟨-, hcuts, -⟩ := abortMarked_stops u s
  obtain hv | ⟨-, hcut⟩ := hnew v hv
  · rw [abortTimed_stops] at hv
    obtain ⟨v₀, hv₀, rfl⟩ := List.mem_map.1 hv
    obtain ⟨w, hw, rfl⟩ := hcuts v₀ hv₀ (by simpa using hu)
    obtain ⟨c, hc⟩ := exists_cut_of_isMeasure hw
    obtain heq | ⟨d, nb, band, hkind, -, heq⟩ := fixStop_cases (abortReleased u s) i (s.now + dryTime s) w.unheld
    · exact ⟨_, by rw [heq, unheld_of_cut hc], rfl⟩
    · rw [unheld_of_cut hc] at hkind
      simp only [StopKind.cut.injEq] at hkind
      exact ⟨_, by rw [heq], by rw [← hkind]⟩
  · exact hcut

/-- R55: cut stops stay where they are. -/
theorem abortItem_kept (hi : findItem s u = some i) (hfate : i.fate ≠ .aborted) (hstate : i.state ≠ .costing)
    (c : AbortCause) {w : Stop} (hw : w ∈ s.media.stops) (hcut : w.isMeasure = false) :
    ∃ v ∈ (abortItem u c s).media.stops, v.uid = w.uid ∧ v.position = w.position := by
  obtain ⟨-, hkept, -⟩ := abortItem_media hi hfate hstate c
  obtain ⟨-, -, hall⟩ := abortMarked_stops u s
  obtain ⟨v, hv, hvw, -⟩ := hall w hw hcut
  refine ⟨fixStop (abortReleased u s) i (s.now + dryTime s) v,
    hkept _ (abortTimed_stops u i s ▸ List.mem_map_of_mem hv), ?_⟩
  simpa using unheld_place hvw

/-- R136: a cut of a panel of the item keeps the time it has, and gets one where it has none. -/
theorem fixStop_cut (t : State) {j : Item} (fallback : Time) {w : Stop} {c : CutStop} {n : Nat}
    (hkind : w.kind = .cut c) (hpanel : w.panel = some n) (hitem : w.item = j.uid) :
    ∃ d, fixStop t j fallback w = { w with kind := .cut d } ∧ d.role = c.role ∧ d.cutRow = c.cutRow ∧
      d.hold = c.hold ∧ (c.notBefore ≠ none → d.notBefore = c.notBefore ∧ d.lastBand = c.lastBand) ∧
      ∀ p, c.notBefore = none → (j.panels.find? fun q => q.index == n) = some p →
        (d.notBefore, d.lastBand) = keptTime t j p fallback := by
  by_cases hfix : c.notBefore = none ∧ ∃ p, (j.panels.find? fun q => q.index == n) = some p
  · obtain ⟨hnone, p, hp⟩ := hfix
    refine ⟨_, fixStop_of_absent hkind hpanel hitem hnone hp, rfl, rfl, rfl, fun h => absurd hnone h, fun q _ hq => ?_⟩
    obtain rfl := Option.some.inj (hp.symm.trans hq)
    rfl
  · have hno (p : Panel) (hnone : c.notBefore = none) (hp : (j.panels.find? fun q => q.index == n) = some p)
        {motive : Prop} : motive := absurd ⟨hnone, p, hp⟩ hfix
    obtain heq | ⟨d, nb, band, hd, habsent, heq⟩ := fixStop_cases t j fallback w
    · exact ⟨c, by rw [heq, ← hkind], rfl, rfl, rfl, fun _ => ⟨rfl, rfl⟩, fun p hnone hp => hno p hnone hp⟩
    · obtain rfl : c = d := StopKind.cut.inj (hkind.symm.trans hd)
      exact ⟨_, heq, rfl, rfl, rfl, fun h => absurd habsent h, fun p hnone hp => hno p hnone hp⟩

/-- R136: the item's cuts of its panels have a time, or the band that will fix it. -/
theorem abortItem_times (hi : findItem s u = some i) (hfate : i.fate ≠ .aborted) (hstate : i.state ≠ .costing)
    (cause : AbortCause) {w : Stop} (hw : w ∈ s.media.stops) (hu : w.item = u) {c : CutStop} {n : Nat}
    (hkind : w.kind = .cut c) (hpanel : w.panel = some n) :
    ∃ v ∈ (abortItem u cause s).media.stops, ∃ d, v.uid = w.uid ∧ v.position = w.position ∧ v.panel = w.panel ∧
      v.kind = .cut d ∧ d.role = c.role ∧ d.cutRow = c.cutRow ∧ d.hold = false ∧
      (c.notBefore ≠ none → d.notBefore = c.notBefore ∧ d.lastBand = c.lastBand) ∧
      ∀ p, c.notBefore = none → (i.panels.find? fun q => q.index == n) = some p →
        KeptTime s i p (s.now + dryTime s) d.notBefore d.lastBand := by
  obtain ⟨-, hkept, -⟩ := abortItem_media hi hfate hstate cause
  obtain ⟨-, -, hall⟩ := abortMarked_stops u s
  obtain ⟨-, huid⟩ := mem_of_findItem hi
  obtain ⟨v, hv, -, hself⟩ := hall w hw (by simp [Stop.isMeasure, Stop.cut?, hkind])
  obtain rfl := hself hu
  obtain ⟨d, heq, hrole, hrow, hhold, hset, habsent⟩ := fixStop_cut (abortReleased u s) (s.now + dryTime s)
    (w := { w with kind := .cut { c with hold := false } }) rfl hpanel (hu.trans huid.symm)
  rw [← unheld_of_cut hkind] at heq
  refine ⟨_, hkept _ (abortTimed_stops u i s ▸ List.mem_map_of_mem hv), d, ?_⟩
  rw [heq, unheld_of_cut hkind]
  refine ⟨rfl, rfl, rfl, rfl, hrole, hrow, hhold, hset, fun p hnone hp => ?_⟩
  have hkept := keptTime_spec (flightBand_abortReleased u s) i p (s.now + dryTime s)
  rwa [← habsent p hnone hp] at hkept

/-! ### The bands and the abort feed -/

theorem abortClosed_path (hi : findItem s u = some i) : (abortClosed u i s).1.path = (abortLost u s).1.path := by
  obtain ⟨-, hpath, -⟩ := closeAborted_spec u (s.now + dryTime s) (abortTimed u i s)
  obtain ⟨-, htimed, -⟩ := abortTimed_spec hi
  exact hpath.trans htimed

theorem abortItem_path (hi : findItem s u = some i) (hfate : i.fate ≠ .aborted) (hstate : i.state ≠ .costing)
    (c : AbortCause) : (abortItem u c s).path = (joinAbortFeed u (abortAdded u i s) (abortClosed u i s).1).path := by
  rw [abortItem_eq hi hfate hstate]
  simp [abortMoved, abortGathered, abortAdded]

theorem joinAbortFeed_store (u rows : Nat) (s : State) : (joinAbortFeed u rows s).path.store = s.path.store := by
  unfold joinAbortFeed
  split
  · rfl
  · dsimp only
    (repeat' split) <;> rfl

/-- R55, R67: of the item's bands only one in flight or being counted is left. -/
theorem abortItem_bands (hi : findItem s u = some i) (hfate : i.fate ≠ .aborted) (hstate : i.state ≠ .costing)
    (c : AbortCause) {b : Band} (hb : b ∈ (abortItem u c s).path.store) (hu : b.item = u) :
    b.state = .inFlight ∨ b.state = .counting := by
  rw [abortItem_path hi hfate hstate, joinAbortFeed_store, abortClosed_path hi] at hb
  obtain ⟨-, -, -, hstore, -⟩ := discardBands_path (abortDiscards u (abortMarked u s)) (abortMarked u s)
  obtain ⟨hmem, hnot⟩ := hstore b hb
  by_contra hother
  rw [not_or] at hother
  exact hnot (List.mem_filter.2 ⟨hmem, by simp [hu, hother]⟩)

theorem isAbortFeed_iff (u : Nat) (o : Op) : o.isAbortFeed u = true ↔ WaitingAbortFeed u o := by
  obtain ⟨serial, owner, work, rest⟩ := o
  cases work with
  | clean _ _ _ => simp [Op.isAbortFeed, WaitingAbortFeed]
  | feed src rows => cases src <;> simp [Op.isAbortFeed, WaitingAbortFeed]

theorem insertAbort_of_last {s : State} {o : Op} {l : List Op} (h : ∀ w ∈ l, w.abortOrder s ≤ o.abortOrder s) :
    insertAbort s o l = l ++ [o] := by
  induction l with
  | nil => rfl
  | cons w l ih =>
    rw [insertAbort, if_neg (Nat.not_lt.2 (h w (by simp))), ih fun w hw => h w (by simp [hw]), List.cons_append]

theorem abortOrder_le {s : State} {n : Nat} (h : ∀ k ∈ s.items.live, k.abortOrder ≤ n) (o : Op) :
    o.abortOrder s ≤ n := by
  rw [Op.abortOrder]
  cases hk : o.owner.bind (findItem s) with
  | none => exact Nat.zero_le n
  | some k =>
    obtain ⟨v, -, hv⟩ := Option.bind_eq_some_iff.1 hk
    exact h k (mem_of_findItem hv).1

/-- R56: the abort FEED that arises, where none of the item waits. -/
def newAbortFeed (u rows : Nat) (s : State) : Op :=
  { serial := s.path.nextArise, owner := some u, work := .feed .abort rows, rest := false }

/-- R68: an operation that enters the queue holds at most one place more. -/
theorem placesHeld_append_le {s t : State} {o : Op} (hwaiting : t.path.waiting = s.path.waiting)
    (hqueue : t.path.queue = s.path.queue ++ [.op o]) (hflight : flightOp t = flightOp s) :
    placesHeld t ≤ placesHeld s + 1 := by
  have hone : ([o].countP fun o => !o.inBandPlace) ≤ 1 := List.countP_le_length
  simp only [placesHeld, hwaiting, hqueue, hflight, List.filterMap_append, List.countP_append]
  have hop : [QEntry.op o].filterMap QEntry.op? = [o] := rfl
  rw [hop]
  omega

/-- R56, R68: rows of an item with no waiting abort feed make a new one, behind those of the aborts before. -/
theorem joinAbortFeed_arose {rows : Nat} (hrows : 0 < rows)
    (hnew : ∀ o ∈ s.path.abortWait ++ s.path.queue.filterMap QEntry.op?, ¬WaitingAbortFeed u o)
    (hi : findItem s u = some i) (hlast : ∀ k ∈ s.items.live, k.abortOrder ≤ i.abortOrder) :
    AbortFeedArose u rows s (joinAbortFeed u rows s) := by
  have hwait : s.path.abortWait.any (Op.isAbortFeed u) = false :=
    List.any_eq_false.2 fun o ho => by rw [isAbortFeed_iff]; exact hnew o (by simp [ho])
  have hqueue : (s.path.queue.filterMap QEntry.op?).any (Op.isAbortFeed u) = false :=
    List.any_eq_false.2 fun o ho => by rw [isAbortFeed_iff]; exact hnew o (List.mem_append_right _ ho)
  let m := mapItem u (fun k => { k with abortFeedRows := k.abortFeedRows + rows }) s
  have hinsert : insertAbort m (newAbortFeed u rows s) s.path.abortWait =
      s.path.abortWait ++ [newAbortFeed u rows s] := by
    have hself : (newAbortFeed u rows s).abortOrder m = i.abortOrder := by
      have hfind : findItem m u = some { i with abortFeedRows := i.abortFeedRows + rows } :=
        findItem_mapItem_self (fun _ => rfl) hi
      simp [Op.abortOrder, newAbortFeed, hfind]
    refine insertAbort_of_last fun w _ => hself ▸ abortOrder_le (fun k hk => ?_) w
    obtain ⟨k₀, hk₀, rfl⟩ := mem_mapItem.1 hk
    split
    · exact hlast k₀ hk₀
    · exact hlast k₀ hk₀
  have hjoin : joinAbortFeed u rows s = m.onPath fun p => { p with
      nextArise := p.nextArise + 1,
      queue := if placeFree m && s.path.abortWait.isEmpty then p.queue ++ [.op (newAbortFeed u rows s)] else p.queue,
      abortWait := if placeFree m && s.path.abortWait.isEmpty then p.abortWait else
        insertAbort m (newAbortFeed u rows s) p.abortWait } := by
    simp only [joinAbortFeed, if_neg hrows.ne', mapItem_frame, hwait, hqueue, Bool.false_eq_true, if_false]
    rfl
  refine ⟨newAbortFeed u rows s, rfl, rfl, rfl, ?_⟩
  rw [hjoin]
  by_cases hfree : (placeFree m && s.path.abortWait.isEmpty) = true
  · rw [hfree]
    rw [Bool.and_eq_true, List.isEmpty_iff, placeFree, decide_eq_true_eq] at hfree
    obtain ⟨hplace, hempty⟩ := hfree
    refine .inl ⟨hempty, ?_, hempty, by simp⟩
    exact Nat.le_trans (placesHeld_append_le (s := m) (o := newAbortFeed u rows s) rfl rfl rfl) hplace
  · rw [Bool.eq_false_of_not_eq_true hfree]
    refine .inr ⟨?_, hinsert⟩
    simp only [Bool.and_eq_true, List.isEmpty_iff, placeFree, decide_eq_true_eq] at hfree
    by_cases hempty : s.path.abortWait = []
    · exact .inr (Nat.not_lt.1 fun hplace => hfree ⟨hplace, hempty⟩)
    · exact .inl hempty

/-- R56: the rows that the abort of an item adds to its abort feed, with the gutter `g` of its open panel. -/
theorem abortAdded_eq (hi : findItem s u = some i) (hserials : (s.path.store.map Band.serial).Nodup) :
    abortAdded u i s = abortRows u (abortGutter i s) s := by
  obtain ⟨k, hk, hrows⟩ := abortTimed_find hi
  obtain ⟨-, -, htables, -⟩ := abortTimed_frame u i s
  have hgutter : (closeAborted u (s.now + dryTime s) (abortTimed u i s)).2 = abortGutter i s := by
    rw [closeAborted_rows hk, abortGutter, hrows, htables, abortGutter]
  rw [abortAdded, abortLost_rows hserials, abortClosed, hgutter, abortRows, abortRows, Nat.zero_add, Nat.add_comm]

/-- R56: the abort is the last of the live items'. -/
theorem abortClosed_last (hi : findItem s u = some i) : ∃ k, findItem (abortClosed u i s).1 u = some k ∧
    ∀ j ∈ (abortClosed u i s).1.items.live, j.abortOrder ≤ k.abortOrder := by
  obtain ⟨k₀, hk₀, -⟩ := abortTimed_find hi
  obtain ⟨honly, -⟩ := closeAborted_spec u (s.now + dryTime s) (abortTimed u i s)
  have hfind := honly.find u
  rw [hk₀] at hfind
  obtain ⟨k, hk, -⟩ := Option.map_eq_some_iff.1 hfind
  have horder {j : Item} (hj : j ∈ (abortClosed u i s).1.items.live) (hu : j.uid = u) : j.abortOrder = nextAbort s := by
    obtain ⟨_, -, -, -, hself⟩ := abortClosed_item hi hj
    exact congrArg (fun x => x.2.1) (hself hu)
  obtain ⟨hmem, huid⟩ := mem_of_findItem hk
  refine ⟨k, hk, fun j hj => ?_⟩
  rw [horder hmem huid]
  by_cases hu : j.uid = u
  · exact (horder hj hu).le
  · obtain ⟨j₀, hj₀, -, hkeep, -⟩ := abortClosed_item hi hj
    rw [hkeep hu]
    exact (abortOrder_lt_nextAbort s j₀ hj₀).le

/-- R56: what the abort has done to the abort feed of an item with none that waits. -/
theorem abortItem_feed (hi : findItem s u = some i) (hfate : i.fate ≠ .aborted) (hstate : i.state ≠ .costing)
    (c : AbortCause)
    (hnew : ∀ o ∈ s.path.abortWait ++ s.path.queue.filterMap QEntry.op?, ¬WaitingAbortFeed u o) :
    (abortAdded u i s = 0 → (abortItem u c s).path.abortWait = s.path.abortWait) ∧
    (0 < abortAdded u i s → AbortFeedArose u (abortAdded u i s) s (abortItem u c s)) := by
  obtain ⟨hwait, -, hqueue, -⟩ := discardBands_path (abortDiscards u (abortMarked u s)) (abortMarked u s)
  obtain ⟨⟨-, -, hmwait, hmqueue, -⟩, -⟩ := abortMarked_path u s
  have hpath := abortItem_path hi hfate hstate c
  have hclosed := abortClosed_path hi
  have hwait : (abortClosed u i s).1.path.abortWait = s.path.abortWait := by rw [hclosed, ← hmwait, ← hwait, abortLost]
  have hqueue : (abortClosed u i s).1.path.queue ⊆ s.path.queue := fun q hq => hmqueue ▸ hqueue (hclosed ▸ hq)
  refine ⟨fun hzero => by rw [hpath, hzero]; exact hwait, fun hpos => ?_⟩
  obtain ⟨k, hk, hlast⟩ := abortClosed_last hi
  have harose := joinAbortFeed_arose hpos (fun o ho => hnew o ?_) hk hlast
  · simpa only [AbortFeedArose, placesHeld, flightOp, hpath, hwait] using harose
  · rw [hwait, List.mem_append] at ho
    refine List.mem_append.2 (ho.imp id fun ho => ?_)
    obtain ⟨q, hq, hop⟩ := List.mem_filterMap.1 ho
    exact List.mem_filterMap.2 ⟨q, hqueue hq, hop⟩

/-! ### Frames -/

theorem abortItem_untouched (hi : findItem s u = some i) (hfate : i.fate ≠ .aborted) (hstate : i.state ≠ .costing)
    (c : AbortCause) :
    (abortItem u c s).ink.slots = s.ink.slots ∧ (abortItem u c s).ink.recent = s.ink.recent ∧
    (abortItem u c s).colour.verify = s.colour.verify := by
  obtain ⟨-, -, -, -, hslots, hrecent, hverify⟩ := discardBands_path (abortDiscards u (abortMarked u s))
      (abortMarked u s)
  obtain ⟨-, hmarked⟩ := abortMarked_path u s
  obtain ⟨-, -, -, hmink, -⟩ := abortMarked_frame u s
  obtain ⟨-, -, -, -, -, hmoved⟩ := movedOn_abortItem hi hfate hstate c
  have hlink : (abortItem u c s).ink = (abortLost u s).1.ink := by
    rw [abortItem_eq hi hfate hstate]
    simp [abortMoved, abortGathered, abortClosed, abortTimed]
  have hcolour : (abortMoved u i s).colour = (abortLost u s).1.colour := by
    simp [abortMoved, abortGathered, abortClosed, abortTimed]
  rw [hlink, hmoved, hcolour]
  exact ⟨hslots.trans (by rw [hmink]), hrecent.trans (by rw [hmink]), hverify.trans hmarked⟩

/-- R45, R55, R56, R136: the abort of a live item that is COMPLETE so far and not in COSTING. -/
theorem abortedBy_abortItem (hi : findItem s u = some i) (hfate : i.fate = .complete) (hstate : i.state ≠ .costing)
    (c : AbortCause) : AbortedBy u s (abortItem u c s) := by
  have hfate : i.fate ≠ .aborted := by rw [hfate]; decide
  obtain ⟨hnow, hpending, htables, hcal, -⟩ := abortItem_frame u c s
  obtain ⟨hslots, hrecent, hverify⟩ := abortItem_untouched hi hfate hstate c
  obtain ⟨hreserved, -⟩ := abortItem_media hi hfate hstate c
  obtain ⟨-, -, hmem, -⟩ := movedOn_abortItem hi hfate hstate c
  refine ⟨fun k hk hu => ?_, fun v hv hu => abortItem_cuts hi hfate hstate c hv hu,
    fun w hw hcut => abortItem_kept hi hfate hstate c hw hcut, fun j hj w hw hu d n hkind hpanel => ?_,
    fun b hb hu => abortItem_bands hi hfate hstate c hb hu, fun k hk hu => hmem k
        ((onlyItem_abortMoved hi).mem_of_ne hk hu) hu,
    fun j hj => ?_, hnow, hpending, htables, hslots, hrecent, hcal, hverify⟩
  · obtain ⟨_, -, -, -, hself⟩ := abortItem_item hi hfate hstate c hk
    obtain ⟨haborted, horder, hreservation, hunder, -, hending⟩ := hself hu
    refine ⟨haborted, hreservation, hunder, hending, fun j hj hju => ?_⟩
    obtain ⟨j₀, hj₀, -, hkeep, -⟩ := abortItem_item hi hfate hstate c hj
    rw [horder, hkeep hju]
    exact abortOrder_lt_nextAbort s j₀ hj₀
  · obtain rfl := Option.some.inj (hi.symm.trans hj)
    exact abortItem_times hi hfate hstate c hw hu hkind hpanel
  · obtain rfl := Option.some.inj (hi.symm.trans hj)
    refine ⟨hreserved, fun g rows hserials huids hg hrows hnew => ?_⟩
    obtain rfl : g = abortGutter i s := hg
    obtain rfl : abortAdded u i s = rows := (abortAdded_eq hi hserials).trans hrows.symm
    obtain ⟨hzero, hpos⟩ := abortItem_feed hi hfate hstate c hnew
    refine ⟨hzero, hpos, fun k hk hu => ?_⟩
    obtain ⟨k₀, hk₀, huid, -, hself⟩ := abortItem_item hi hfate hstate c hk
    obtain ⟨-, -, -, -, hfeed, -⟩ := hself hu
    obtain ⟨hmem, hself⟩ := mem_of_findItem hi
    obtain rfl : k₀ = i := List.inj_on_of_nodup_map huids hk₀ hmem (huid.symm.trans (hu.trans hself.symm))
    exact hfeed

end Aborted

end Sys2Proof.Machine

/-! ## What stands in the hold changes nothing of a link reset (R17) -/

namespace Sys2Proof.Machine

/-- The state with another hold. -/
def State.withHold (h : List HoldEntry) (s : State) : State := s.onLink fun l => { l with hold := h }

section Hold

variable (h : List HoldEntry) (s : State)

@[simp] theorem withHold_frame :
    (s.withHold h).now = s.now ∧ (s.withHold h).tables = s.tables ∧ (s.withHold h).items = s.items ∧
    (s.withHold h).path = s.path ∧ (s.withHold h).ink = s.ink ∧ (s.withHold h).media = s.media ∧
    (s.withHold h).cutter = s.cutter ∧ (s.withHold h).colour = s.colour ∧ (s.withHold h).costing = s.costing :=
  ⟨rfl, rfl, rfl, rfl, rfl, rfl, rfl, rfl, rfl⟩

@[simp] theorem onItems_withHold (f : ItemManager → ItemManager) :
    (s.withHold h).onItems f = (s.onItems f).withHold h := rfl
@[simp] theorem onPath_withHold (f : BandPath → BandPath) : (s.withHold h).onPath f = (s.onPath f).withHold h := rfl
@[simp] theorem onInk_withHold (f : InkStation → InkStation) : (s.withHold h).onInk f = (s.onInk f).withHold h := rfl
@[simp] theorem onCutter_withHold (f : Cutter → Cutter) : (s.withHold h).onCutter f = (s.onCutter f).withHold h := rfl
@[simp] theorem onColour_withHold (f : Colour → Colour) : (s.withHold h).onColour f = (s.onColour f).withHold h := rfl
@[simp] theorem onCosting_withHold (f : Costing → Costing) : (s.withHold h).onCosting f =
    (s.onCosting f).withHold h := rfl
@[simp] theorem send_withHold (o : Output) : (s.withHold h).send o = (s.send o).withHold h := rfl
@[simp] theorem mapItem_withHold (u : Nat) (f : Item → Item) :
    mapItem u f (s.withHold h) = (mapItem u f s).withHold h := rfl
@[simp] theorem mapJob_withHold (n : Nat) (f : Job → Job) : mapJob n f (s.withHold h) = (mapJob n f s).withHold h := rfl
@[simp] theorem mapEdition_withHold (n : Nat) (f : Edition → Edition) :
    mapEdition n f (s.withHold h) = (mapEdition n f s).withHold h := rfl
@[simp] theorem mapCuts_withHold (p : Stop → Bool) (f : CutStop → CutStop) :
    mapCuts p f (s.withHold h) = (mapCuts p f s).withHold h := rfl
@[simp] theorem findItem_withHold (u : Nat) : findItem (s.withHold h) u = findItem s u := rfl
@[simp] theorem findJob_withHold (n : Nat) : findJob (s.withHold h) n = findJob s n := rfl
@[simp] theorem panelVerdict_withHold (u n : Nat) : panelVerdict (s.withHold h) u n = panelVerdict s u n := rfl
@[simp] theorem heldStop_withHold : heldStop (s.withHold h) = heldStop s := rfl

/-- R13: a notice joins or displaces whatever the hold holds. -/
theorem queueNotice_withHold (e : Entry) (l : Link) :
    queueNotice e { l with hold := h } = { queueNotice e l with hold := h } := by
  simp only [queueNotice]
  (repeat' split) <;> rfl

@[simp] theorem raise_withHold (n : Notice) : raise n (s.withHold h) = (raise n s).withHold h := by
  by_cases hlevel : classLevel s n.cls = 0
  · have hlevel' : classLevel (s.withHold h) n.cls = 0 := hlevel
    simp [raise, hlevel, hlevel']
  · have hlevel' : classLevel (s.withHold h) n.cls ≠ 0 := hlevel
    simp only [raise, if_neg hlevel, if_neg hlevel']
    exact congrArg (fun l => ({ s with link := l } : State)) (queueNotice_withHold h _ s.link)

@[simp] theorem raiseItem_withHold (c : ItemCode) (u : Nat) :
    raiseItem c u (s.withHold h) = (raiseItem c u s).withHold h := by
  unfold raiseItem
  rw [findItem_withHold]
  split <;> simp

@[simp] theorem settleJob_withHold (n : Nat) : settleJob n (s.withHold h) = (settleJob n s).withHold h := by
  simp only [settleJob, findJob_withHold, withHold_frame, mapJob_withHold, onCosting_withHold]
  (repeat' split) <;> rfl

@[simp] theorem releaseReservation_withHold (u : Nat) :
    releaseReservation u (s.withHold h) = (releaseReservation u s).withHold h := by
  unfold releaseReservation
  rw [findItem_withHold]
  split <;> rfl

@[simp] theorem countPrint_withHold (i : Item) : countPrint i (s.withHold h) = (countPrint i s).withHold h := by
  unfold countPrint
  split <;> rfl

@[simp] theorem closeItem_withHold (u : Nat) : closeItem u (s.withHold h) = (closeItem u s).withHold h := by
  unfold closeItem
  rw [findItem_withHold]
  split <;> simp

@[simp] theorem priceItem_withHold (u : Nat) : priceItem u (s.withHold h) = (priceItem u s).withHold h := by
  simp only [priceItem, findItem_withHold, withHold_frame]
  split <;> simp

@[simp] theorem toSettling_withHold (u : Nat) : toSettling u (s.withHold h) = (toSettling u s).withHold h := by
  have hband : hasBand (s.withHold h) u = hasBand s u := rfl
  simp only [toSettling, findItem_withHold, hband, mapItem_withHold, raiseItem_withHold]
  (repeat' split) <;> rfl

@[simp] theorem toCosting_withHold (u : Nat) : toCosting u (s.withHold h) = (toCosting u s).withHold h := by
  have hbusy (i : Item) : itemBusy (s.withHold h) i = itemBusy s i := rfl
  have hprice (s : State) : priceReadable (s.withHold h) = priceReadable s := rfl
  simp only [toCosting, findItem_withHold, hbusy, hprice, mapItem_withHold, raiseItem_withHold, withHold_frame,
    onCosting_withHold, priceItem_withHold]
  (repeat' split) <;> rfl

@[simp] theorem advanceItem_withHold (u : Nat) : advanceItem u (s.withHold h) = (advanceItem u s).withHold h := by
  simp [advanceItem]

/-! ### The parts of an abort -/

@[simp] theorem proceed_withHold (m : Nat) : proceed m (s.withHold h) = (proceed m s).withHold h := by
  have hpaused : pausedStop (s.withHold h) = pausedStop s := rfl
  simp only [proceed, withHold_frame, hpaused, onPath_withHold, send_withHold]
  (repeat' split) <;> rfl

@[simp] theorem reportHold_withHold : reportHold (s.withHold h) = (reportHold s).withHold h := by
  simp only [reportHold, heldStop_withHold, withHold_frame, onCutter_withHold, raise_withHold]
  (repeat' split) <;> rfl

@[simp] theorem holdCuts_withHold (u n : Nat) : holdCuts u n (s.withHold h) = (holdCuts u n s).withHold h := by
  simp only [holdCuts, findItem_withHold, mapCuts_withHold, reportHold_withHold]
  (repeat' split) <;> rfl

@[simp] theorem holdItem_withHold (u : Nat) : holdItem u (s.withHold h) = (holdItem u s).withHold h := by
  simp only [holdItem, findItem_withHold, mapItem_withHold, raiseItem_withHold]
  (repeat' split) <;> rfl

@[simp] theorem mergeVerdict_withHold (u n : Nat) (v : Verdict) :
    mergeVerdict u n v (s.withHold h) = (mergeVerdict u n v s).withHold h := by
  simp only [mergeVerdict, findItem_withHold, panelVerdict_withHold, mapItem_withHold, holdItem_withHold,
    holdCuts_withHold]
  (repeat' split) <;> simp

@[simp] theorem touchEdition_withHold (n : Option Nat) :
    touchEdition n (s.withHold h) = (touchEdition n s).withHold h := by
  cases n <;> rfl

@[simp] theorem recordUnread_withHold (t : Stop) (m : MeasureStop) :
    recordUnread t m (s.withHold h) = (recordUnread t m s).withHold h := by
  have hentry (n : Option Nat) (s : State) : n.bind (findEdition (s.withHold h)) = n.bind (findEdition s) := rfl
  simp only [recordUnread, findItem_withHold, mergeVerdict_withHold, touchEdition_withHold, hentry, withHold_frame,
    panelVerdict_withHold, raise_withHold]

@[simp] theorem unreadIfMeasure_withHold (t : Stop) :
    unreadIfMeasure t (s.withHold h) = (unreadIfMeasure t s).withHold h := by
  simp only [unreadIfMeasure, withHold_frame, recordUnread_withHold]
  (repeat' split) <;> rfl

@[simp] theorem unreadStops_withHold (gone : List Stop) :
    unreadStops gone (s.withHold h) = (unreadStops gone s).withHold h := by
  unfold unreadStops
  induction gone generalizing s with
  | nil => rfl
  | cons t gone ih => rw [List.foldl_cons, unreadIfMeasure_withHold, ih, List.foldl_cons]

@[simp] theorem dropMeasures_withHold (u : Nat) :
    dropMeasures u (s.withHold h) = (dropMeasures u s).withHold h := by
  have hdrop (p : Stop → Bool) : dropStops p (s.withHold h) = (dropStops p s).withHold h := rfl
  simp only [dropMeasures, withHold_frame, hdrop, unreadStops_withHold, onColour_withHold, proceed_withHold]
  (repeat' split) <;> rfl

@[simp] theorem endWaits_withHold (w : Asker) (l : List (Chan × Nat)) :
    endWaits w l (s.withHold h) = (endWaits w l s).withHold h := by
  have hone (c : Chan) (s : State) : endWait w l c (s.withHold h) = (endWait w l c s).withHold h := by
    have hset : setWait c false (s.withHold h) = (setWait c false s).withHold h := rfl
    have hbody : waitBody w l c (s.withHold h) = waitBody w l c s := rfl
    simp only [endWait, withHold_frame, hset, hbody, raise_withHold]
    split <;> rfl
  have hall (cs : List Chan) (s : State) :
      forChannels cs (endWait w l) (s.withHold h) = (forChannels cs (endWait w l) s).withHold h := by
    unfold forChannels
    induction cs generalizing s with
    | nil => rfl
    | cons c cs ih => rw [List.foldl_cons, hone, ih, List.foldl_cons]
  simp only [endWaits, hall, onInk_withHold]

@[simp] theorem releaseInk_withHold (l : List (Chan × Nat)) :
    releaseInk l (s.withHold h) = (releaseInk l s).withHold h := by
  unfold releaseInk
  induction l generalizing s with
  | nil => rfl
  | cons a l ih => exact ih (mapAccount a.1 (Account.release a.2) s)

@[simp] theorem discardBand_withHold (b : Band) : discardBand b (s.withHold h) = (discardBand b s).withHold h := by
  have hdropped : rowsWasted b (bandDropped b (s.withHold h)) = (rowsWasted b (bandDropped b s)).withHold h := by
    have hpath : dropBand b.serial ((s.withHold h).onPath fun p => { p with
          waiting := p.waiting.filter fun o => !(lostGutters (s.withHold h) b).contains o }) =
        (dropBand b.serial (s.onPath fun p => { p with
          waiting := p.waiting.filter fun o => !(lostGutters s b).contains o })).withHold h := rfl
    simp only [bandDropped, hpath, releaseInk_withHold]
    split <;> rfl
  rw [discardBand_eq, hdropped, discardBand_eq]
  simp only [withHold_frame, endWaits_withHold]
  split <;> rfl

@[simp] theorem discardBands_withHold (bands : List Band) :
    discardBands bands (s.withHold h) = ((discardBands bands s).1.withHold h, (discardBands bands s).2) := by
  have hrows (b : Band) (s : State) : discardRows (s.withHold h) b = discardRows s b := rfl
  induction bands generalizing s with
  | nil => rfl
  | cons b bands ih => simp only [discardBands, hrows, discardBand_withHold, ih]

@[simp] theorem insertCut_withHold (i : Item) (n : Option Nat) (r : Row) (c : CutStop) :
    insertCut i n r c (s.withHold h) = ((insertCut i n r c s).1.withHold h, (insertCut i n r c s).2) := by
  have hjoin (t : Stop) : takeStopId (insertStop t (s.withHold h)) = (takeStopId (insertStop t s)).withHold h := by
    simp only [insertStop, withHold_frame]
    split <;> rfl
  simp only [insertCut, withHold_frame, hjoin]
  split <;> rfl

@[simp] theorem panelCut_withHold (i : Item) (mp : MediaProfile) (n : Nat) (time : Option Time × Option Nat)
    (role : CutRole) (row : Row) : panelCut i mp n time role row (s.withHold h) =
      ((panelCut i mp n time role row s).1.withHold h, (panelCut i mp n time role row s).2) := by
  simp only [panelCut, insertCut_withHold]
  split <;> rfl

@[simp] theorem gutterFed_withHold (u g : Nat) : gutterFed u g (s.withHold h) = (gutterFed u g s).withHold h := by
  unfold gutterFed
  split <;> rfl

theorem closePanel_aborted_withHold (u : Nat) (last : Bool) (t : Time) :
    closePanel u last (some t) (s.withHold h) = (closePanel u last (some t) s).withHold h := by
  cases hi : findItem s u with
  | none => simp [closePanel, hi]
  | some i =>
  cases hmp : s.tables.mediaProfile with
  | none => simp [closePanel, hi, hmp]
  | some mp =>
  cases hp : i.panels.getLast? with
  | none => simp [closePanel, hi, hmp, hp]
  | some p =>
  have htime : keptTime (s.withHold h) i p t = keptTime s i p t := rfl
  rw [closePanel_aborted hi hmp hp, closePanel_aborted (s := s.withHold h) hi hmp hp]
  simp only [htime, withHold_frame, gutterFed_withHold, panelCut_withHold]
  split <;> simp

@[simp] theorem closeAborted_withHold (u : Nat) (t : Time) :
    closeAborted u t (s.withHold h) = ((closeAborted u t s).1.withHold h, (closeAborted u t s).2) := by
  have hlocked : locked (s.withHold h) .mediaProfile = locked s .mediaProfile := rfl
  simp only [closeAborted, findItem_withHold, hlocked, mapItem_withHold, closePanel_aborted_withHold, withHold_frame]
  (repeat' split) <;> rfl

@[simp] theorem joinAbortFeed_withHold (u rows : Nat) :
    joinAbortFeed u rows (s.withHold h) = (joinAbortFeed u rows s).withHold h := by
  have hplace (s : State) : placeFree (s.withHold h) = placeFree s := rfl
  have hinsert (s : State) (o : Op) (l : List Op) : insertAbort (s.withHold h) o l = insertAbort s o l := by
    induction l with
    | nil => rfl
    | cons w l ih => rw [insertAbort, ih, insertAbort]; rfl
  simp only [joinAbortFeed, mapItem_withHold, withHold_frame, onPath_withHold, hplace, hinsert]
  (repeat' split) <;> rfl

theorem abortMarked_withHold (u : Nat) : abortMarked u (s.withHold h) = (abortMarked u s).withHold h := by
  have hnext : nextAbort (s.withHold h) = nextAbort s := rfl
  have hclear (s : State) : clearHolds u (s.withHold h) = (clearHolds u s).withHold h := rfl
  simp only [abortMarked, hnext, mapItem_withHold, dropMeasures_withHold, hclear]

theorem abortLost_withHold (u : Nat) :
    abortLost u (s.withHold h) = ((abortLost u s).1.withHold h, (abortLost u s).2) := by
  have hbands (s : State) : abortDiscards u (s.withHold h) = abortDiscards u s := rfl
  simp only [abortLost, abortMarked_withHold, hbands, discardBands_withHold]

theorem abortMoved_withHold (u : Nat) (i : Item) :
    abortMoved u i (s.withHold h) = (abortMoved u i s).withHold h ∧
      abortState u i (s.withHold h) = abortState u i s := by
  have hfix (i : Item) (t : Time) (s : State) : fixAbortTimes i t (s.withHold h) =
      (fixAbortTimes i t s).withHold h := rfl
  have hdry : dryTime (s.withHold h) = dryTime s := rfl
  have htimed : abortTimed u i (s.withHold h) = (abortTimed u i s).withHold h := by
    simp only [abortTimed, withHold_frame, hdry, abortLost_withHold, releaseReservation_withHold, hfix]
  have hgathered : abortGathered u i (s.withHold h) = (abortGathered u i s).withHold h := by
    simp only [abortGathered, abortClosed, withHold_frame, hdry, abortLost_withHold, htimed, closeAborted_withHold,
      joinAbortFeed_withHold]
  have hstate : abortState u i (s.withHold h) = abortState u i s := by
    rw [abortState, hgathered]
    rfl
  exact ⟨by rw [abortMoved, hstate, hgathered, mapItem_withHold, abortMoved], hstate⟩

theorem abortItem_withHold (u : Nat) (c : AbortCause) : abortItem u c (s.withHold h) =
    (abortItem u c s).withHold h := by
  by_cases hlive : ∃ i, findItem s u = some i ∧ i.fate ≠ .aborted ∧ i.state ≠ .costing
  · obtain ⟨i, hi, hfate, hstate⟩ := hlive
    obtain ⟨hmoved, hnext⟩ := abortMoved_withHold h s u i
    rw [abortItem_eq hi hfate hstate, abortItem_eq (s := s.withHold h) hi hfate hstate, hmoved, hnext]
    simp only [raiseItem_withHold, advanceItem_withHold]
  · have hidle (i : Item) (hi : findItem s u = some i) : i.fate = .aborted ∨ i.state = .costing := by
      by_contra hno
      rw [not_or] at hno
      exact hlive ⟨i, hi, hno⟩
    rw [abortItem_of_idle hidle, abortItem_of_idle (s := s.withHold h) hidle]

/-- R17: the abort of the open work does not look at the hold. -/
theorem abortOpen_withHold :
    abortOpenJob (abortOpenItem (s.withHold h)) = (abortOpenJob (abortOpenItem s)).withHold h := by
  have hopenItem : openItem (s.withHold h) = openItem s := rfl
  have hopenJob (s : State) : openJob (s.withHold h) = openJob s := rfl
  have hitem : abortOpenItem (s.withHold h) = (abortOpenItem s).withHold h := by
    simp only [abortOpenItem, hopenItem, abortItem_withHold]
    split <;> rfl
  simp only [hitem, abortOpenJob, hopenJob, mapJob_withHold, settleJob_withHold]
  split <;> rfl

end Hold

end Sys2Proof.Machine

/-! ## LINK_RESET and ENGINE_RESET STREAM (R17, R19, R39, R42, R61) -/

namespace Sys2Proof.Machine

/-! ### The open job across the abort of the open item (R42) -/

/-- The numbers of the jobs, and which of them are OPEN. -/
def jobKeys (s : State) : List (Nat × Bool) := s.items.jobs.map fun j => (j.number, j.state == .opened)

theorem map_fst_jobKeys (s : State) : (jobKeys s).map Prod.fst = s.items.jobs.map Job.number := by
  rw [jobKeys, List.map_map]
  rfl

theorem openJob_of_jobKeys {s t : State} (h : jobKeys t = jobKeys s) :
    (openJob t).map Job.number = (openJob s).map Job.number := by
  have hfind (w : State) : (openJob w).map Job.number = ((jobKeys w).find? Prod.snd).map Prod.fst := by
    rw [jobKeys, List.find?_map, Option.map_map, openJob]
    rfl
  rw [hfind, hfind, h]

theorem jobKeys_of_jobs {s t : State} (h : t.items.jobs = s.items.jobs) : jobKeys t = jobKeys s := by
  rw [jobKeys, h, jobKeys]

theorem jobKeys_mapJob (n : Nat) {f : Job → Job} {s : State}
    (hf : ∀ j ∈ s.items.jobs, j.number = n → (f j).number = j.number ∧
      ((f j).state == .opened) = (j.state == .opened)) :
    jobKeys (mapJob n f s) = jobKeys s := by
  rw [jobKeys, mapJob, State.onItems_items, List.map_map, jobKeys]
  refine List.map_congr_left fun j hj => ?_
  by_cases hn : j.number = n
  · obtain ⟨hnumber, hopened⟩ := hf j hj hn
    simp [hn, hnumber, hopened]
  · simp [hn]

/-- R42: a step of a job's end leaves which jobs are OPEN, their numbers being distinct. -/
def JobsKept (s t : State) : Prop := (s.items.jobs.map Job.number).Nodup → jobKeys t = jobKeys s

theorem JobsKept.of_jobs {s t : State} (h : t.items.jobs = s.items.jobs) : JobsKept s t :=
  fun _ => jobKeys_of_jobs h

theorem JobsKept.trans {r s t : State} (hr : JobsKept r s) (hs : JobsKept s t) : JobsKept r t := fun hn => by
  have hnumbers : (s.items.jobs.map Job.number).Nodup := by rwa [← map_fst_jobKeys, hr hn, map_fst_jobKeys]
  exact (hs hnumbers).trans (hr hn)

theorem jobsKept_settleJob (n : Nat) (s : State) : JobsKept s (settleJob n s) := by
  intro hnumbers
  unfold settleJob
  split
  · next j hj =>
    split
    · next hclosing =>
      refine (jobKeys_of_jobs rfl).trans (jobKeys_mapJob n fun k hk hkn => ⟨rfl, ?_⟩)
      obtain rfl : k = j := List.inj_on_of_nodup_map hnumbers hk (List.mem_of_find?_eq_some hj)
        (hkn.trans (Eq.symm (by simpa using List.find?_some hj)))
      rw [hclosing.1]
      rfl
    · rfl
  · rfl

theorem jobsKept_closeItem (u : Nat) (s : State) : JobsKept s (closeItem u s) := by
  cases hi : findItem s u with
  | none => exact .of_jobs (by simp [closeItem, hi])
  | some i =>
    obtain ⟨-, rfl⟩ := mem_of_findItem hi
    obtain ⟨-, hjobs, -⟩ := beforeSettle_spec hi
    rw [closeItem_eq hi]
    exact .trans (fun _ => (jobKeys_of_jobs hjobs).trans (jobKeys_mapJob i.job fun _ _ _ => ⟨rfl, rfl⟩))
      (jobsKept_settleJob i.job _)

theorem jobsKept_priceItem (u : Nat) (s : State) : JobsKept s (priceItem u s) := by
  unfold priceItem
  split
  · dsimp only
    generalize hw : raise _ _ = w
    have hjobs : w.items.jobs = s.items.jobs := by simp [← hw]
    refine .trans ?_ (jobsKept_closeItem u _)
    refine fun _ => (jobKeys_mapJob _ ?_).trans (jobKeys_of_jobs hjobs)
    exact fun _ _ _ => ⟨rfl, rfl⟩
  · exact .of_jobs rfl

theorem jobsKept_advanceItem (u : Nat) (s : State) : JobsKept s (advanceItem u s) := by
  have hsettling : (toSettling u s).items.jobs = s.items.jobs := by
    unfold toSettling
    (repeat' split) <;> simp [mapItem]
  have hcosting (s : State) : JobsKept s (toCosting u s) := by
    unfold toCosting
    split
    · split
      · dsimp only
        split
        · exact .trans (.of_jobs (by simp [mapItem])) (jobsKept_priceItem u _)
        · exact .of_jobs (by simp [mapItem])
      · exact .of_jobs rfl
    · exact .of_jobs rfl
  exact .trans (.of_jobs hsettling) (hcosting _)

/-- R42, R55: the abort of an item leaves which jobs are OPEN. -/
theorem jobsKept_abortItem (u : Nat) (c : AbortCause) (s : State) : JobsKept s (abortItem u c s) := by
  by_cases hlive : ∃ i, findItem s u = some i ∧ i.fate ≠ .aborted ∧ i.state ≠ .costing
  · obtain ⟨i, hi, hfate, hstate⟩ := hlive
    rw [abortItem_eq hi hfate hstate]
    obtain ⟨hjobs, -⟩ := onlyItem_abortMoved hi
    exact .trans (.of_jobs (by simpa using hjobs)) (jobsKept_advanceItem u _)
  · have hidle (i : Item) (hi : findItem s u = some i) : i.fate = .aborted ∨ i.state = .costing := by
      by_contra hno
      rw [not_or] at hno
      exact hlive ⟨i, hi, hno⟩
    exact .of_jobs (by rw [abortItem_of_idle hidle])

/-- R42, R61: the job that a link reset closes stays CLOSING while an item of it is live, and is DONE otherwise. -/
theorem abortOpenJob_of_open {s : State} {j : Job} (hj : openJob s = some j) :
    ((∃ i ∈ s.items.live, i.job = j.number) → abortOpenJob s = s.onItems fun m => { m with
      jobs := m.jobs.map fun k => if k.number = j.number then { k with state := .closing, fate := .aborted } else k }) ∧
    ((∀ i ∈ s.items.live, i.job ≠ j.number) → abortOpenJob s = (s.onItems fun m => { m with
      jobs := m.jobs.map fun k => if k.number = j.number then { k with state := .done, fate := .aborted } else k
        }).onCosting fun c => { c with jobQueue := c.jobQueue ++ [j.number] }) := by
  let m := mapJob j.number (fun k => { k with state := .closing, fate := .aborted }) s
  have heq : abortOpenJob s = settleJob j.number m := by simp only [abortOpenJob, hj]; rfl
  have hfind : ∃ k, findJob m j.number = some k ∧ k.state = .closing := by
    obtain ⟨k, hk⟩ : ∃ k, findJob m j.number = some k := by
      rw [← Option.isSome_iff_exists, findJob, List.find?_isSome]
      exact ⟨_, List.mem_map_of_mem (List.mem_of_find?_eq_some hj), by simp⟩
    obtain ⟨k₀, -, rfl⟩ := List.mem_map.1 (List.mem_of_find?_eq_some hk)
    refine ⟨_, hk, ?_⟩
    have hnumber := List.find?_some hk
    by_cases h : k₀.number = j.number
    · simp [h]
    · simp [h] at hnumber
  obtain ⟨k, hk, hclosing⟩ := hfind
  rw [heq]
  refine ⟨fun hlive => settleJob_stays hk (.inr hlive), fun hnone => ?_⟩
  rw [settleJob_done hk hclosing hnone]
  have hjobs : mapJob j.number (fun k => { k with state := .done }) m = s.onItems fun m => { m with
      jobs := m.jobs.map fun k => if k.number = j.number then { k with state := .done, fate := .aborted } else k } := by
    have hmap : (fun k : Job => if k.number = j.number then { k with state := .done } else k) ∘
        (fun k => if k.number = j.number then { k with state := .closing, fate := .aborted } else k) =
        fun k => if k.number = j.number then { k with state := .done, fate := .aborted } else k := by
      funext k
      by_cases h : k.number = j.number <;> simp [h]
    simp only [m, mapJob, State.onItems, List.map_map, hmap]
  rw [hjobs]

/-! ### The reset, whole -/

/-- R17, R39: the link port is empty and no load is staged. -/
def linkEmptied (stream : Bool) (s : State) : State :=
  (s.onLink fun l =>
    { intake := [], rx := if stream = true ∧ l.rx ≠ .idle then .dropping else .idle, hold := [], ret := [],
      displaced := l.displaced || l.ret.any fun e => !e.isReply,
      capture := { armed := true, bytes := [], length := 0, filling := false } }).onTables
    fun k => { k with lock := none, staging := [], expiry := none }

/-- R17, R61: a link reset that finds the hold empty, or empties it. -/
theorem linkReset_eq {stream : Bool} {s : State} (h : stream = true → s.link.hold = []) :
    linkReset stream s = abortOpenJob (abortOpenItem (linkEmptied stream s)) := by
  have hlink : Link.flushed stream s.link =
      { intake := [], rx := if stream = true ∧ s.link.rx ≠ .idle then .dropping else .idle, hold := [], ret := [],
        displaced := s.link.displaced || s.link.ret.any fun e => !e.isReply,
        capture := { armed := true, bytes := [], length := 0, filling := false } } := by
    cases stream with
    | false => simp [Link.flushed, Capture.fresh]
    | true => cases hrx : s.link.rx <;> simp [Link.flushed, Capture.fresh, Rx.dropped, h, hrx]
  simp only [linkReset, linkEmptied, State.onLink, hlink]
  rfl

/-- R17: the hold of an ENGINE_RESET STREAM acted on from the hold stays, and changes nothing else. -/
theorem linkReset_withHold (h : List HoldEntry) (s : State) :
    linkReset true (s.withHold h) = (linkReset true s).withHold h := by
  have hemptied : ((s.withHold h).onLink (Link.flushed true)).onTables TableStore.freed =
      ((s.onLink (Link.flushed true)).onTables TableStore.freed).withHold h := rfl
  rw [linkReset, hemptied, abortOpen_withHold, linkReset]

theorem isOpen_ne_costing {i : Item} (h : i.isOpen = true) : i.state ≠ .costing := by
  intro hcosting
  simp [Item.isOpen, hcosting] at h

/-- R61: the open item that a link reset aborts. -/
theorem abortOpenItem_spec (s : State) :
    (openItem s = none → abortOpenItem s = s) ∧
    ∀ i, openItem s = some i → abortOpenItem s = abortItem i.uid .linkReset s ∧
      (findItem s i.uid = some i → i.fate = .complete → AbortedBy i.uid s (abortOpenItem s)) := by
  refine ⟨fun h => by simp only [abortOpenItem, h], fun i hi => ?_⟩
  have heq : abortOpenItem s = abortItem i.uid .linkReset s := by simp only [abortOpenItem, hi]
  refine ⟨heq, fun hfind hfate => heq ▸ abortedBy_abortItem hfind hfate (isOpen_ne_costing ?_) .linkReset⟩
  exact List.find?_some hi

/-- R42, R61: the abort of the open item leaves the OPEN job, whose number names it. -/
theorem openJob_abortOpenItem {s : State} (h : (s.items.jobs.map Job.number).Nodup) :
    (openJob (abortOpenItem s)).map Job.number = (openJob s).map Job.number := by
  refine openJob_of_jobKeys ?_
  unfold abortOpenItem
  split
  · exact jobsKept_abortItem _ _ s h
  · rfl

theorem abortOpenJob_of_none {s : State} (h : openJob s = none) : abortOpenJob s = s := by
  simp only [abortOpenJob, h]

/-- Settles O18: what a link reset and an ENGINE_RESET STREAM flush and abort. -/
theorem linkResetEffects : Obligations.LinkResetEffects := by
  refine ⟨fun tag rest s hact hrest => refuses_of_acts rfl hact (ownerAnswer_engineReset_of_long _ hrest _),
    fun stream s base hnumbers hitems => ?_⟩
  have hopen : openJob (linkEmptied stream base) = openJob s :=
    congrArg (fun m : ItemManager => m.jobs.find? fun j : Job => j.state == JobState.opened) hitems
  have hjob := openJob_abortOpenItem (s := linkEmptied stream base) (hitems ▸ hnumbers)
  rw [hopen] at hjob
  obtain ⟨hclosed, hitem⟩ := abortOpenItem_spec (linkEmptied stream base)
  have hopenItem : openItem (linkEmptied stream base) = openItem s :=
    congrArg (fun m : ItemManager => m.live.find? Item.isOpen) hitems
  have hfind (u : Nat) : findItem (linkEmptied stream base) u = findItem s u :=
    findItem_congr (congrArg ItemManager.live hitems) u
  simp only [hopenItem, hfind] at hclosed hitem
  refine ⟨linkEmptied stream base, abortOpenItem (linkEmptied stream base),
    abortOpenJob (abortOpenItem (linkEmptied stream base)), rfl, hclosed, hitem, fun hnone => ?_, fun j hj => ?_,
    fun hlink hbase => ?_, fun hstream hbase tag hact => ?_, ?_⟩
  · rw [hnone, Option.map_none, Option.map_eq_none_iff] at hjob
    exact abortOpenJob_of_none hjob
  · rw [hj] at hjob
    obtain ⟨k, hk, hkj⟩ := Option.map_eq_some_iff.1 hjob
    exact hkj ▸ abortOpenJob_of_open hk
  · subst hlink hbase
    rw [← linkReset_eq (by simp)]
    rfl
  · subst hstream hbase
    obtain ⟨-, hhold⟩ := (actsAtOnce_iff s).1 hact
    rw [← linkReset_eq (s := s.clearOut) fun _ => hhold]
    exact replies_of_acts rfl hact (ownerAnswer_engineReset_stream _)
  · intro older e younger tag held hstream hs ho hy he h4 hheld hhold hbase
    subst hstream
    have hempty : base.link.hold = [] := by rw [hbase]; rfl
    have hsent : entrySent (older ++ younger) (held.map fun h => .reply h.1 h.2) e s =
        base.withHold (held.map fun h => .reply h.1 h.2) := by rw [hbase]; rfl
    have hreset : linkReset true (entrySent (older ++ younger) (held.map fun h => .reply h.1 h.2) e s) =
        (linkReset true base).withHold (held.map fun h => .reply h.1 h.2) := by rw [hsent, linkReset_withHold]
    obtain ⟨hkept, hreplies, -⟩ := linkReset_queue true base
    have hleaves := exec_returnEntrySend_reset (t := linkReset true (entrySent _ _ e s)) hs ho hy he h4 hheld hhold
      (ownerAnswer_engineReset_stream _) (hreset ▸ hreplies) (hreset ▸ rfl)
    have hnone : (linkReset true base).withHold [] = linkReset true base := onLink_hold_nil (hkept.trans hempty)
    have hback (t : State) (l : List HoldEntry) : ((t.withHold l).onLink fun k => { k with hold := [] }) =
        t.withHold [] := rfl
    rw [hreset, hback, hnone, linkReset_eq fun _ => hempty] at hleaves
    exact hleaves

end Sys2Proof.Machine

/-! ## The staged loads of the table store (R31 to R34) -/

namespace Sys2Proof.Machine

/-! ### The bodies that name a section (R31, R33) -/

/-- R29, R31: the three reserved bytes behind a section code. -/
theorem zeros_reserved (code x y z : Byte) (rest : List Byte) :
    zeros (code :: x :: y :: z :: rest) 1 3 = true ↔ x = 0#8 ∧ y = 0#8 ∧ z = 0#8 := by
  have hzero (b : Byte) : b.toNat = 0 ↔ b = 0#8 := by rw [← BitVec.toNat_inj]; rfl
  simp [zeros, List.range_succ, u8, hzero]

/-- R31, R33: a body that names a section is its code and three zero bytes. -/
theorem sectionBody_eq_some_iff (body : List Byte) (sec : Section) :
    sectionBody body = some sec ↔ ∃ code, body = [code, 0#8, 0#8, 0#8] ∧ sectionOf code.toNat = some sec := by
  constructor
  · intro h
    unfold sectionBody at h
    split at h
    · next hbody =>
      obtain ⟨hlength, hzeros⟩ := hbody
      obtain ⟨code, x, y, z, rfl⟩ := List.length_eq_four.1 hlength
      obtain ⟨rfl, rfl, rfl⟩ := (zeros_reserved code x y z []).1 hzeros
      exact ⟨code, rfl, h⟩
    · cases h
  · rintro ⟨code, rfl, h⟩
    exact h

theorem sectionBody_eq_none_iff (body : List Byte) : sectionBody body = none ↔
    ∀ code sec, body = [code, 0#8, 0#8, 0#8] → sectionOf code.toNat ≠ some sec := by
  simp only [Option.eq_none_iff_forall_ne_some, ne_eq, sectionBody_eq_some_iff, not_exists, not_and]
  exact ⟨fun h code sec => h sec code, fun h sec code => h code sec⟩

/-! ### What the owner answers -/

/-- R6, R10, R14: a command that is an express record acted on at once, whatever its owner's status. -/
theorem replies_of_answer {c : Instr} {k : ExpressKind} {tag : Byte} {body : List Byte} {s t : State} {st : Status}
    (hexec : exec c s = command (express k tag body) s) (hact : actsAtOnce s = true)
    (h : ownerAnswer k body s.clearOut = answer (t, st)) :
    Replies c s tag st .empty (captureIf st (goodWire k.code 1#8 tag body) body.length t) := by
  refine hexec.trans (command_eq ((express_of_acts (by simpa using hact) k tag body).trans ?_))
  rw [actExpress, h]
  rfl

/-- R14: a section image that is refused is offered to the fault capture. -/
theorem captureIf_badTable (wire : List Byte) (n : Nat) (s : State) :
    captureIf .badTable wire n s = capture wire n false s := if_pos (.inr rfl)

section Begin

variable {body : List Byte} {sec : Section} {s : State}

/-- R31: a section takes the free lock, or keeps its own. -/
theorem tableBegin_takes (hbody : sectionBody body = some sec)
    (h : s.tables.lock = none ∨ s.tables.lock = some sec) :
    tableBegin body s = (s.onTables fun t =>
      { t with lock := some sec, staging := blankStaging sec, expiry := some (s.now + lockMs) }, .ok) := by
  simp only [tableBegin, hbody, if_pos h]

theorem tableBegin_locked {other : Section} (hbody : sectionBody body = some sec) (h : s.tables.lock = some other)
    (hne : other ≠ sec) : tableBegin body s = (s, .locked) := by
  simp [tableBegin, hbody, h, hne]

theorem tableBegin_noSection (hbody : sectionBody body = none) : tableBegin body s = (s, .badRecord) := by
  simp only [tableBegin, hbody]

end Begin

/-- R34: the expiry of a staged load, once its deadline has passed and before. -/
theorem expireLock_eq {sec : Section} {deadline : Time} {s : State} (hlock : s.tables.lock = some sec)
    (hdeadline : s.tables.expiry = some deadline) : expireLock s =
      if passed s.now deadline then
        raise (.lockExpired sec (s.tables.staging.countP Option.isSome)) (s.onTables TableStore.freed)
      else s := by
  simp only [expireLock, hlock, hdeadline]

/-- Settles O21: who gets the lock at TABLE_BEGIN, and when it expires. -/
theorem stagedLoadBeginsAndExpires : Obligations.StagedLoadBeginsAndExpires := by
  refine ⟨fun tag body s hact => ⟨fun code sec hbody hsec => ?_, fun hnone => ?_⟩, fun sec deadline s hlock hexp => ?_⟩
  · have hnamed := (sectionBody_eq_some_iff body sec).2 ⟨code, hbody, hsec⟩
    exact ⟨fun hlock => replies_of_answer rfl hact (congrArg answer (tableBegin_takes hnamed hlock)),
      fun other hlock hne => replies_of_answer rfl hact (congrArg answer (tableBegin_locked hnamed hlock hne))⟩
  · exact refuses_of_acts rfl hact (congrArg answer (tableBegin_noSection ((sectionBody_eq_none_iff body).2 hnone)))
  · have hexpire := expireLock_eq (s := s.clearOut) hlock hexp
    refine ⟨fun hpassed => command_eq (hexpire.trans (if_pos ((passed_iff _ _).2 hpassed))),
      fun hearly => command_eq (hexpire.trans (if_neg ?_))⟩
    rw [passed_iff]
    exact Int.not_le.2 hearly

/-! ### TABLE_PART (R32) -/

/-- R32: what the bytes of a staging area are after a part is written within it. -/
theorem getElem?_writeStaging {offset : Nat} {data : List Byte} {staging : List (Option Byte)}
    (hfit : offset + data.length ≤ staging.length) (k : Nat) : (writeStaging offset data staging)[k]? =
      if offset ≤ k ∧ k < offset + data.length then (data[k - offset]?).map some else staging[k]? := by
  have htake : (staging.take offset).length = offset := List.length_take_of_le (by omega)
  rw [writeStaging, List.append_assoc]
  rcases Nat.lt_or_ge k offset with hlow | hlow
  · rw [if_neg (by omega), List.getElem?_append_left (by omega), List.getElem?_take_of_lt hlow]
  · rw [List.getElem?_append_right (by omega), htake]
    rcases Nat.lt_or_ge k (offset + data.length) with hin | hout
    · rw [if_pos ⟨hlow, hin⟩, List.getElem?_append_left (by rw [List.length_map]; omega), List.getElem?_map]
    · rw [if_neg (by omega), List.getElem?_append_right (by rw [List.length_map]; omega), List.getElem?_drop,
        List.length_map]
      congr 1
      omega

theorem length_writeStaging {offset : Nat} {data : List Byte} {staging : List (Option Byte)}
    (hfit : offset + data.length ≤ staging.length) : (writeStaging offset data staging).length = staging.length := by
  simp only [writeStaging, List.length_append, List.length_take, List.length_map, List.length_drop]
  omega

section Part

variable {body : List Byte} {sec : Section} {s : State}

theorem tablePart_free (h : s.tables.lock = none) : tablePart body s = (s, .refusedState) := if_pos h

/-- R32: a part with no data, or that runs beyond the image. -/
theorem tablePart_bad (hlock : s.tables.lock = some sec)
    (h : body.length < 5 ∨ s.tables.staging.length < u32 body 0 + (body.length - 4)) :
    tablePart body s = (s, .badRecord) := by
  rw [tablePart, if_neg (by simp [hlock]), if_pos h]

theorem tablePart_writes (hlock : s.tables.lock = some sec) (hlong : 5 ≤ body.length)
    (hfit : u32 body 0 + (body.length - 4) ≤ s.tables.staging.length) :
    tablePart body s = (s.onTables fun t => { t with
      staging := writeStaging (u32 body 0) (body.drop 4) s.tables.staging, expiry := some (s.now + lockMs) }, .ok) := by
  rw [tablePart, if_neg (by simp [hlock]), if_neg (by omega)]
  rfl

end Part

/-- Settles O22: the outcomes of TABLE_PART, and the bytes it writes. -/
theorem tablePartWrites : Obligations.TablePartWrites := by
  intro tag body s hact hstaging
  refine ⟨fun hfree => replies_of_answer rfl hact (congrArg answer (tablePart_free hfree)),
    fun sec hlock => ?_⟩
  have hlength := hstaging sec hlock
  refine ⟨fun hbad => ?_, fun hlong hfit => ?_⟩
  · rw [← hlength] at hbad
    exact refuses_of_acts rfl hact (congrArg answer (tablePart_bad hlock hbad))
  · rw [← hlength] at hfit
    have hdata : u32 body 0 + (body.drop 4).length ≤ s.tables.staging.length := by rwa [List.length_drop]
    refine ⟨writeStaging (u32 body 0) (body.drop 4) s.tables.staging,
      replies_of_answer rfl hact (congrArg answer (tablePart_writes hlock hlong hfit)),
      (length_writeStaging hdata).trans hlength, fun k _ => ?_⟩
    rw [getElem?_writeStaging hdata, List.length_drop, List.getElem?_drop]

/-! ### TABLE_COMMIT (R33) -/

/-- R33: an image with an unwritten byte is not looked at. -/
theorem stagedImage_unwritten {staging : List (Option Byte)} (h : none ∈ staging) : stagedImage staging = none := by
  refine if_neg fun hall => ?_
  simpa using List.all_eq_true.1 hall none h

theorem stagedImage_written (image : List Byte) : stagedImage (image.map some) = some image := by
  simp [stagedImage]

section Commit

variable {body : List Byte} {sec : Section} {s : State}

theorem tableCommit_noSection (hbody : sectionBody body = none) : tableCommit body s = (s, .badRecord) := by
  simp only [tableCommit, hbody]

theorem tableCommit_free (hbody : sectionBody body = some sec) (h : s.tables.lock = none) :
    tableCommit body s = (s, .refusedState) := by
  simp only [tableCommit, hbody, if_pos h]

theorem tableCommit_locked {other : Section} (hbody : sectionBody body = some sec) (h : s.tables.lock = some other)
    (hne : other ≠ sec) : tableCommit body s = (s, .locked) := by
  simp [tableCommit, hbody, h, hne]

/-- R33: an image that is not whole or fails its checks ends the load and nothing else. -/
theorem tableCommit_bad (hbody : sectionBody body = some sec) (h : s.tables.lock = some sec)
    (hbad : (stagedImage s.tables.staging).bind (judgeImage sec) = none) :
    tableCommit body s = (s.onTables TableStore.freed, .badTable) := by
  simp [tableCommit, hbody, h, hbad]

/-- R33: a valid image is committed, with the load ended at the same moment. -/
theorem tableCommit_good {c : Content} (hbody : sectionBody body = some sec) (h : s.tables.lock = some sec)
    (hgood : (stagedImage s.tables.staging).bind (judgeImage sec) = some c) :
    tableCommit body s = (commitContent c (s.onTables TableStore.freed), .ok) := by
  simp [tableCommit, hbody, h, hgood]

end Commit

/-- Settles O23: every outcome of TABLE_COMMIT. -/
theorem tableCommitEndsLoad : Obligations.TableCommitEndsLoad := by
  refine fun tag s hact => ⟨fun body hnone => ?_, fun code sec hsec => ?_⟩
  · exact refuses_of_acts rfl hact (congrArg answer (tableCommit_noSection ((sectionBody_eq_none_iff body).2 hnone)))
  · have hnamed := (sectionBody_eq_some_iff [code, 0#8, 0#8, 0#8] sec).2 ⟨code, rfl, hsec⟩
    refine ⟨fun hlock => replies_of_answer rfl hact (congrArg answer (tableCommit_free hnamed hlock)),
      fun other hlock hne => replies_of_answer rfl hact (congrArg answer (tableCommit_locked hnamed hlock hne)),
      fun hlock => ?_⟩
    refine ⟨fun hbad => ?_, fun image c himage hgood => ?_⟩
    · have hnot : (stagedImage s.tables.staging).bind (judgeImage sec) = none := by
        obtain hbad | ⟨image, himage, hjudge⟩ := hbad
        · rw [stagedImage_unwritten hbad, Option.bind_none]
        · rw [himage, stagedImage_written, Option.bind_some, hjudge]
      have hreplies := replies_of_answer (c := .tableCommit tag [code, 0#8, 0#8, 0#8]) (tag := tag) rfl hact
        (congrArg answer (tableCommit_bad (s := s.clearOut) hnamed hlock hnot))
      rw [captureIf_badTable] at hreplies
      exact hreplies
    · have hwhole : (stagedImage s.tables.staging).bind (judgeImage sec) = some c := by
        rw [himage, stagedImage_written, Option.bind_some, hgood]
      exact replies_of_answer rfl hact (congrArg answer (tableCommit_good (s := s.clearOut) hnamed hlock hwhole))

end Sys2Proof.Machine

/-! ## TABLE_LOAD and the images of the sections (R20 to R29) -/

namespace Sys2Proof.Machine

/-! ### The fields of an image (R20) -/

/-- R20: field `i` of an image whose length is a multiple of 4. -/
theorem fld_fieldsOf {image : List Byte} (h : 4 ∣ image.length) (i : Nat) :
    fld (fieldsOf image) i = imageField image i := by
  induction image using fieldsOf.induct generalizing i with
  | case1 a b c d rest ih =>
    have hrest : 4 ∣ rest.length := by
      simp only [List.length_cons] at h
      omega
    cases i with
    | zero => simp [fieldsOf, fld, imageField]
    | succ i =>
      have hshift (k : Nat) : (a :: b :: c :: d :: rest).getD (4 * (i + 1) + k) 0#8 = rest.getD (4 * i + k) 0#8 := by
        rw [show 4 * (i + 1) + k = 4 * i + k + 1 + 1 + 1 + 1 by omega]
        simp only [List.getD_cons_succ]
      have hfirst := hshift 0
      rw [Nat.add_zero, Nat.add_zero] at hfirst
      simp only [imageField, hfirst, hshift]
      exact ih hrest i
  | case2 image hshort =>
    have hempty : image = [] := by
      match image, h with
      | [], _ => rfl
      | a :: b :: c :: d :: rest, _ => exact absurd rfl (hshort a b c d rest)
      | [_], h | [_, _], h | [_, _, _], h =>
        simp only [List.length_cons, List.length_nil] at h
        omega
    simp [hempty, fieldsOf, fld, imageField]

theorem four_dvd_imageLength (sec : Section) : 4 ∣ sec.imageLength := by cases sec <;> decide

theorem allBelow_iff (n : Nat) (p : Nat → Bool) : allBelow n p = true ↔ ∀ i : Fin n, p i.val = true := by
  simp only [allBelow, List.all_eq_true, List.mem_range]
  exact ⟨fun h i => h i.val i.isLt, fun h i hi => h ⟨i, hi⟩⟩

/-! ### The checks of each section (R22 to R27) -/

section Checks

variable {f : List Nat} {g : Nat → Nat} (hf : ∀ i, fld f i = g i)

include hf

theorem validChannelMap_iff : validChannelMap f = true ↔ ImageValid g .channelMap := by
  simp only [validChannelMap, hf, Bool.and_eq_true, allBelow_iff, decide_eq_true_eq, Bool.not_eq_true', ImageValid,
    Bool.and_eq_false_iff, beq_eq_false_iff_ne, and_assoc]
  refine and_congr_right fun _ => ⟨fun h c d hne hc hd => ?_, fun h c d => ?_⟩
  · rcases Nat.lt_or_gt_of_ne (Fin.val_ne_of_ne hne) with hlt | hlt
    · simpa [hc, hd, eq_comm] using h d ⟨c.val, hlt⟩
    · simpa [hc, hd] using h c ⟨d.val, hlt⟩
  · have hlt : d.val < c.val := d.isLt
    have hpair := h c ⟨d.val, by omega⟩ (Fin.ne_of_val_ne hlt.ne')
    by_cases hc : g (4 * c.val) = 1 <;> by_cases hd : g (4 * d.val) = 1 <;> simp_all

theorem validDrop_iff : validDrop f = true ↔ ImageValid g .drop := by
  simp only [validDrop, hf, allBelow_iff, Bool.and_eq_true, decide_eq_true_eq, ImageValid, ← forall_and, Nat.add_assoc]

theorem validMediaProfile_iff : validMediaProfile f = true ↔ ImageValid g .mediaProfile := by
  simp only [validMediaProfile, roundPanel, hf, Bool.and_eq_true, decide_eq_true_eq, ImageValid, and_assoc,
    Nat.mul_comm _ 32]

theorem validPrice_iff : validPrice f = true ↔ ImageValid g .price := by
  simp only [validPrice, hf, allBelow_iff, Bool.and_eq_true, decide_eq_true_eq, ImageValid, and_assoc]

theorem validPatch_iff : validPatch f = true ↔ ImageValid g .patch := by
  simp only [validPatch, layoutFields, hf, allBelow_iff, Bool.and_eq_true, Bool.or_eq_true, beq_iff_eq,
    decide_eq_true_eq, ImageValid, PatchValid, and_assoc, or_assoc]
  refine forall_congr' fun l => and_congr_right fun _ => and_congr_right fun hle => and_congr_right fun _ =>
    ⟨fun h p hp => h ⟨p.val, hp⟩, fun h p => h ⟨p.val, by omega⟩ p.isLt⟩

theorem validTolerance_iff : validTolerance f = true ↔ ImageValid g .tolerance := by
  simp only [validTolerance, hf, allBelow_iff, decide_eq_true_eq, ImageValid]
  refine ⟨fun h l => ⟨h ⟨2 * l.val, by omega⟩, h ⟨2 * l.val + 1, by omega⟩⟩, fun h i => ?_⟩
  obtain ⟨hwarn, hfail⟩ := h ⟨i.val / 2, by omega⟩
  rcases Nat.mod_two_eq_zero_or_one i.val with hmod | hmod
  · rwa [show i.val = 2 * (i.val / 2) by omega]
  · rwa [show i.val = 2 * (i.val / 2) + 1 by omega]

theorem validMaintenance_iff : validMaintenance f = true ↔ ImageValid g .maintenance := by
  simp only [validMaintenance, hf, allBelow_iff, decide_eq_true_eq, ImageValid]
  refine ⟨fun h c k => h ⟨3 * c.val + k.val, by omega⟩, fun h i => ?_⟩
  have hi := h ⟨i.val / 3, by omega⟩ ⟨i.val % 3, Nat.mod_lt _ (by decide)⟩
  rwa [show 3 * (i.val / 3) + i.val % 3 = i.val by omega] at hi

theorem validNotice_iff : validNotice f = true ↔ ImageValid g .notice := by
  simp only [validNotice, hf, allBelow_iff, decide_eq_true_eq, ImageValid]

/-! ### The content of each section, clamped (R23, R24, R26) -/

theorem channelMapOf_eq : Content.channelMap (channelMapOf f) = imageContent g .channelMap := by
  simp only [channelMapOf, hf, imageContent]
  rfl

theorem dropOf_eq : Content.drop (dropOf f) = imageContent g .drop := by
  simp only [dropOf, hf, imageContent, Nat.add_assoc]
  rfl

theorem mediaProfileOf_eq : Content.mediaProfile (mediaProfileOf f) = imageContent g .mediaProfile := by
  have hmin (a b : Nat) : min a b = if b < a then b else a := by
    split <;> omega
  simp only [mediaProfileOf, roundPanel, hf, imageContent, hmin, Nat.mul_comm _ 32, Nat.lt_succ_iff]
  rfl

theorem priceOf_eq : Content.price (priceOf f) = imageContent g .price := by
  simp only [priceOf, hf, imageContent]

theorem patchOf_eq : Content.patch (patchOf f) = imageContent g .patch := by
  simp only [patchOf, layoutFields, hf, imageContent]
  rfl

theorem toleranceOf_eq : Content.tolerance (toleranceOf f) = imageContent g .tolerance := by
  have hmin (a b : Nat) : min a b = if b < a then b else a := by
    split <;> omega
  simp only [toleranceOf, hf, imageContent, hmin]

theorem maintenanceOf_eq : Content.maintenance (maintenanceOf f) = imageContent g .maintenance := by
  simp only [maintenanceOf, hf, imageContent]
  rfl

theorem noticeOf_eq : Content.notice (noticeOf f) = imageContent g .notice := by
  simp only [noticeOf, hf, imageContent]

end Checks

/-- R21: a content is committed exactly where its section's checks hold. -/
theorem ite_some_of_iff {valid : Bool} {P : Prop} {c d : Content} (hvalid : valid = true ↔ P) (hc : c = d) :
    (P → (if valid then some c else none) = some d) ∧ (¬P → (if valid then some c else none) = none) :=
  ⟨fun h => by rw [if_pos (hvalid.2 h), hc], fun h => if_neg fun hv => h (hvalid.1 hv)⟩

/-- R20 to R27: which images are valid, and what they commit. -/
theorem judgeImage_spec {sec : Section} {image : List Byte} (h : image.length = sec.imageLength) :
    (ImageValid (imageField image) sec → judgeImage sec image = some (imageContent (imageField image) sec)) ∧
    (¬ImageValid (imageField image) sec → judgeImage sec image = none) := by
  have hf := fld_fieldsOf (h ▸ four_dvd_imageLength sec)
  cases sec with
  | channelMap => exact ite_some_of_iff (validChannelMap_iff hf) (channelMapOf_eq hf)
  | drop => exact ite_some_of_iff (validDrop_iff hf) (dropOf_eq hf)
  | mediaProfile => exact ite_some_of_iff (validMediaProfile_iff hf) (mediaProfileOf_eq hf)
  | price => exact ite_some_of_iff (validPrice_iff hf) (priceOf_eq hf)
  | patch => exact ite_some_of_iff (validPatch_iff hf) (patchOf_eq hf)
  | tolerance => exact ite_some_of_iff (validTolerance_iff hf) (toleranceOf_eq hf)
  | maintenance => exact ite_some_of_iff (validMaintenance_iff hf) (maintenanceOf_eq hf)
  | notice => exact ite_some_of_iff (validNotice_iff hf) (noticeOf_eq hf)

/-! ### The take of an entry that nothing holds back (R9) -/

section Take

variable {k : StreamKind} {can : IntakeEntry → State → Bool} {act : IntakeEntry → State → State} {s : State}
  {e : IntakeEntry} {rest : List IntakeEntry}

/-- R56, R37: no abort's panel close comes before a take. -/
theorem TakeReady.panelCloseDue (h : TakeReady s e rest) : panelCloseDue s = false := by
  obtain ⟨-, -, -, hlock | hnone⟩ := h
  · simp [Machine.panelCloseDue, locked, hlock]
  · simp only [Machine.panelCloseDue, Bool.and_eq_false_iff, List.any_eq_false]
    exact .inr fun i hi => by simp [hnone i hi]

/-- R9: what a take does rests on whether the owner can take the entry. -/
theorem TakeReady.take_eq (h : TakeReady s e rest) (hk : e.kind = k) : take k can act s.clearOut =
    if can e s.clearOut = true then act e (afterTake s rest) else s.clearOut := by
  have hdue : Machine.panelCloseDue s.clearOut = false := h.panelCloseDue
  obtain ⟨hintake, hreplies, hhold, -⟩ := h
  have hheld : intakeHeld s.clearOut = false := by
    rw [intakeHeld, actsAtOnce_clearOut, (actsAtOnce_iff s).2 ⟨hreplies, hhold⟩]
    rfl
  simp only [take, State.clearOut_link, hintake, hk, hheld, hdue, true_and]
  rfl

end Take

/-! ### TABLE_LOAD (R29) -/

theorem sectionOf_iff (n : Nat) (sec : Section) : sectionOf n = some sec ↔
    (n, sec) ∈ [(1, Section.channelMap), (2, .drop), (3, .mediaProfile), (4, .price), (5, .patch), (6, .tolerance),
      (7, .maintenance), (8, .notice)] := by
  unfold sectionOf
  split <;> simp_all [eq_comm]

section Load

variable {s : State} {e : IntakeEntry} {rest : List IntakeEntry} {sec : Section}

/-- R29, R35: when the owner can take the record. -/
theorem canLoadTable_iff (hsec : tableLoadSection e.body = some sec) : canLoadTable e s = true ↔
    s.tables.lock ≠ some sec ∧ (sec = .drop → ∀ b ∈ s.path.store, b.state ≠ .filled) := by
  simp only [canLoadTable, hsec, locked, Bool.and_eq_true, Bool.not_eq_true', beq_eq_false_iff_ne, ne_eq,
    Bool.and_eq_false_iff, List.any_eq_false, beq_iff_eq, ← imp_iff_not_or]

/-- R29: a good body has an image of the section's length behind three zero bytes. -/
theorem tableLoadBody_eq_some_iff {body image : List Byte} (hsec : tableLoadSection body = some sec) :
    tableLoadBody body = some (sec, image) ↔
      body.drop 1 = [0#8, 0#8, 0#8] ++ image ∧ image.length = sec.imageLength := by
  simp only [tableLoadBody, hsec, Option.ite_none_right_eq_some, Option.some.injEq, Prod.mk.injEq, true_and]
  match body with
  | code :: x :: y :: z :: more =>
    simp only [zeros_reserved, List.length_cons, List.drop_succ_cons, List.drop_zero, List.cons_append,
      List.nil_append, List.cons.injEq]
    constructor
    · rintro ⟨⟨hlength, rfl, rfl, rfl⟩, rfl⟩
      exact ⟨⟨rfl, rfl, rfl, rfl⟩, by omega⟩
    · rintro ⟨⟨rfl, rfl, rfl, rfl⟩, hlength⟩
      exact ⟨⟨by omega, rfl, rfl, rfl⟩, rfl⟩
  | [] | [_] | [_, _] | [_, _, _] =>
    simp only [List.length_cons, List.length_nil]
    refine ⟨fun h => ?_, fun h => ?_⟩
    · omega
    · simp at h

theorem tableLoadBody_eq_none {body : List Byte} (hsec : tableLoadSection body = some sec)
    (h : ∀ image, body.drop 1 = [0#8, 0#8, 0#8] ++ image → image.length ≠ sec.imageLength) :
    tableLoadBody body = none := by
  by_contra hsome
  obtain ⟨⟨sec', image⟩, hbody⟩ := Option.ne_none_iff_exists'.1 hsome
  obtain rfl : sec' = sec := by
    simp only [tableLoadBody, hsec, Option.ite_none_right_eq_some, Option.some.injEq, Prod.mk.injEq] at hbody
    exact hbody.2.1.symm
  obtain ⟨hdrop, hlength⟩ := (tableLoadBody_eq_some_iff hsec).1 hbody
  exact h image hdrop hlength

/-- R29: a valid image is committed. -/
theorem judgeTableLoad_good {body image : List Byte} {c : Content} (hload : tableLoadBody body = some (sec, image))
    (hgood : judgeImage sec image = some c) (s : State) : judgeTableLoad body s = (commitContent c s, .ok) := by
  rw [judgeTableLoad, hload]
  dsimp only
  rw [hgood]

/-- R29: an entry that its owner cannot take yet waits. -/
theorem tableLoad_waits (h : TakeReady s e rest) (hk : e.kind = .tableLoad) (hcan : canLoadTable e s = false) :
    Waits .tableLoad s := by
  refine command_eq ((h.take_eq hk).trans (if_neg ?_))
  rw [show canLoadTable e s.clearOut = false from hcan]
  decide

/-- R29, R10: an entry that its owner can take is answered. -/
theorem tableLoad_answered (h : TakeReady s e rest) (hk : e.kind = .tableLoad) (hcan : canLoadTable e s = true)
    {t : State} {st : Status} (hjudge : judgeTableLoad e.body (afterTake s rest) = (t, st)) :
    Leaves .tableLoad s
      (reply e.tag st .empty (captureIf st (goodWire e.kind.code 0#8 e.tag e.body) e.length t)) := by
  refine command_eq ((h.take_eq hk).trans ((if_pos hcan).trans ?_))
  rw [hjudge]
  rfl

theorem tableLoad_refused (h : TakeReady s e rest) (hk : e.kind = .tableLoad) (hcan : canLoadTable e s = true)
    (hbody : tableLoadBody e.body = none) : Leaves .tableLoad s (takeBad s e rest) :=
  tableLoad_answered h hk hcan (t := afterTake s rest) (st := .badRecord) (by simp only [judgeTableLoad, hbody])

end Load

/-- Settles O25: the take of TABLE_LOAD, and the images of the sections. -/
theorem tableLoadTaken : Obligations.TableLoadTaken := by
  refine ⟨fun s e rest hready hk => ⟨fun sec hsec => ⟨fun hwait => ?_, fun hlock hdrop => ?_⟩, fun hnone => ?_⟩,
    ⟨rfl, fun _ _ => rfl⟩, sectionOf_iff, fun sec => by cases sec <;> decide, fun sec image => judgeImage_spec⟩
  · refine tableLoad_waits hready hk (Bool.eq_false_of_not_eq_true ?_)
    rw [canLoadTable_iff hsec]
    rintro ⟨hfree, hcounted⟩
    obtain hlock | ⟨hdrop, b, hb, hfilled⟩ := hwait
    · exact hfree hlock
    · exact hcounted hdrop b hb hfilled
  · have hcan : canLoadTable e s = true := (canLoadTable_iff hsec).2 ⟨hlock, hdrop⟩
    refine ⟨fun image c hbody hlength hgood => ?_, fun image hbody hlength hbad => ?_, fun hno =>
      tableLoad_refused hready hk hcan (tableLoadBody_eq_none hsec hno)⟩
    · have hload := (tableLoadBody_eq_some_iff hsec).2 ⟨hbody, hlength⟩
      exact tableLoad_answered hready hk hcan (judgeTableLoad_good hload hgood _)
    · have hload := (tableLoadBody_eq_some_iff hsec).2 ⟨hbody, hlength⟩
      have hleaves := tableLoad_answered hready hk hcan (t := afterTake s rest) (st := .badTable)
        (by simp only [judgeTableLoad, hload, hbad])
      rw [captureIf_badTable, hk] at hleaves
      exact hleaves
  · have hbody : tableLoadBody e.body = none := by simp only [tableLoadBody, hnone]
    exact tableLoad_refused hready hk (by simp only [canLoadTable, hnone]) hbody

end Sys2Proof.Machine

/-! ## Rows that join an abort feed, and the moves of an item towards its close (R52, R56) -/

namespace Sys2Proof.Machine

/-! ### Rows join the abort feed (R56) -/

/-- R56: the item counts the rows that join its abort feed. -/
def abortRowsCounted (u rows : Nat) (s : State) : State :=
  mapItem u (fun k => { k with abortFeedRows := k.abortFeedRows + rows }) s

section Join

variable {u rows : Nat} {s : State}

theorem joinAbortFeed_zero (u : Nat) (s : State) : joinAbortFeed u 0 s = s := rfl

/-- R56: an abort feed of the item that waits for a place grows. -/
theorem joinAbortFeed_waiting (hrows : 0 < rows) (h : ∃ o ∈ s.path.abortWait, o.isAbortFeed u = true) :
    joinAbortFeed u rows s = (abortRowsCounted u rows s).onPath fun p =>
      { p with abortWait := p.abortWait.map fun o => if o.isAbortFeed u then o.addRows rows else o } := by
  have hany : s.path.abortWait.any (Op.isAbortFeed u) = true := List.any_eq_true.2 h
  simp only [joinAbortFeed, if_neg hrows.ne', mapItem_frame, hany, if_true]
  rfl

theorem any_queueOps_iff (p : Op → Bool) (queue : List QEntry) :
    (queue.filterMap QEntry.op?).any p = true ↔ ∃ o, .op o ∈ queue ∧ p o = true := by
  have hop (q : QEntry) (o : Op) : q.op? = some o ↔ q = .op o := by cases q <;> simp [QEntry.op?]
  simp only [List.any_eq_true, List.mem_filterMap, hop]
  exact ⟨fun ⟨o, ⟨_, hq, ho⟩, hp⟩ => ⟨o, ho ▸ hq, hp⟩, fun ⟨o, hq, hp⟩ => ⟨o, ⟨_, hq, rfl⟩, hp⟩⟩

/-- R56: an abort feed of the item that no offer has reached grows in the queue. -/
theorem joinAbortFeed_queued (hrows : 0 < rows) (hwait : ∀ o ∈ s.path.abortWait, o.isAbortFeed u = false)
    (h : ∃ o, .op o ∈ s.path.queue ∧ o.isAbortFeed u = true) :
    joinAbortFeed u rows s = (abortRowsCounted u rows s).onPath fun p =>
      { p with queue := p.queue.map (QEntry.addAbortRows u rows) } := by
  have hnone : s.path.abortWait.any (Op.isAbortFeed u) = false := List.any_eq_false.2 fun o ho => by simp [hwait o ho]
  have hany := (any_queueOps_iff (Op.isAbortFeed u) s.path.queue).2 h
  simp only [joinAbortFeed, if_neg hrows.ne', mapItem_frame, hnone, hany, Bool.false_eq_true, if_false, if_true]
  rfl

theorem placesHeld_abortRowsCounted (u rows : Nat) (s : State) :
    placesHeld (abortRowsCounted u rows s) = placesHeld s := rfl

/-- R56, R68: with no abort feed of the item to grow, a further one arises. -/
theorem joinAbortFeed_new (hrows : 0 < rows) (hwait : ∀ o ∈ s.path.abortWait, o.isAbortFeed u = false)
    (hqueue : ∀ o, .op o ∈ s.path.queue → o.isAbortFeed u = false) :
    joinAbortFeed u rows s = if placesHeld s < 4 ∧ s.path.abortWait = [] then
        (abortRowsCounted u rows s).onPath fun p => { p with
          nextArise := p.nextArise + 1, queue := p.queue ++ [.op (newAbortFeed u rows s)] }
      else
        (abortRowsCounted u rows s).onPath fun p => { p with
          nextArise := p.nextArise + 1,
          abortWait := insertAbort (abortRowsCounted u rows s) (newAbortFeed u rows s) p.abortWait } := by
  have hnone : s.path.abortWait.any (Op.isAbortFeed u) = false := List.any_eq_false.2 fun o ho => by simp [hwait o ho]
  have hnew : (s.path.queue.filterMap QEntry.op?).any (Op.isAbortFeed u) = false := by
    rw [Bool.eq_false_iff, ne_eq, any_queueOps_iff]
    rintro ⟨o, ho, hfeed⟩
    simp [hqueue o ho] at hfeed
  have hfree : (placeFree (abortRowsCounted u rows s) && s.path.abortWait.isEmpty) = true ↔
      placesHeld s < 4 ∧ s.path.abortWait = [] := by
    rw [Bool.and_eq_true, List.isEmpty_iff, placeFree, decide_eq_true_eq, placesHeld_abortRowsCounted, generalPlaces]
  simp only [joinAbortFeed, if_neg hrows.ne', mapItem_frame, hnone, hnew, Bool.false_eq_true, if_false]
  rw [← abortRowsCounted, ← newAbortFeed]
  split
  · next h => rw [if_pos (hfree.1 h)]
  · next h => rw [if_neg fun hs => h (hfree.2 hs)]

end Join

/-! ### The order of the aborts (R56) -/

@[simp] theorem abortOrder_abortRowsCounted (u rows : Nat) (s : State) (o : Op) :
    o.abortOrder (abortRowsCounted u rows s) = o.abortOrder s := by
  have hfind (v : Nat) : (findItem (abortRowsCounted u rows s) v).map Item.abortOrder =
      (findItem s v).map Item.abortOrder := 
    findItem_mapItem_map (f := fun k => { k with abortFeedRows := k.abortFeedRows + rows }) (fun _ => rfl)
      (fun _ => rfl) u v s
  cases howner : o.owner with
  | none => simp [Op.abortOrder, howner]
  | some v => simp [Op.abortOrder, howner, hfind v]

theorem abortedBefore_iff (s : State) (o w : Op) : AbortedBefore s o w ↔ o.abortOrder s < w.abortOrder s := by
  unfold AbortedBefore Op.abortOrder
  cases w.owner.bind (findItem s) <;> cases o.owner.bind (findItem s) <;> simp

/-- R56: where a new abort feed goes among the waiting ones. -/
theorem insertAbort_of_split {s : State} {o : Op} {older younger : List Op}
    (ho : ∀ w ∈ older, ¬o.abortOrder s < w.abortOrder s) (hy : ∀ w ∈ younger.head?, o.abortOrder s < w.abortOrder s) :
    insertAbort s o (older ++ younger) = older ++ o :: younger := by
  induction older with
  | nil =>
    cases younger with
    | nil => rfl
    | cons w rest => exact if_pos (hy w rfl)
  | cons w older ih =>
    rw [List.cons_append, insertAbort, if_neg (ho w (by simp)), ih fun v hv => ho v (by simp [hv])]
    rfl

/-- R56: a further abort feed waits before that of an item aborted after its own. -/
theorem insertAbort_newAbortFeed {u rows : Nat} {s : State} {older younger : List Op}
    (hsplit : s.path.abortWait = older ++ younger) (ho : ∀ w ∈ older, ¬AbortedBefore s (newAbortFeed u rows s) w)
    (hy : ∀ w ∈ younger.head?, AbortedBefore s (newAbortFeed u rows s) w) :
    insertAbort (abortRowsCounted u rows s) (newAbortFeed u rows s) s.path.abortWait =
      older ++ newAbortFeed u rows s :: younger := by
  simp only [abortedBefore_iff] at ho hy
  rw [hsplit]
  exact insertAbort_of_split (by simpa using ho) (by simpa using hy)

/-! ### ABORT_PANEL_CLOSE (R56, R37) -/

/-- R56: the pending close of an abort, with MEDIA_PROFILE free. -/
theorem closePending_eq {s : State} {i : Item} {p : MediaProfile} (hi : findItem s i.uid = some i)
    (hopen : 0 < i.openRows) (hlock : s.tables.lock ≠ some .mediaProfile) (hp : s.tables.mediaProfile = some p)
    (t : Time) : closePending i.uid t s = advanceItem i.uid (joinAbortFeed i.uid p.gutter
      (closePanel i.uid true (some t) (mapItem i.uid (fun k => { k with pendingClose := none }) s))) := by
  have hfind : findItem (mapItem i.uid (fun k => { k with pendingClose := none }) s) i.uid =
      some { i with pendingClose := none } := findItem_mapItem_self (fun _ => rfl) hi
  simp [closePending, closeAborted, hfind, hopen.ne', locked, hlock, hp]

theorem exec_abortPanelClose (s : State) : exec .abortPanelClose s = execAbortPanelClose s := rfl

theorem exec_abortPanelClose_due {s : State} {i : Item} {t : Time}
    (hi : (s.items.live.find? fun k => k.pendingClose.isSome) = some i) (ht : i.pendingClose = some t) :
    exec .abortPanelClose s = .next (keepRunOut
      (if s.tables.lock = some .mediaProfile then s.clearOut else closePending i.uid t s.clearOut)) := by
  rw [exec_abortPanelClose, execAbortPanelClose]
  refine command_eq ?_
  simp [hi, ht, locked]

theorem exec_abortPanelClose_none {s : State} (h : ∀ i ∈ s.items.live, i.pendingClose = none) :
    Waits .abortPanelClose s := by
  rw [Waits, exec_abortPanelClose, execAbortPanelClose]
  have hnone : (s.items.live.find? fun k => k.pendingClose.isSome) = none :=
    List.find?_eq_none.2 fun i hi => by simp [h i hi]
  refine command_eq ?_
  simp [hnone]

/-! ### The moves of an item (R52) -/

/-- R52: the items `u` take a state. -/
def itemMoved (u : Nat) (st : ItemState) (s : State) : State := mapItem u (fun k => { k with state := st }) s

/-- R52, R59: the item `i` has become SETTLING, with its notice. -/
def itemSettled (i : Item) (s : State) : State :=
  raise (.item .settling { i with state := .settling }.body) (itemMoved i.uid .settling s)

/-- R52, R173: the item `i` has become COSTING, with its notice, and joined the costing queue. -/
def itemToCost (i : Item) (s : State) : State :=
  (raise (.item .costing { i with state := .costing }.body) (itemMoved i.uid .costing s)).onCosting fun c =>
    { c with queue := c.queue ++ [i.uid] }

/-- R59: the notice of a move shows the item as moved. -/
theorem raiseItem_itemMoved {s : State} {i : Item} (hi : findItem s i.uid = some i) (c : ItemCode) (st : ItemState) :
    raiseItem c i.uid (itemMoved i.uid st s) = raise (.item c { i with state := st }.body) (itemMoved i.uid st s) := by
  have hfind : findItem (itemMoved i.uid st s) i.uid = some { i with state := st } :=
    findItem_mapItem_self (fun _ => rfl) hi
  rw [raiseItem, hfind]

/-- R52: what keeps an item from COSTING. -/
theorem itemBusy_iff (s : State) (i : Item) : itemBusy s i = true ↔
    (∃ t ∈ s.media.stops, t.item = i.uid) ∨ (∃ o ∈ liveOps s, o.owner = some i.uid) ∨ i.pendingClose ≠ none := by
  simp only [itemBusy, Bool.or_eq_true, List.any_eq_true, beq_iff_eq, Option.isSome_iff_ne_none, or_assoc]

theorem itemBusy_congr {s t : State} {i k : Item} (hmedia : t.media = s.media) (hpath : t.path = s.path)
    (huid : k.uid = i.uid) (hclose : k.pendingClose = i.pendingClose) : itemBusy t k = itemBusy s i := by
  simp only [itemBusy, liveOps, flightOp, hmedia, hpath, huid, hclose]

theorem hasBand_iff (s : State) (u : Nat) : hasBand s u = true ↔ ∃ b ∈ s.path.store, b.item = u := by
  simp [hasBand, List.any_eq_true]

theorem hasBand_eq_false_iff (s : State) (u : Nat) : hasBand s u = false ↔ ∀ b ∈ s.path.store, b.item ≠ u := by
  simp [hasBand, List.any_eq_false]

section Moves

variable {s : State} {i : Item} (hi : findItem s i.uid = some i)

include hi

/-- R52: a CLOSING item with a band in the store stays, and so does an item in another state. -/
theorem toSettling_stays (h : hasBand s i.uid = true ∨
    i.state ≠ .closing ∧ (i.state = .held → i.under ≠ some .closing)) : toSettling i.uid s = s := by
  simp only [toSettling, hi]
  obtain hband | ⟨hclosing, hheld⟩ := h
  · rw [if_pos hband]
  · have hnot : ¬(i.state = .held ∧ i.under = some .closing) := fun ⟨hs, hu⟩ => hheld hs hu
    simp only [if_neg hclosing, if_neg hnot, ite_self]

theorem toSettling_settles (hband : hasBand s i.uid = false) (hstate : i.state = .closing) :
    toSettling i.uid s = itemSettled i s := by
  simp only [toSettling, hi, hband, Bool.false_eq_true, if_false, if_pos hstate]
  exact raiseItem_itemMoved hi _ _

/-- R52: a HELD item's state under hold moves with no notice (log 19). -/
theorem toSettling_held (hband : hasBand s i.uid = false) (hstate : i.state = .held) (hunder : i.under = some .closing) :
    toSettling i.uid s = mapItem i.uid (fun k => { k with under := some .settling }) s := by
  simp only [toSettling, hi, hband, Bool.false_eq_true, if_false, hstate, reduceCtorEq, hunder, and_self, if_true]

theorem toCosting_stays (h : i.state ≠ .settling ∨ itemBusy s i = true) : toCosting i.uid s = s := by
  simp only [toCosting, hi]
  rw [if_neg]
  rintro ⟨hstate, hbusy⟩
  obtain h | h := h
  · exact h hstate
  · simp [h] at hbusy

/-- R52, R173: a SETTLING item that nothing keeps joins the costing queue, and is priced where it is alone there and
PRICE can be read. -/
theorem toCosting_joins (hstate : i.state = .settling) (hbusy : itemBusy s i = false) : toCosting i.uid s =
    if s.costing.queue = [] ∧ priceReadable s = true then priceItem i.uid (itemToCost i s) else itemToCost i s := by
  have hmoved : (raiseItem .costing i.uid (mapItem i.uid (fun k => { k with state := .costing }) s)) =
      raise (.item .costing { i with state := .costing }.body) (itemMoved i.uid .costing s) :=
    raiseItem_itemMoved hi _ _
  have hreadable : priceReadable (itemToCost i s) = priceReadable s := by
    simp [priceReadable, locked, itemToCost, itemMoved]
  have hcosting : (raise (.item .costing { i with state := .costing }.body) (itemMoved i.uid .costing s)).costing =
      s.costing := by simp [itemMoved]
  have holder : (!s.costing.queue.isEmpty) = false ↔ s.costing.queue = [] := by simp
  simp only [toCosting, hi, hstate, hbusy, and_self, if_true, hmoved]
  rw [← itemToCost, hreadable]
  simp only [hcosting, holder]

/-- R52: once an item is SETTLING, by an earlier move or this one, its next is the rest of the step. -/
theorem itemSettled_spec :
    findItem (itemSettled i s) i.uid = some { i with state := .settling } ∧
    itemBusy (itemSettled i s) { i with state := .settling } = itemBusy s i ∧
    (itemSettled i s).costing = s.costing ∧ (itemSettled i s).tables = s.tables ∧ (itemSettled i s).out = s.out := by
  have hfind : findItem (itemMoved i.uid .settling s) i.uid = some { i with state := .settling } :=
    findItem_mapItem_self (fun _ => rfl) hi
  refine ⟨(findItem_congr (by simp [itemSettled]) _).trans hfind, itemBusy_congr ?_ ?_ rfl rfl, ?_, ?_, ?_⟩ <;>
    simp [itemSettled, itemMoved]

/-! What a step of R52 comes to, by the state it finds the item in. -/

theorem advanceItem_of_closing_band (hstate : i.state = .closing) (hband : hasBand s i.uid = true) :
    advanceItem i.uid s = s := by
  rw [advanceItem, toSettling_stays hi (.inl hband), toCosting_stays hi (.inl (by simp [hstate]))]

theorem advanceItem_of_closing_busy (hstate : i.state = .closing) (hband : hasBand s i.uid = false)
    (hbusy : itemBusy s i = true) : advanceItem i.uid s = itemSettled i s := by
  obtain ⟨hfind, hsame, -⟩ := itemSettled_spec hi
  rw [advanceItem, toSettling_settles hi hband hstate]
  exact toCosting_stays (i := { i with state := .settling }) hfind (.inr (hsame.trans hbusy))

theorem advanceItem_of_settling_busy (hstate : i.state = .settling) (hbusy : itemBusy s i = true) :
    advanceItem i.uid s = s := by
  rw [advanceItem, toSettling_stays hi (.inr (by simp [hstate])), toCosting_stays hi (.inr hbusy)]

/-- R52, R173: an item that nothing keeps, SETTLING before the step or by it, joins the costing queue. -/
theorem advanceItem_of_idle {before : State} (hidle : itemBusy s i = false)
    (h : i.state = .settling ∧ before = s ∨
      i.state = .closing ∧ hasBand s i.uid = false ∧ before = itemSettled i s) :
    (advanceItem i.uid s = if s.costing.queue = [] ∧ priceReadable s = true then
        priceItem i.uid (itemToCost { i with state := .settling } before)
      else itemToCost { i with state := .settling } before) ∧
    before.costing = s.costing ∧ priceReadable before = priceReadable s ∧ before.out = s.out := by
  obtain ⟨hstate, rfl⟩ | ⟨hstate, hband, rfl⟩ := h
  · have hself : { i with state := .settling } = i := by rw [← hstate]
    rw [hself, advanceItem, toSettling_stays hi (.inr (by simp [hstate]))]
    exact ⟨toCosting_joins hi hstate hidle, rfl, rfl, rfl⟩
  · obtain ⟨hfind, hsame, hcosting, htables, hout⟩ := itemSettled_spec hi
    have hreadable : priceReadable (itemSettled i s) = priceReadable s := by simp only [priceReadable, locked, htables]
    have hjoin := toCosting_joins hfind rfl (hsame.trans hidle)
    rw [hcosting, hreadable] at hjoin
    rw [advanceItem, toSettling_settles hi hband hstate]
    exact ⟨hjoin, hcosting, hreadable, hout⟩

theorem advanceItem_of_held_closing (hstate : i.state = .held) (hunder : i.under = some .closing)
    (hband : hasBand s i.uid = false) :
    advanceItem i.uid s = mapItem i.uid (fun k => { k with under := some .settling }) s := by
  have hfind : findItem (mapItem i.uid (fun k => { k with under := some .settling }) s) i.uid =
      some { i with under := some .settling } := findItem_mapItem_self (fun _ => rfl) hi
  rw [advanceItem, toSettling_held hi hband hstate hunder]
  exact toCosting_stays (i := { i with under := some .settling }) hfind (.inl (by simp [hstate]))

theorem advanceItem_of_other (h : i.state = .opened ∨ i.state = .costing ∨
    i.state = .held ∧ (i.under ≠ some .closing ∨ hasBand s i.uid = true)) : advanceItem i.uid s = s := by
  have hstays : toSettling i.uid s = s := by
    obtain hstate | hstate | ⟨hstate, hunder | hband⟩ := h
    · exact toSettling_stays hi (.inr (by simp [hstate]))
    · exact toSettling_stays hi (.inr (by simp [hstate]))
    · exact toSettling_stays hi (.inr (by simp [hstate, hunder]))
    · exact toSettling_stays hi (.inl hband)
  have hnot : i.state ≠ .settling := by
    obtain hstate | hstate | ⟨hstate, -⟩ := h <;> simp [hstate]
  rw [advanceItem, hstays, toCosting_stays hi (.inl hnot)]

end Moves

theorem clearOut_of_out_nil {s : State} (h : s.out = []) : s.clearOut = s := by
  rw [State.clearOut, ← h]

/-- R173: what the pricing of an item alone in the queue leaves is what ITEM_PRICING leaves. -/
theorem leaves_itemPricing_itemToCost {s : State} {i : Item} (hqueue : s.costing.queue = [])
    (hr : priceReadable s = true) (hout : s.out = []) :
    Leaves .itemPricing (itemToCost i s) (priceItem i.uid (itemToCost i s)) := by
  have hreadable : priceReadable (itemToCost i s) = true := by
    simpa [priceReadable, locked, itemToCost, itemMoved] using hr
  have hdue := exec_itemPricing_due (s := itemToCost i s) (u := i.uid) (rest := [])
    (by simp [itemToCost, itemMoved, hqueue]) hreadable
  rw [clearOut_of_out_nil (s := itemToCost i s) (by simpa [itemToCost, itemMoved] using hout)] at hdue
  exact hdue

/-! ### The claims -/

/-- R56: growing an abort feed, as the claim gives it by its cases. -/
theorem grown_eq {uid n : Nat} {mine : Op → Bool} {grown : Op → Op}
    (hmine : ∀ o, mine o = true ↔ WaitingAbortFeed uid o) (hother : ∀ o, mine o = false → grown o = o)
    (hgrown : ∀ o rows, mine o = true → o.work = .feed .abort rows →
      grown o = { o with work := .feed .abort (rows + n) }) (o : Op) :
    grown o = if o.isAbortFeed uid then o.addRows n else o := by
  have hsame : mine o = o.isAbortFeed uid := Bool.eq_iff_iff.2 ((hmine o).trans (isAbortFeed_iff uid o).symm)
  rw [← hsame]
  cases h : mine o with
  | false => exact hother o h
  | true =>
    obtain ⟨-, -, rows, hwork⟩ := (hmine o).1 h
    rw [hgrown o rows h hwork]
    simp [Op.addRows, hwork]

/-- Settles O34: the pending close, the rows that join, and the moves of R52. -/
theorem abortPanelCloses : Obligations.AbortPanelCloses := by
  refine ⟨fun i fallback s hi ht => ⟨fun hlock => ?_, fun p hlock hp hopen hfind => ?_⟩,
    fun s => exec_abortPanelClose_none, ?_, ?_⟩
  · exact (exec_abortPanelClose_due hi ht).trans (by rw [if_pos hlock])
  · have hdue := exec_abortPanelClose_due hi ht
    rwa [if_neg hlock, closePending_eq (s := s.clearOut) hfind hopen hlock hp] at hdue
  · rintro uid n mine grown s u hmine hother hgrown rfl
    have heq := grown_eq hmine hother hgrown
    have hsame (o : Op) : mine o = o.isAbortFeed uid :=
      Bool.eq_iff_iff.2 ((hmine o).trans (isAbortFeed_iff uid o).symm)
    simp only [hsame]
    refine ⟨fun h0 => h0 ▸ joinAbortFeed_zero uid s, fun hn hwait => ?_, fun hn hwait hqueue => ?_,
      fun hn hwait hqueue o ho => ⟨fun hplace hempty => ?_, fun older younger hplace hsplit holder hyounger => ?_⟩⟩
    · rw [joinAbortFeed_waiting hn hwait, funext heq]
      rfl
    · have hgrow : QEntry.addAbortRows uid n = fun q => match q with
          | .op o => .op (grown o)
          | .band b => .band b := by
        funext q
        cases q with
        | band b => rfl
        | op o =>
          simp only [QEntry.addAbortRows, heq]
          split <;> rfl
      rw [joinAbortFeed_queued hn hwait hqueue, hgrow]
      rfl
    · obtain rfl : o = newAbortFeed uid n s := ho
      rw [joinAbortFeed_new hn hwait hqueue, if_pos ⟨hplace, hempty⟩]
      rfl
    · obtain rfl : o = newAbortFeed uid n s := ho
      have hfull : ¬(placesHeld s < 4 ∧ s.path.abortWait = []) := fun ⟨hfree, hnone⟩ =>
        hplace.elim (Nat.not_le.2 hfree) fun hsome => hsome hnone
      rw [joinAbortFeed_new hn hwait hqueue, if_neg hfull, ← insertAbort_newAbortFeed hsplit holder hyounger]
      rfl
  · intro uid i body busy s settled hi hbody hbusy hsettled
    obtain ⟨-, rfl⟩ := mem_of_findItem hi
    have hbody' (st : ItemState) : body st = { i with state := st }.body := hbody st
    obtain rfl : settled = itemSettled i s := hsettled.trans (by rw [hbody']; rfl)
    have hbusy' : busy ↔ itemBusy s i = true := hbusy.trans (itemBusy_iff s i).symm
    simp only [ne_eq, ← hasBand_iff, ← hasBand_eq_false_iff]
    have hidle (hb : ¬busy) : itemBusy s i = false := Bool.eq_false_of_not_eq_true fun h => hb (hbusy'.2 h)
    refine ⟨advanceItem_of_closing_band hi, fun hstate hband hb => advanceItem_of_closing_busy hi hstate hband
      (hbusy'.1 hb), fun hstate hb => advanceItem_of_settling_busy hi hstate (hbusy'.1 hb),
      fun before costed hb hbefore hcosted => ?_, advanceItem_of_held_closing hi, advanceItem_of_other hi⟩
    obtain ⟨hmove, hcosting, hreadable, hout⟩ := advanceItem_of_idle hi (hidle hb) hbefore
    obtain rfl : costed = itemToCost { i with state := .settling } before := hcosted.trans (by rw [hbody']; rfl)
    refine ⟨fun hwait => hmove.trans (if_neg ?_), fun hempty hprice hlock => ?_⟩
    · rintro ⟨hempty, hr⟩
      obtain hqueue | hprice := hwait
      · exact hqueue hempty
      · simp [priceReadable_eq_false hprice] at hr
    · obtain ⟨p, hp⟩ := Option.ne_none_iff_exists'.1 hprice
      have hr := priceReadable_of_price hp hlock
      exact ⟨hmove.trans (if_pos ⟨hempty, hr⟩), fun hnone =>
        leaves_itemPricing_itemToCost (i := { i with state := .settling }) (hcosting ▸ hempty)
          (hreadable.trans hr) (hout.trans hnone)⟩

end Sys2Proof.Machine

/-! ## The slots and accounts under the operations of the ink station (R93, R107 to R113) -/

namespace Sys2Proof.Machine

/-! ### One channel of the ink station at a time -/

theorem slot_congr {s t : State} (h : t.ink = s.ink) (c : Chan) : slot t c = slot s c := by rw [slot, h, slot]

theorem account_congr {s t : State} (h : t.ink = s.ink) (c : Chan) : account t c = account s c := by
  rw [account, h, account]

/-- A state keeps what its command has sent. -/
theorem out_kept (s : State) : s.out <+: s.out := ⟨[], List.append_nil _⟩

/-- An operation on the channel `c`: what it leaves of the other channels and of the rest of the part. -/
def OnChannel (c : Chan) (s t : State) : Prop :=
  t.now = s.now ∧ t.tables = s.tables ∧ (∀ b, b ≠ c → slot t b = slot s b ∧ account t b = account s b) ∧
    t.ink.waits = s.ink.waits ∧ t.ink.waitAsker = s.ink.waitAsker ∧ s.out <+: t.out

section OnChannel

variable {c : Chan} {r s t : State}

theorem OnChannel.trans (hr : OnChannel c r s) (hs : OnChannel c s t) : OnChannel c r t := by
  obtain ⟨hnow, htables, hothers, hwaits, hasker, hout⟩ := hr
  obtain ⟨hnow', htables', hothers', hwaits', hasker', hout'⟩ := hs
  refine ⟨hnow'.trans hnow, htables'.trans htables, fun b hb => ?_, hwaits'.trans hwaits, hasker'.trans hasker,
    hout.trans hout'⟩
  obtain ⟨hslot, haccount⟩ := hothers b hb
  obtain ⟨hslot', haccount'⟩ := hothers' b hb
  exact ⟨hslot'.trans hslot, haccount'.trans haccount⟩

theorem OnChannel.of_ink (hnow : t.now = s.now) (htables : t.tables = s.tables) (hink : t.ink = s.ink)
    (hout : s.out <+: t.out) : OnChannel c s t :=
  ⟨hnow, htables, fun b _ => ⟨slot_congr hink b, account_congr hink b⟩, by rw [hink], by rw [hink], hout⟩

theorem OnChannel.refl (c : Chan) (s : State) : OnChannel c s s := .of_ink rfl rfl rfl (out_kept s)

theorem onChannel_raise (c : Chan) (n : Notice) (s : State) : OnChannel c s (raise n s) :=
  .of_ink (by simp) (by simp) (by simp) (by simp)

theorem onChannel_send (c : Chan) (o : Output) (s : State) : OnChannel c s (s.send o) :=
  .of_ink rfl rfl rfl (⟨[o], rfl⟩)

theorem onChannel_mapSlot (c : Chan) (f : Slot → Slot) (s : State) : OnChannel c s (mapSlot c f s) :=
  ⟨rfl, rfl, fun _ hb => ⟨slot_mapSlot_of_ne hb f s, rfl⟩, rfl, rfl, out_kept s⟩

theorem onChannel_mapCart (c : Chan) (f : Cartridge → Cartridge) (s : State) : OnChannel c s (mapCart c f s) :=
  onChannel_mapSlot c _ s

theorem account_mapAccount (c : Chan) (f : Account → Account) (s : State) :
    account (mapAccount c f s) c = f (account s c) := by
  simp [account, mapAccount]

theorem account_mapAccount_of_ne {b c : Chan} (h : b ≠ c) (f : Account → Account) (s : State) :
    account (mapAccount c f s) b = account s b := by
  have hval : c.val ≠ b.val := fun hv => h (Fin.ext hv.symm)
  simp [account, mapAccount, Vector.getElem_set_ne _ _ hval]

theorem onChannel_mapAccount (c : Chan) (f : Account → Account) (s : State) : OnChannel c s (mapAccount c f s) :=
  ⟨rfl, rfl, fun _ hb => ⟨rfl, account_mapAccount_of_ne hb f s⟩, rfl, rfl, out_kept s⟩

theorem onChannel_listCart (c : Chan) (s : State) : OnChannel c s (listCart c s) := by
  unfold listCart
  dsimp only
  split
  · exact ⟨rfl, rfl, fun _ _ => ⟨rfl, rfl⟩, rfl, rfl, out_kept s⟩
  · exact .refl c s

theorem onChannel_moveCart (c : Chan) (dest : CartState) (cause : CartCause) (s : State) :
    OnChannel c s (moveCart c dest cause s) := by
  unfold moveCart
  dsimp only
  split
  · exact .refl c s
  · exact (onChannel_mapCart c _ s).trans (onChannel_raise c _ _)

theorem onChannel_rejectCart (c : Chan) (reason : RejectReason) (cause : CartCause) (s : State) :
    OnChannel c s (rejectCart c reason cause s) :=
  (onChannel_mapCart c _ s).trans (onChannel_moveCart c _ _ _)

theorem onChannel_sendRead (c : Chan) (s : State) : OnChannel c s (sendRead c s) :=
  (onChannel_mapCart c _ s).trans (onChannel_send c _ _)

theorem onChannel_writeTest (c : Chan) (s : State) : OnChannel c s (writeTest c s) := by
  unfold writeTest
  dsimp only
  split
  · split
    · exact onChannel_mapCart c _ s
    · exact (onChannel_mapCart c _ s).trans (onChannel_send c _ _)
  · exact .refl c s

theorem onChannel_refill (c : Chan) (s : State) : OnChannel c s (refill c s) := by
  unfold refill
  dsimp only
  split
  · exact (((onChannel_mapAccount c _ s).trans (onChannel_mapCart c _ _)).trans (onChannel_moveCart c _ _ _)).trans
      (onChannel_writeTest c _)
  · exact .refl c s

theorem onChannel_correctLevel (c : Chan) (s : State) : OnChannel c s (correctLevel c s) := by
  unfold correctLevel
  dsimp only
  split
  · split
    · exact (onChannel_mapCart c _ s).trans (onChannel_raise c _ _)
    · exact .refl c s
  · exact .refl c s

theorem onChannel_recheckKind (c : Chan) (s : State) : OnChannel c s (recheckKind c s) := by
  unfold recheckKind
  dsimp only
  split
  · exact (onChannel_listCart c s).trans (onChannel_rejectCart c _ _ _)
  · split
    · split
      · exact (onChannel_mapCart c _ s).trans (onChannel_moveCart c _ _ _)
      · exact ((onChannel_mapCart c _ s).trans (onChannel_moveCart c _ _ _)).trans (onChannel_sendRead c _)
    · exact .refl c s

/-- R113: the placement of a READY or LOW cartridge against the new low mark, before a refill. -/
def placedByMap (c : Chan) (s : State) : State :=
  let corrected := correctLevel c s
  let dest := placeState ((slot corrected c).cart.estimate.getD 0) (lowMark corrected c)
  let moved := moveCart c dest .mapChange corrected
  if (slot corrected c).cart.estimate != (slot s c).cart.estimate then writeTest c moved else moved

theorem replaceByMap_eq (c : Chan) (s : State) : replaceByMap c s = if (slot s c).cart.supplies then
    (if (slot (placedByMap c s) c).cart.state = (slot s c).cart.state then placedByMap c s
      else refill c (placedByMap c s))
    else s := rfl

theorem onChannel_placedByMap (c : Chan) (s : State) : OnChannel c s (placedByMap c s) := by
  unfold placedByMap
  dsimp only
  split
  · exact ((onChannel_correctLevel c s).trans (onChannel_moveCart c _ _ _)).trans (onChannel_writeTest c _)
  · exact (onChannel_correctLevel c s).trans (onChannel_moveCart c _ _ _)

theorem onChannel_replaceByMap (c : Chan) (s : State) : OnChannel c s (replaceByMap c s) := by
  rw [replaceByMap_eq]
  split
  · split
    · exact onChannel_placedByMap c s
    · exact (onChannel_placedByMap c s).trans (onChannel_refill c _)
  · exact .refl c s

end OnChannel

/-! ### A channel while the others go their way -/

/-- What the channel `c` shows is the same in two states, the second of them later in one command. -/
def SameAt (c : Chan) (s t : State) : Prop :=
  t.now = s.now ∧ t.tables = s.tables ∧ slot t c = slot s c ∧ account t c = account s c ∧ s.out <+: t.out

section SameAt

variable {c : Chan} {r s t : State}

theorem SameAt.refl (c : Chan) (s : State) : SameAt c s s := ⟨rfl, rfl, rfl, rfl, out_kept s⟩

theorem SameAt.trans (hr : SameAt c r s) (hs : SameAt c s t) : SameAt c r t := by
  obtain ⟨hnow, htables, hslot, haccount, hout⟩ := hr
  obtain ⟨hnow', htables', hslot', haccount', hout'⟩ := hs
  exact ⟨hnow'.trans hnow, htables'.trans htables, hslot'.trans hslot, haccount'.trans haccount, hout.trans hout'⟩

theorem OnChannel.sameAt {b : Chan} (h : OnChannel b s t) (hb : c ≠ b) : SameAt c s t := by
  obtain ⟨hnow, htables, hothers, -, -, hout⟩ := h
  obtain ⟨hslot, haccount⟩ := hothers c hb
  exact ⟨hnow, htables, hslot, haccount, hout⟩

variable {f : Chan → State → State} (hf : ∀ b s, OnChannel b s (f b s))

include hf

theorem forChannels_sameAt {cs : List Chan} (hc : c ∉ cs) (s : State) : SameAt c s (forChannels cs f s) := by
  induction cs generalizing s with
  | nil => exact .refl c s
  | cons b cs ih =>
    have hne : c ≠ b := fun h => hc (h ▸ List.mem_cons_self)
    exact ((hf b s).sameAt hne).trans (ih (fun h => hc (List.mem_cons_of_mem _ h)) (f b s))

/-- What a run over every channel does to one of them is what its own turn does. -/
theorem forChannels_at {before after : List Chan} (hnodup : (before ++ c :: after).Nodup) (s : State) :
    SameAt c s (forChannels before f s) ∧
      SameAt c (f c (forChannels before f s)) (forChannels (before ++ c :: after) f s) := by
  have hmid := List.nodup_middle.1 hnodup
  rw [List.nodup_cons, List.mem_append, not_or] at hmid
  obtain ⟨⟨hbefore, hafter⟩, -⟩ := hmid
  have hrun : forChannels (before ++ c :: after) f s = forChannels after f (f c (forChannels before f s)) := by
    simp only [forChannels, List.foldl_append, List.foldl_cons]
  exact ⟨forChannels_sameAt hf hbefore s, hrun ▸ forChannels_sameAt hf hafter _⟩

theorem forChannels_waits (cs : List Chan) (s : State) : (forChannels cs f s).ink.waits = s.ink.waits ∧
    (forChannels cs f s).ink.waitAsker = s.ink.waitAsker := by
  induction cs generalizing s with
  | nil => exact ⟨rfl, rfl⟩
  | cons b cs ih =>
    obtain ⟨-, -, -, hwaits, hasker, -⟩ := hf b s
    obtain ⟨hwaits', hasker'⟩ := ih (f b s)
    exact ⟨hwaits'.trans hwaits, hasker'.trans hasker⟩

end SameAt

/-! ### What each operation makes of its slot and account -/

section Slots

variable (c : Chan) (s : State)

@[simp] theorem slot_raise (n : Notice) (b : Chan) : slot (raise n s) b = slot s b := slot_congr (by simp) b
@[simp] theorem account_raise (n : Notice) (b : Chan) : account (raise n s) b = account s b := account_congr (by simp) b
@[simp] theorem account_mapCart (f : Cartridge → Cartridge) (b : Chan) : account (mapCart c f s) b = account s b := rfl
@[simp] theorem slot_mapAccount (f : Account → Account) (b : Chan) : slot (mapAccount c f s) b = slot s b := rfl
@[simp] theorem recent_mapCart (f : Cartridge → Cartridge) : (mapCart c f s).ink.recent = s.ink.recent := rfl
@[simp] theorem slot_mapCart (f : Cartridge → Cartridge) :
    slot (mapCart c f s) c = { slot s c with cart := f (slot s c).cart } := slot_mapSlot c _ s
@[simp] theorem lowMark_mapCart (f : Cartridge → Cartridge) (b : Chan) : lowMark (mapCart c f s) b = lowMark s b := rfl

/-- R116: a move changes the state of the cartridge alone. -/
@[simp] theorem moveCart_spec (dest : CartState) (cause : CartCause) :
    slot (moveCart c dest cause s) c = { slot s c with cart := { (slot s c).cart with state := dest } } ∧
    account (moveCart c dest cause s) c = account s c ∧ (moveCart c dest cause s).ink.recent = s.ink.recent := by
  unfold moveCart
  dsimp only
  split
  · next h => exact ⟨by rw [← h], rfl, rfl⟩
  · simp [raiseCart]

@[simp] theorem rejectCart_spec (reason : RejectReason) (cause : CartCause) :
    slot (rejectCart c reason cause s) c =
      { slot s c with cart := { (slot s c).cart with state := .rejected, reason := some reason } } ∧
    account (rejectCart c reason cause s) c = account s c ∧
    (rejectCart c reason cause s).ink.recent = s.ink.recent := by
  simp [rejectCart]

/-- R109: the write-back test touches the tag exchange alone. -/
@[simp] theorem writeTest_spec :
    (slot (writeTest c s) c).cart.state = (slot s c).cart.state ∧
    (slot (writeTest c s) c).cart.estimate = (slot s c).cart.estimate ∧
    (slot (writeTest c s) c).cart.contents = (slot s c).cart.contents ∧
    (slot (writeTest c s) c).cart.reason = (slot s c).cart.reason ∧
    account (writeTest c s) c = account s c ∧ (writeTest c s).ink.recent = s.ink.recent := by
  have hsend (o : Output) (t : State) (b : Chan) : slot (t.send o) b = slot t b := rfl
  have hsend' (o : Output) (t : State) (b : Chan) : account (t.send o) b = account t b := rfl
  unfold writeTest startWrite
  dsimp only
  (repeat' split) <;> simp [hsend, hsend']

@[simp] theorem sensedEstimate_le (sensed : Sensed) (e low : Nat) : sensedEstimate sensed e low ≤ e := by
  cases sensed <;> simp [sensedEstimate]

/-- R108: the estimate of a READY or LOW cartridge becomes what the sensed level makes of it. -/
theorem correctLevel_spec {e : Nat} (hs : (slot s c).cart.supplies = true) (he : (slot s c).cart.estimate = some e) :
    slot (correctLevel c s) c = { slot s c with cart := { (slot s c).cart with
      estimate := some (sensedEstimate (slot s c).sensed e (lowMark s c)) } } ∧
    account (correctLevel c s) c = account s c ∧ (correctLevel c s).ink.recent = s.ink.recent := by
  simp only [correctLevel, he, hs, true_and]
  split
  · simp
  · next h =>
    have heq : sensedEstimate (slot s c).sensed e (lowMark s c) = e :=
      Nat.le_antisymm (sensedEstimate_le _ _ _) (Nat.not_lt.1 h)
    exact ⟨by rw [heq, ← he], rfl, rfl⟩

/-- R107: a lowering leaves all but the state of a READY or LOW cartridge, which follows the new estimate. -/
theorem replaceCart_spec (cause : CartCause) : slot (replaceCart c cause s) c = { slot s c with
      cart := { (slot s c).cart with
        state := loweredState (slot s c).cart.state ((slot s c).cart.estimate.getD 0) (lowMark s c) } } ∧
    account (replaceCart c cause s) c = account s c ∧ (replaceCart c cause s).ink.recent = s.ink.recent :=
  moveCart_spec c s _ cause

/-- R93: a refill of a channel whose cartridge gives ink. -/
theorem refill_spec {e t : Nat} (hs : (slot s c).cart.supplies = true) (he : (slot s c).cart.estimate = some e)
    (ht : t = min (2000000 - (account s c).subTank) e) (hpos : 0 < t) :
    (slot (refill c s) c).cart.state = loweredState (slot s c).cart.state (e - t) (lowMark s c) ∧
    (slot (refill c s) c).cart.estimate = some (e - t) ∧
    (slot (refill c s) c).cart.contents = (slot s c).cart.contents ∧
    (slot (refill c s) c).cart.reason = (slot s c).cart.reason ∧
    account (refill c s) c = (account s c).refill t := by
  have hlow (u : State) (h : u.tables = s.tables) : lowMark u c = lowMark s c := by simp only [lowMark, h]
  have hvolume : min (subTankFull - (account s c).subTank) ((slot s c).cart.estimate.getD 0) = t := by
    rw [he, ht]
    rfl
  simp only [refill, hvolume, hs, hpos, and_self, if_true]
  simp only [writeTest_spec, replaceCart_spec]
  simp [he, account_mapAccount, hlow]

theorem refill_of_nothing (h : (slot s c).cart.supplies = true →
    min (2000000 - (account s c).subTank) ((slot s c).cart.estimate.getD 0) = 0) : refill c s = s := by
  refine if_neg fun ⟨hs, hpos⟩ => ?_
  exact absurd (h hs) hpos.ne'

@[simp] theorem recent_refill : (refill c s).ink.recent = s.ink.recent := by
  unfold refill
  dsimp only
  split
  · simp only [writeTest_spec, replaceCart_spec]
    rfl
  · rfl

theorem recent_correctLevel : (correctLevel c s).ink.recent = s.ink.recent := by
  unfold correctLevel
  dsimp only
  (repeat' split) <;> simp

theorem recent_replaceByMap : (replaceByMap c s).ink.recent = s.ink.recent := by
  have hplaced : (placedByMap c s).ink.recent = s.ink.recent := by
    unfold placedByMap
    dsimp only
    split <;> simp [recent_correctLevel]
  rw [replaceByMap_eq]
  (repeat' split) <;> simp [hplaced]

end Slots

/-! ### The re-placement of a READY or LOW cartridge (R113) -/

theorem supplies_iff (k : Cartridge) : k.supplies = true ↔ k.state = .ready ∨ k.state = .low := by
  simp [Cartridge.supplies]

/-- R107: where a cartridge placed READY or LOW stands after a lowering to `e`. -/
def stateAfter (dest : CartState) (e low : Nat) : CartState :=
  if e = 0 then .empty else if dest = .ready ∧ low < e then .ready else .low

theorem stateAfter_placeState (e low : Nat) : stateAfter (placeState e low) e low = placeState e low := by
  unfold stateAfter placeState
  by_cases h0 : e = 0
  · simp [h0]
  · by_cases hlow : e ≤ low
    · simp [h0, hlow]
    · simp [h0, hlow, Nat.lt_of_not_le hlow]

theorem loweredState_eq_stateAfter {dest : CartState} (h : dest = .ready ∨ dest = .low) (e low : Nat) :
    loweredState dest e low = stateAfter dest e low := by
  obtain rfl | rfl := h
  · unfold loweredState stateAfter placeState
    by_cases hlow : e ≤ low
    · simp [hlow, Nat.not_lt.2 hlow]
    · simp [hlow, Nat.lt_of_not_le hlow]
  · simp [loweredState, stateAfter]

theorem placeState_supplies {e low : Nat} (h : 0 < e) : placeState e low = .ready ∨ placeState e low = .low := by
  unfold placeState
  rw [if_neg h.ne']
  split <;> simp

section Replaced

variable {c : Chan} {s : State} {e e' : Nat} (hs : (slot s c).cart.supplies = true)
  (he : (slot s c).cart.estimate = some e) (he' : e' = sensedEstimate (slot s c).sensed e (lowMark s c))

include hs he he'

/-- R113, R106: the sensed level first, then the placement by the low mark. -/
theorem placedByMap_spec :
    (slot (placedByMap c s) c).cart.state = placeState e' (lowMark s c) ∧
    (slot (placedByMap c s) c).cart.estimate = some e' ∧
    (slot (placedByMap c s) c).cart.contents = (slot s c).cart.contents ∧
    (slot (placedByMap c s) c).cart.reason = (slot s c).cart.reason ∧
    account (placedByMap c s) c = account s c := by
  obtain ⟨hslot, haccount, -⟩ := correctLevel_spec c s hs he
  have htables : lowMark (correctLevel c s) c = lowMark s c := by simp [lowMark]
  rw [← he'] at hslot
  unfold placedByMap
  dsimp only
  split <;> simp [hslot, haccount, htables]

/-- R113, R93, R107: a cartridge whose state has changed refills its sub-tank, and follows its estimate down. -/
theorem replaceByMap_spec {drawn : Nat} {dest : CartState} (hdest : dest = placeState e' (lowMark s c))
    (hdrawn : drawn = if dest = (slot s c).cart.state then 0 else min (2000000 - (account s c).subTank) e') :
    (slot (replaceByMap c s) c).cart.state = stateAfter dest (e' - drawn) (lowMark s c) ∧
    (slot (replaceByMap c s) c).cart.estimate = some (e' - drawn) ∧
    (slot (replaceByMap c s) c).cart.contents = (slot s c).cart.contents ∧
    (slot (replaceByMap c s) c).cart.reason = (slot s c).cart.reason ∧
    account (replaceByMap c s) c = if drawn = 0 then account s c else (account s c).refill drawn := by
  obtain ⟨hstate, hestimate, hcontents, hreason, haccount⟩ := placedByMap_spec hs he he'
  have hrun : replaceByMap c s =
      if dest = (slot s c).cart.state then placedByMap c s else refill c (placedByMap c s) := by
    rw [replaceByMap_eq, if_pos hs, hstate, ← hdest]
  by_cases hnone : drawn = 0
  · have hstays : replaceByMap c s = placedByMap c s := by
      rw [hrun]
      split
      · rfl
      · next hchanged =>
        rw [if_neg hchanged] at hdrawn
        exact refill_of_nothing c _ fun _ => by rw [haccount, hestimate, Option.getD_some, ← hdrawn, hnone]
    rw [hstays, if_pos hnone, hnone, Nat.sub_zero, hdest, stateAfter_placeState]
    exact ⟨hstate, hestimate, hcontents, hreason, haccount⟩
  · have hchanged : dest ≠ (slot s c).cart.state := fun h => hnone (by rw [hdrawn, if_pos h])
    rw [if_neg hchanged] at hdrawn
    rw [← hdest] at hstate
    have hsupply : dest = .ready ∨ dest = .low := hdest ▸ placeState_supplies (by omega)
    obtain ⟨hstate', hestimate', hcontents', hreason', haccount'⟩ := refill_spec c (placedByMap c s) (t := drawn)
      ((supplies_iff _).2 (hstate ▸ hsupply)) hestimate (haccount ▸ hdrawn) (Nat.pos_of_ne_zero hnone)
    have hlow : lowMark (placedByMap c s) c = lowMark s c := by
      obtain ⟨-, htables, -⟩ := onChannel_placedByMap c s
      simp only [lowMark, htables]
    rw [hrun, if_neg hchanged, if_neg hnone]
    refine ⟨?_, hestimate', hcontents'.trans hcontents, hreason'.trans hreason, by rw [haccount', haccount]⟩
    rw [hstate', hstate, hlow, loweredState_eq_stateAfter hsupply]

end Replaced

theorem replaceByMap_stays {c : Chan} {s : State} (h : (slot s c).cart.supplies = false) : replaceByMap c s = s := by
  rw [replaceByMap_eq, if_neg (by simp [h])]

/-! ### The kind re-check of a slot (R112) -/

/-- R112: the tag's kind is the one a CHANNEL_MAP expects. -/
def KindAgrees (m : Vector MapEntry 12) (c : Chan) (k : Cartridge) : Prop :=
  ∃ x, k.contents = some x ∧ x.kind.toNat = m[c].inkKind

section Recheck

variable {c : Chan} {s : State} {m : Vector MapEntry 12} (hm : s.tables.channelMap = some m)

include hm

theorem kindAgrees_iff : (((slot s c).cart.contents.map fun t => t.kind.toNat) == expectedKind s c) = true ↔
    KindAgrees m c (slot s c).cart := by
  cases h : (slot s c).cart.contents <;> simp [KindAgrees, expectedKind, hm, h]

/-- R112: a placed cartridge of another kind is refused and listed. -/
theorem recheckKind_refuses (hplaced : (slot s c).cart.placed = true) (hkind : ¬KindAgrees m c (slot s c).cart) :
    recheckKind c s = rejectCart c .wrongInk .mapChange (listCart c s) := by
  rw [← kindAgrees_iff hm, Bool.not_eq_true] at hkind
  simp only [recheckKind, hplaced, hkind, and_self, if_true]

/-- R112: a WRONG_INK cartridge whose kind now matches is to be read again. -/
theorem recheckKind_reads (hstate : (slot s c).cart.state = .rejected)
    (hreason : (slot s c).cart.reason = some .wrongInk) (hkind : KindAgrees m c (slot s c).cart) :
    slot (recheckKind c s) c = { slot s c with cart := { (slot s c).cart with
      state := .reading, reason := none, contents := none, estimate := none, writeDue := false,
      readAttempts := if (slot s c).cart.write = none then 1 else 0,
      readSince := if (slot s c).cart.write = none then some s.now else (slot s c).cart.readSince } } ∧
    account (recheckKind c s) c = account s c ∧
    ((slot s c).cart.write = none → Output.tagRead c ∈ (recheckKind c s).out) := by
  have hsend (o : Output) (t : State) : slot (t.send o) c = slot t c ∧ account (t.send o) c = account t c := ⟨rfl, rfl⟩
  rw [← kindAgrees_iff hm] at hkind
  simp only [recheckKind, hstate, hreason, hkind, Cartridge.placed, Cartridge.supplies]
  cases hwrite : (slot s c).cart.write <;> simp [hwrite, sendRead, hsend]

theorem recheckKind_stays
    (hplaced : (slot s c).cart.placed = true → KindAgrees m c (slot s c).cart)
    (hrefused : (slot s c).cart.state = .rejected → (slot s c).cart.reason = some .wrongInk →
      ¬KindAgrees m c (slot s c).cart) : recheckKind c s = s := by
  simp only [← kindAgrees_iff hm, Bool.not_eq_true] at hplaced hrefused
  unfold recheckKind
  dsimp only
  rw [if_neg fun ⟨h, hkind⟩ => by simp [hplaced h] at hkind,
    if_neg fun ⟨h, hreason, hkind⟩ => by simp [hrefused h hreason] at hkind]

end Recheck

/-! ### The recent cartridge list across a commit (R111, R112) -/

@[simp] theorem listCart_spec (c : Chan) (s : State) (b : Chan) :
    slot (listCart c s) b = slot s b ∧ account (listCart c s) b = account s b := by
  unfold listCart
  dsimp only
  split <;> exact ⟨rfl, rfl⟩

theorem recent_listCart {c : Chan} {s : State} {x : TagContents} {e : Nat} (hx : (slot s c).cart.contents = some x)
    (he : (slot s c).cart.estimate = some e) :
    (listCart c s).ink.recent = enterRecent x.serial e s.ink.recent := by
  simp [listCart, hx, he]

/-- R111: an entry of another serial moves back by one place at most. -/
theorem mem_take_enterRecent {r : Recent} {l : List Recent} {k volume : Nat} {serial : BitVec 64}
    (hr : r ∈ l.take k) (hserial : r.serial ≠ serial) (hk : k < 12) :
    r ∈ (enterRecent serial volume l).take (k + 1) := by
  have hfilter : r ∈ (l.filter fun q => q.serial != serial).take k := by
    have hmem : r ∈ (l.take k).filter fun q => q.serial != serial := List.mem_filter.2 ⟨hr, by simpa using hserial⟩
    have hlength : ((l.take k).filter fun q => q.serial != serial).length ≤ k :=
      (List.length_filter_le _ _).trans (List.length_take_le k l)
    have hsplit : (l.filter fun q => q.serial != serial) = ((l.take k).filter fun q => q.serial != serial) ++
        (l.drop k).filter fun q => q.serial != serial := by rw [← List.filter_append, List.take_append_drop]
    rw [hsplit, List.take_append, List.take_of_length_le hlength]
    exact List.mem_append_left _ hmem
  rw [enterRecent, recentPlaces, List.take_take, Nat.min_eq_left (by omega), List.take_succ_cons]
  exact List.mem_cons_of_mem _ hfilter

/-- R112: a kind re-check enters at most its own cartridge. -/
theorem recheckKind_recent (c : Chan) (s : State) : (recheckKind c s).ink.recent = s.ink.recent ∨
    ∃ y e, (slot s c).cart.contents = some y ∧ (recheckKind c s).ink.recent = enterRecent y.serial e s.ink.recent := by
  have hlist : (listCart c s).ink.recent = s.ink.recent ∨ ∃ y e, (slot s c).cart.contents = some y ∧
      (listCart c s).ink.recent = enterRecent y.serial e s.ink.recent := by
    unfold listCart
    dsimp only
    split
    · next y e hy _ => exact .inr ⟨y, e, hy, rfl⟩
    · exact .inl rfl
  unfold recheckKind sendRead
  dsimp only
  split
  · simpa only [rejectCart_spec] using hlist
  · left
    (repeat' split) <;> simp

/-- R111: the entry of a cartridge outlasts the kind re-checks of others. -/
theorem listed_forChannels {r : Recent} {cs : List Chan} (hnodup : cs.Nodup) {k : Nat} {s : State}
    (hserial : ∀ d ∈ cs, ∀ y, (slot s d).cart.contents = some y → y.serial ≠ r.serial) (hk : k + cs.length ≤ 12)
    (hr : r ∈ s.ink.recent.take k) : r ∈ (forChannels cs recheckKind s).ink.recent.take (k + cs.length) := by
  induction cs generalizing k s with
  | nil => exact hr
  | cons d cs ih =>
    obtain ⟨hd, hcs⟩ := List.nodup_cons.1 hnodup
    rw [List.length_cons] at hk ⊢
    have hnext : r ∈ (recheckKind d s).ink.recent.take (k + 1) := by
      obtain hsame | ⟨y, e, hy, hentered⟩ := recheckKind_recent d s
      · rw [hsame]
        exact List.take_subset_take_left _ (Nat.le_succ k) hr
      · rw [hentered]
        exact mem_take_enterRecent hr (Ne.symm (hserial d List.mem_cons_self y hy)) (by omega)
    have hrest : ∀ b ∈ cs, ∀ y, (slot (recheckKind d s) b).cart.contents = some y → y.serial ≠ r.serial := by
      intro b hb y hy
      obtain ⟨-, -, hslot, -⟩ := (onChannel_recheckKind d s).sameAt (c := b) fun h => hd (h ▸ hb)
      rw [hslot] at hy
      exact hserial b (List.mem_cons_of_mem _ hb) y hy
    have hlast := ih hcs hrest (k := k + 1) (by omega) hnext
    rwa [show k + (cs.length + 1) = k + 1 + cs.length by omega]

/-! ### The commit of a CHANNEL_MAP, slot by slot (R112, R113) -/

theorem finRange_split (c : Chan) : ∃ before after, List.finRange 12 = before ++ c :: after ∧
    (before ++ c :: after).Nodup ∧ after.length ≤ 11 := by
  obtain ⟨before, after, hsplit⟩ := List.append_of_mem (List.mem_finRange c)
  refine ⟨before, after, hsplit, hsplit ▸ List.nodup_finRange 12, ?_⟩
  have hlength := congrArg List.length hsplit
  simp only [List.length_finRange, List.length_append, List.length_cons] at hlength
  omega

/-- R112, R113: a slot goes through its own re-check and its own re-placement. -/
theorem recheckMap_at (c : Chan) (s : State) : ∃ u v, SameAt c s u ∧ SameAt c (recheckKind c u) v ∧
    SameAt c (replaceByMap c v) (recheckMap s) := by
  obtain ⟨before, after, hsplit, hnodup, -⟩ := finRange_split c
  obtain ⟨hu, hchecked⟩ := forChannels_at onChannel_recheckKind hnodup s
  rw [← hsplit] at hchecked
  obtain ⟨hv, hplaced⟩ := forChannels_at onChannel_replaceByMap hnodup (forChannels (List.finRange 12) recheckKind s)
  rw [← hsplit] at hplaced
  exact ⟨_, _, hu, hchecked.trans hv, hplaced⟩

theorem recent_forReplaceByMap (cs : List Chan) (s : State) :
    (forChannels cs replaceByMap s).ink.recent = s.ink.recent := by
  induction cs generalizing s with
  | nil => rfl
  | cons c cs ih => exact (ih (replaceByMap c s)).trans (recent_replaceByMap c s)

/-- R111, R112: a refused cartridge is in the list after the commit. -/
theorem listed_recheckMap {c : Chan} {s : State} {m : Vector MapEntry 12} {x : TagContents} {e : Nat}
    (hm : s.tables.channelMap = some m) (hplaced : (slot s c).cart.placed = true)
    (hkind : ¬KindAgrees m c (slot s c).cart) (hx : (slot s c).cart.contents = some x)
    (he : (slot s c).cart.estimate = some e)
    (hserial : ∀ d, d ≠ c → ∀ y, (slot s d).cart.contents = some y → y.serial ≠ x.serial) :
    ({ serial := x.serial, volume := e } : Recent) ∈ (recheckMap s).ink.recent := by
  obtain ⟨before, after, hsplit, hnodup, hlength⟩ := finRange_split c
  have hmid := List.nodup_middle.1 hnodup
  rw [List.nodup_cons, List.mem_append, not_or] at hmid
  obtain ⟨⟨hbefore, hafter⟩, happend⟩ := hmid
  obtain ⟨-, htables, hslot, -⟩ := forChannels_sameAt onChannel_recheckKind hbefore s
  generalize hu : forChannels before recheckKind s = u at htables hslot
  have hrefused := recheckKind_refuses (s := u) (htables ▸ hm) (hslot ▸ hplaced) (hslot ▸ hkind)
  have hentered : ({ serial := x.serial, volume := e } : Recent) ∈ (recheckKind c u).ink.recent.take 1 := by
    rw [hrefused, (rejectCart_spec c _ _ _).2.2, recent_listCart (hslot ▸ hx) (hslot ▸ he)]
    simp [enterRecent, recentPlaces]
  have hothers : ∀ d ∈ after, ∀ y, (slot (recheckKind c u) d).cart.contents = some y → y.serial ≠ x.serial := by
    intro d hd y hy
    have hdc : d ≠ c := fun h => hafter (h ▸ hd)
    have hdbefore : d ∉ before := fun h => List.disjoint_of_nodup_append happend h hd
    obtain ⟨-, -, hturn, -⟩ := (onChannel_recheckKind c u).sameAt hdc
    obtain ⟨-, -, hrun, -⟩ := forChannels_sameAt onChannel_recheckKind hdbefore s
    rw [hturn, ← hu, hrun] at hy
    exact hserial d hdc y hy
  have hlast := listed_forChannels (List.nodup_append.1 happend).2.1 hothers (k := 1) (by omega) hentered
  have hrun : forChannels (List.finRange 12) recheckKind s = forChannels after recheckKind (recheckKind c u) := by
    simp only [hsplit, forChannels, List.foldl_append, List.foldl_cons, ← hu]
  rw [recheckMap, recent_forReplaceByMap, hrun]
  exact List.mem_of_mem_take hlast

theorem placed_iff (k : Cartridge) : k.placed = true ↔ k.state = .ready ∨ k.state = .low ∨ k.state = .empty := by
  simp [Cartridge.placed, Cartridge.supplies, or_assoc]

/-- R112, R113: the cartridges that neither the re-check nor the re-placement touches. -/
theorem untouched_of_other {m : Vector MapEntry 12} {c : Chan} {k : Cartridge} {agrees : Prop}
    (hagrees : agrees ↔ KindAgrees m c k)
    (h : k.state = .empty ∧ agrees ∨ k.state = .absent ∨ k.state = .seating ∨ k.state = .reading ∨
      (k.state = .rejected ∧ (k.reason ≠ some .wrongInk ∨ ¬agrees))) :
    (k.placed = true → KindAgrees m c k) ∧
    (k.state = .rejected → k.reason = some .wrongInk → ¬KindAgrees m c k) ∧ k.supplies = false := by
  rw [← hagrees, placed_iff, Bool.eq_false_iff, ne_eq, supplies_iff]
  obtain ⟨hstate, hkind⟩ | hstate | hstate | hstate | ⟨hstate, hreason⟩ := h
  · simp [hstate, hkind]
  · simp [hstate]
  · simp [hstate]
  · simp [hstate]
  · simpa [hstate, ← imp_iff_not_or] using hreason

section Slot

variable {c : Chan} {s : State} {m : Vector MapEntry 12} (hm : s.tables.channelMap = some m)

include hm

theorem recheckMap_refuses (hplaced : (slot s c).cart.placed = true) (hkind : ¬KindAgrees m c (slot s c).cart) :
    slot (recheckMap s) c = { slot s c with cart := { (slot s c).cart with
      state := .rejected, reason := some .wrongInk } } ∧ account (recheckMap s) c = account s c := by
  obtain ⟨u, v, ⟨-, htables, hslot, haccount, -⟩, ⟨-, -, hslot', haccount', -⟩, -, -, hslot'', haccount'', -⟩ :=
    recheckMap_at c s
  have hrefused := recheckKind_refuses (s := u) (htables ▸ hm) (hslot ▸ hplaced) (hslot ▸ hkind)
  obtain ⟨hrejected, hsame, -⟩ := rejectCart_spec c (listCart c u) .wrongInk .mapChange
  rw [hrefused] at hslot' haccount'
  rw [hrejected, (listCart_spec c u c).1, hslot] at hslot'
  rw [hsame, (listCart_spec c u c).2, haccount] at haccount'
  rw [replaceByMap_stays (s := v) (by rw [hslot']; rfl)] at hslot'' haccount''
  exact ⟨hslot''.trans hslot', haccount''.trans haccount'⟩

theorem recheckMap_reads (hstate : (slot s c).cart.state = .rejected)
    (hreason : (slot s c).cart.reason = some .wrongInk) (hkind : KindAgrees m c (slot s c).cart) :
    slot (recheckMap s) c = { slot s c with cart := { (slot s c).cart with
      state := .reading, reason := none, contents := none, estimate := none, writeDue := false,
      readAttempts := if (slot s c).cart.write = none then 1 else 0,
      readSince := if (slot s c).cart.write = none then some s.now else (slot s c).cart.readSince } } ∧
    account (recheckMap s) c = account s c ∧
    ((slot s c).cart.write = none → Output.tagRead c ∈ (recheckMap s).out) := by
  obtain ⟨u, v, ⟨hnow, htables, hslot, haccount, -⟩, ⟨-, -, hslot', haccount', hout⟩, -, -, hslot'', haccount'',
    hout'⟩ := recheckMap_at c s
  obtain ⟨hread, hsame, hsent⟩ := recheckKind_reads (s := u) (htables ▸ hm) (hslot ▸ hstate) (hslot ▸ hreason)
    (hslot ▸ hkind)
  rw [hread, hslot, hnow] at hslot'
  rw [replaceByMap_stays (s := v) (by rw [hslot']; rfl)] at hslot'' haccount'' hout'
  exact ⟨hslot''.trans hslot', haccount''.trans (haccount'.trans (hsame.trans haccount)),
    fun h => (hout.trans hout').subset (hsent (hslot ▸ h))⟩

theorem recheckMap_stays (hplaced : (slot s c).cart.placed = true → KindAgrees m c (slot s c).cart)
    (hrefused : (slot s c).cart.state = .rejected → (slot s c).cart.reason = some .wrongInk →
      ¬KindAgrees m c (slot s c).cart) (hsupplies : (slot s c).cart.supplies = false) :
    slot (recheckMap s) c = slot s c ∧ account (recheckMap s) c = account s c := by
  obtain ⟨u, v, ⟨-, htables, hslot, haccount, -⟩, ⟨-, -, hslot', haccount', -⟩, -, -, hslot'', haccount'', -⟩ :=
    recheckMap_at c s
  rw [recheckKind_stays (s := u) (htables ▸ hm) (hslot ▸ hplaced) (hslot ▸ hrefused)] at hslot' haccount'
  rw [replaceByMap_stays (s := v) (by rw [hslot', hslot, hsupplies])] at hslot'' haccount''
  exact ⟨hslot''.trans (hslot'.trans hslot), haccount''.trans (haccount'.trans haccount)⟩

/-- R113: a READY or LOW cartridge whose kind agrees, by the mark of the new map. -/
theorem recheckMap_replaces {e e' drawn : Nat} {dest : CartState} (hs : (slot s c).cart.supplies = true)
    (hkind : KindAgrees m c (slot s c).cart) (he : (slot s c).cart.estimate = some e)
    (he' : e' = sensedEstimate (slot s c).sensed e m[c].lowMark) (hdest : dest = placeState e' m[c].lowMark)
    (hdrawn : drawn = if dest = (slot s c).cart.state then 0 else min (2000000 - (account s c).subTank) e') :
    (slot (recheckMap s) c).cart.state = stateAfter dest (e' - drawn) m[c].lowMark ∧
    (slot (recheckMap s) c).cart.estimate = some (e' - drawn) ∧
    (slot (recheckMap s) c).cart.contents = (slot s c).cart.contents ∧
    (slot (recheckMap s) c).cart.reason = (slot s c).cart.reason ∧
    account (recheckMap s) c = if drawn = 0 then account s c else (account s c).refill drawn := by
  obtain ⟨u, v, ⟨-, htables, hslot, haccount, -⟩, ⟨-, htables', hslot', haccount', -⟩, -, -, hslot'', haccount'', -⟩ :=
    recheckMap_at c s
  have hnot : (slot s c).cart.state = .rejected → (slot s c).cart.reason = some .wrongInk →
      ¬KindAgrees m c (slot s c).cart := fun hrejected => by simp [Cartridge.supplies, hrejected] at hs
  have hsame := recheckKind_stays (s := u) (htables ▸ hm) (fun _ => hslot ▸ hkind) (hslot ▸ hnot)
  rw [hsame] at hslot' haccount' htables'
  rw [hslot] at hslot'
  rw [haccount] at haccount'
  have hlow : lowMark v c = m[c].lowMark := by simp [lowMark, htables', htables, hm]
  have hspec := replaceByMap_spec (s := v) (c := c) (e := e) (e' := e') (drawn := drawn) (dest := dest)
    (hslot' ▸ hs) (hslot' ▸ he) (by rw [hslot', hlow, he']) (by rw [hlow, hdest]) (by rw [hslot', haccount', hdrawn])
  rw [hslot'', haccount'', ← hslot', ← haccount', ← hlow]
  exact hspec

end Slot

/-- R93: what a refill leaves of an account, while its total keeps its width. -/
theorem refill_account {a b : Account} {drawn : Nat} (h : b = if drawn = 0 then a else a.refill drawn) :
    b.subTank = a.subTank + drawn ∧ b.reserved = a.reserved ∧ b.residue = a.residue ∧ b.consumed = a.consumed ∧
    b.flushed = a.flushed ∧ (a.refilled + drawn < 2 ^ 64 → b.refilled = a.refilled + drawn) := by
  split at h
  · next hnone => simp [h, hnone]
  · exact h ▸ ⟨rfl, rfl, rfl, rfl, rfl, fun hfit => countOf_of_lt hfit⟩

end Sys2Proof.Machine

/-! ## A commit that disables the cutter (R122, R123, R128, R144) -/

namespace Sys2Proof.Machine

/-! ### The stops that are left, and the overrun rows that move in (R123) -/

/-- R123: the stops `left` remain and `n` overrun rows have moved into the position. -/
def StopsLeft (left : List Stop) (n : Nat) (s t : State) : Prop :=
  n ≤ s.media.overrun ∧ t.media.stops = left ∧ t.media.overrun = s.media.overrun - n ∧
    t.media.roll.position = s.media.roll.position + n ∧ t.media.roll.lastCutRow = s.media.roll.lastCutRow ∧
    t.media.roll.remaining = s.media.roll.remaining

section StopsLeft

variable {left left' : List Stop} {n n' : Nat} {r s t : State}

theorem StopsLeft.trans (hr : StopsLeft left n r s) (hs : StopsLeft left' n' s t) : StopsLeft left' (n + n') r t := by
  obtain ⟨hle, -, hover, hpos, hcut, hremaining⟩ := hr
  obtain ⟨hle', hstops', hover', hpos', hcut', hremaining'⟩ := hs
  refine ⟨by omega, hstops', by omega, ?_, hcut'.trans hcut, hremaining'.trans hremaining⟩
  rw [hpos', hpos, Nat.cast_add, add_assoc]

theorem StopsLeft.of_media (h : t.media = s.media) : StopsLeft s.media.stops 0 s t := by
  simp [StopsLeft, h]

/-- R123: the rows that a list of stops lets in are overrun rows. -/
theorem rowsLetIn_le (left : List Stop) (s : State) : rowsLetIn left s ≤ s.media.overrun := by
  cases left with
  | nil => exact le_rfl
  | cons u rest => exact Nat.min_le_left _ _

/-- R122, R123: stops that leave let the overrun in as far as the first that stays allows. -/
theorem stopsLeft_dropStops (sel : Stop → Bool) (s : State) :
    StopsLeft (s.media.stops.filter fun u => !sel u) (rowsLetIn (s.media.stops.filter fun u => !sel u) s) s
      (dropStops sel s) := by
  have hmedia : (dropStops sel s).media =
      Media.moveOverrun { s.media with stops := s.media.stops.filter fun u => !sel u } := rfl
  refine ⟨rowsLetIn_le _ s, rfl, ?_⟩
  rw [hmedia]
  cases s.media.stops.filter (fun u => !sel u) with
  | nil => exact ⟨rfl, rfl, rfl, rfl⟩
  | cons u rest => exact ⟨rfl, rfl, rfl, rfl⟩

theorem dropStop_eq (uid : Nat) (s : State) : dropStop uid s = dropStops (fun u => u.uid == uid) s := rfl

/-- R123: the room up to one stop and then up to a later one is the room up to the later one. -/
theorem min_room_twice {u v : Int} (h : u ≤ v) (overrun : Nat) (position : Int) :
    min overrun (u - position).toNat + min (overrun - min overrun (u - position).toNat)
      (v - (position + ↑(min overrun (u - position).toNat))).toNat = min overrun (v - position).toNat := by
  omega

/-- R123: stops that leave in two steps let in what they would in one. -/
theorem rowsLetIn_twice {p : Stop → Bool} (hordered : left.Pairwise fun a b => a.position ≤ b.position)
    (hs : StopsLeft left (rowsLetIn left s) s t) :
    rowsLetIn left s + rowsLetIn (left.filter p) t = rowsLetIn (left.filter p) s := by
  obtain ⟨-, -, hover, hpos, -⟩ := hs
  cases left with
  | nil => simp only [List.filter_nil, rowsLetIn, hover]; omega
  | cons u rest =>
    cases hleft : (u :: rest).filter p with
    | nil => simp only [rowsLetIn, hover]; omega
    | cons v more =>
      have hv : v ∈ u :: rest := List.mem_of_mem_filter (hleft ▸ List.mem_cons_self)
      have hbehind : u.position ≤ v.position := by
        obtain rfl | hv := List.mem_cons.1 hv
        · exact le_rfl
        · exact (List.pairwise_cons.1 hordered).1 v hv
      simp only [rowsLetIn] at hover hpos ⊢
      rw [hover, hpos]
      exact min_room_twice hbehind _ _

end StopsLeft

/-! ### What the moves of R52 leave of the media -/

theorem stopsLeft_closeItem (u : Nat) (s : State) : StopsLeft s.media.stops 0 s (closeItem u s) := by
  unfold closeItem
  split
  · next i hi => simp [StopsLeft, releaseReservation, hi]
  · exact .of_media rfl

theorem stopsLeft_priceItem (u : Nat) (s : State) : StopsLeft s.media.stops 0 s (priceItem u s) := by
  unfold priceItem
  split
  · dsimp only
    generalize hw : mapJob _ _ _ = w
    have hmedia : w.media = s.media := by simp [← hw]
    exact (StopsLeft.of_media hmedia).trans (hmedia ▸ stopsLeft_closeItem u w)
  · exact .of_media rfl

theorem stopsLeft_toCosting (u : Nat) (s : State) : StopsLeft s.media.stops 0 s (toCosting u s) := by
  unfold toCosting
  split
  · split
    · dsimp only
      generalize hw : State.onCosting _ _ = w
      have hmedia : w.media = s.media := by simp [← hw]
      split
      · exact (StopsLeft.of_media hmedia).trans (hmedia ▸ stopsLeft_priceItem u w)
      · exact .of_media hmedia
    · exact .of_media rfl
  · exact .of_media rfl

theorem stopsLeft_advanceItem (u : Nat) (s : State) : StopsLeft s.media.stops 0 s (advanceItem u s) := by
  have hmedia : (toSettling u s).media = s.media := by simp
  exact (StopsLeft.of_media hmedia).trans (hmedia ▸ stopsLeft_toCosting u (toSettling u s))

theorem stopsLeft_advanceItems (us : List Nat) (s : State) : StopsLeft s.media.stops 0 s (advanceItems us s) := by
  induction us generalizing s with
  | nil => exact .of_media rfl
  | cons u us ih =>
    have hfirst := stopsLeft_advanceItem u s
    obtain ⟨-, hstops, -⟩ := id hfirst
    exact hfirst.trans (hstops ▸ ih (advanceItem u s))

/-- R52: nothing moves an OPEN item. -/
theorem advanceItem_of_opened {s : State} (h : ∀ i ∈ s.items.live, i.state = .opened) (u : Nat) :
    advanceItem u s = s := by
  cases hi : findItem s u with
  | none => simp only [advanceItem, toSettling, toCosting, hi]
  | some i =>
    obtain ⟨hmem, rfl⟩ := mem_of_findItem hi
    exact advanceItem_of_other hi (.inl (h i hmem))

theorem advanceItems_of_opened {s : State} (h : ∀ i ∈ s.items.live, i.state = .opened) (us : List Nat) :
    advanceItems us s = s := by
  induction us with
  | nil => rfl
  | cons u us ih => rwa [advanceItems, List.foldl_cons, advanceItem_of_opened h]

/-! ### PROCEED (R128) -/

theorem proceed_paused {s : State} {uid : Nat} {f : Flight} (hf : s.path.flight = some f)
    (hp : pausedStop s = some uid) : proceed uid s =
      (s.onPath fun p => { p with flight := some { f with phase := .running s.now } }).send (.proceed f.opId) := by
  simp only [proceed, hf, hp, if_true]

theorem proceed_not_paused {s : State} {uid : Nat} (hp : pausedStop s ≠ some uid) : proceed uid s = s := by
  unfold proceed
  split
  · rw [if_neg hp]
  · rfl

/-! ### The two steps of the commit (R144) -/

/-- R144: the CUT stops that leave first: all but the held one. -/
def cutsGone (s : State) : List Stop := s.media.stops.filter fun u => !u.isMeasure && s.cutter.held != some u.uid

/-- R144: every CUT stop but the held one has left, with the notice. -/
def cutsReported (s : State) : State :=
  let dropped := dropStops (fun u => !u.isMeasure && s.cutter.held != some u.uid) s
  if (cutsGone s).isEmpty then dropped else raise (.cutsDropped (cutsGone s).length (ownerIds (cutsGone s))) dropped

/-- R144: the owners of the stops that left have made their moves. -/
def cutsRemoved (s : State) : State := advanceItems ((cutsGone s).map Stop.item).dedup (cutsReported s)

/-- R144: the held stop has left with no cut made, before PROCEED. -/
def heldRemoved (uid : Nat) (s : State) : State :=
  match findStop s uid with
  | some u => removeStop u (s.onCutter Cutter.freed)
  | none => s.onCutter Cutter.freed

theorem dropHeldCut_eq (uid : Nat) (s : State) : dropHeldCut uid s = proceed uid (heldRemoved uid s) := rfl

@[simp] theorem cutsReported_frame (s : State) :
    (cutsReported s).now = s.now ∧ (cutsReported s).pending = s.pending ∧ (cutsReported s).out = s.out ∧
    (cutsReported s).tables = s.tables ∧ (cutsReported s).items = s.items ∧ (cutsReported s).path = s.path ∧
    (cutsReported s).ink = s.ink ∧ (cutsReported s).cutter = s.cutter ∧ (cutsReported s).media =
      (dropStops (fun u => !u.isMeasure && s.cutter.held != some u.uid) s).media := by
  unfold cutsReported
  dsimp only
  split <;> simp

@[simp] theorem cutsRemoved_frame (s : State) :
    (cutsRemoved s).now = s.now ∧ (cutsRemoved s).pending = s.pending ∧ (cutsRemoved s).out = s.out ∧
    (cutsRemoved s).tables = s.tables ∧ (cutsRemoved s).path = s.path ∧ (cutsRemoved s).ink = s.ink ∧
    (cutsRemoved s).cutter = s.cutter := by
  simp [cutsRemoved]

theorem disableCutter_eq (s : State) : disableCutter s = match s.cutter.held with
    | some uid => if s.cutter.state = .waiting then dropHeldCut uid (cutsRemoved s) else cutsRemoved s
    | none => cutsRemoved s := by
  obtain ⟨-, -, -, -, -, -, hcutter⟩ := cutsRemoved_frame s
  rw [← hcutter]
  rfl

/-! ### The CUT stops but the held one (R144, R122) -/

theorem stopsLeft_cutsRemoved (s : State) :
    StopsLeft (s.media.stops.filter fun u => u.isMeasure || s.cutter.held == some u.uid)
      (rowsLetIn (s.media.stops.filter fun u => u.isMeasure || s.cutter.held == some u.uid) s) s (cutsRemoved s) := by
  have hfilter : (s.media.stops.filter fun u => !(!u.isMeasure && s.cutter.held != some u.uid)) =
      s.media.stops.filter fun u => u.isMeasure || s.cutter.held == some u.uid := by
    refine List.filter_congr fun u _ => ?_
    simp [bne]
  have hdropped := stopsLeft_dropStops (fun u => !u.isMeasure && s.cutter.held != some u.uid) s
  rw [hfilter] at hdropped
  obtain ⟨-, hstops, -⟩ := id hdropped
  obtain ⟨-, -, -, -, -, -, -, -, hmedia⟩ := cutsReported_frame s
  refine hdropped.trans (n' := 0) ((StopsLeft.of_media hmedia).trans (n' := 0) ?_)
  rw [← hstops, ← hmedia]
  exact stopsLeft_advanceItems _ (cutsReported s)

theorem cutsRemoved_of_opened {s : State} (h : ∀ i ∈ s.items.live, i.state = .opened) :
    (cutsRemoved s).items = s.items ∧ (cutsRemoved s).link = if cutsGone s = [] then s.link else
      (raise (.cutsDropped (cutsGone s).length ((cutsGone s).map Stop.itemId).dedup) s).link := by
  rw [cutsRemoved, advanceItems_of_opened (by simpa using h)]
  refine ⟨by simp, ?_⟩
  simp only [cutsReported, List.isEmpty_iff]
  split
  · simp
  · exact raise_link_congr _ (by simp) (by simp) (by simp)

/-! ### The held stop (R144, R128) -/

@[simp] theorem heldRemoved_frame (uid : Nat) (s : State) :
    (heldRemoved uid s).now = s.now ∧ (heldRemoved uid s).out = s.out ∧ (heldRemoved uid s).path = s.path ∧
    (heldRemoved uid s).cutter = s.cutter.freed := by
  unfold heldRemoved
  split <;> simp

/-- R122: the held stop leaves the list, if it is there. -/
theorem stopsLeft_heldRemoved (uid : Nat) (s : State) : ∃ n,
    StopsLeft (s.media.stops.filter fun u => u.uid != uid) n s (heldRemoved uid s) ∧
    (n = rowsLetIn (s.media.stops.filter fun u => u.uid != uid) s ∨
      n = 0 ∧ (s.media.stops.filter fun u => u.uid != uid) = s.media.stops) := by
  unfold heldRemoved
  cases hfind : findStop s uid with
  | none =>
    have hall : ∀ u ∈ s.media.stops, (u.uid != uid) = true := by
      simpa [findStop, List.find?_eq_none] using hfind
    have hsame : (s.media.stops.filter fun u => u.uid != uid) = s.media.stops := List.filter_eq_self.2 hall
    exact ⟨0, hsame.symm ▸ StopsLeft.of_media rfl, .inr ⟨rfl, hsame⟩⟩
  | some u =>
    have huid : u.uid = uid := by simpa [findStop] using List.find?_some hfind
    have hdropped := stopsLeft_dropStops (fun v => v.uid == uid) (s.onCutter Cutter.freed)
    have hstops : (dropStops (fun v => v.uid == uid) (s.onCutter Cutter.freed)).media.stops =
        s.media.stops.filter fun u => u.uid != uid := rfl
    refine ⟨_, hdropped.trans (n' := 0) ?_, .inl rfl⟩
    rw [← hstops]
    dsimp only
    rw [removeStop, dropStop_eq, huid]
    exact stopsLeft_advanceItem _ _

theorem heldRemoved_of_opened {uid : Nat} {s : State} (h : ∀ i ∈ s.items.live, i.state = .opened) :
    (heldRemoved uid s).items = s.items ∧ (heldRemoved uid s).link = s.link := by
  unfold heldRemoved
  split
  · rw [removeStop, advanceItem_of_opened (by simpa using h)]
    simp
  · simp

/-! ### The commit, whole -/

section Disabled

variable {s : State}

theorem disableCutter_waiting {uid : Nat} (hstate : s.cutter.state = .waiting) (hheld : s.cutter.held = some uid) :
    disableCutter s = proceed uid (heldRemoved uid (cutsRemoved s)) := by
  simp only [disableCutter_eq, hheld, hstate, if_true, dropHeldCut_eq]

theorem disableCutter_rest (h : s.cutter.state ≠ .waiting ∨ s.cutter.held = none) :
    disableCutter s = cutsRemoved s := by
  rw [disableCutter_eq]
  obtain h | h := h
  · split
    · rw [if_neg h]
    · rfl
  · simp only [h]

/-- The held stop leaves only while the cutter is WAITING. -/
theorem waiting_or_rest (s : State) : (∃ uid, s.cutter.state = .waiting ∧ s.cutter.held = some uid) ∨
    s.cutter.state ≠ .waiting ∨ s.cutter.held = none := by
  cases hheld : s.cutter.held with
  | none => exact .inr (.inr rfl)
  | some uid =>
    by_cases hstate : s.cutter.state = .waiting
    · exact .inl ⟨uid, hstate, rfl⟩
    · exact .inr (.inl hstate)

/-- R144: the stops that a commit which disables the cutter leaves. -/
def stopsKept (s : State) : List Stop := s.media.stops.filter fun u =>
  u.isMeasure || (s.cutter.held == some u.uid && s.cutter.state != .waiting)

/-- R144, R123: the stops that are left and the rows that move in, over both steps. -/
theorem stopsLeft_disableCutter (hheld : ∀ u ∈ s.media.stops, s.cutter.held = some u.uid → u.isMeasure = false) :
    ∃ n, StopsLeft (stopsKept s) n s (disableCutter s) ∧ (StopsOrdered s → n = rowsLetIn (stopsKept s) s) := by
  have hremoved := stopsLeft_cutsRemoved s
  obtain ⟨uid, hstate, huid⟩ | hrest := waiting_or_rest s
  · have hkept : (s.media.stops.filter fun u => u.isMeasure || s.cutter.held == some u.uid).filter
        (fun u => u.uid != uid) = stopsKept s := by
      rw [List.filter_filter, stopsKept]
      refine List.filter_congr fun u hu => ?_
      rw [hstate, huid]
      by_cases hu' : u.uid = uid
      · simp [hu', hheld u hu (by rw [huid, hu'])]
      · simp [bne_iff_ne.2 hu', beq_false_of_ne (Ne.symm hu')]
    rw [disableCutter_waiting hstate huid]
    obtain ⟨-, hstops, -⟩ := id hremoved
    obtain ⟨n, hleft, hn⟩ := stopsLeft_heldRemoved uid (cutsRemoved s)
    rw [hstops, hkept] at hleft hn
    have hproceed : (proceed uid (heldRemoved uid (cutsRemoved s))).media =
        (heldRemoved uid (cutsRemoved s)).media := by simp
    refine ⟨_, (hremoved.trans hleft).trans (n' := 0) ?_, fun hordered => ?_⟩
    · obtain ⟨-, hlast, -⟩ := id hleft
      rw [← hlast]
      exact .of_media hproceed
    · have hsorted : (s.media.stops.filter fun u => u.isMeasure || s.cutter.held == some u.uid).Pairwise
          fun a b => a.position ≤ b.position := hordered.sublist List.filter_sublist
      obtain hn | ⟨hn, hsame⟩ := hn
      · have htwice := rowsLetIn_twice (p := fun u => u.uid != uid) hsorted hremoved
        rw [hkept] at htwice
        rw [Nat.add_zero, hn, htwice]
      · rw [hn, hsame]
        rfl
  · have hkept : (s.media.stops.filter fun u => u.isMeasure || s.cutter.held == some u.uid) = stopsKept s := by
      refine List.filter_congr fun u _ => ?_
      obtain h | h := hrest
      · rw [bne_iff_ne.2 h, Bool.and_true]
      · simp [h]
    rw [hkept] at hremoved
    exact ⟨_, disableCutter_rest hrest ▸ hremoved, fun _ => rfl⟩

theorem disableCutter_cutter : (disableCutter s).cutter.bladeCount = s.cutter.bladeCount ∧
    (∀ uid, s.cutter.state = .waiting → s.cutter.held = some uid → CutterFreed s (disableCutter s)) ∧
    (s.cutter.state ≠ .waiting ∨ s.cutter.held = none → (disableCutter s).cutter = s.cutter) := by
  have hfreed {uid : Nat} (hstate : s.cutter.state = .waiting) (hheld : s.cutter.held = some uid) :
      (disableCutter s).cutter = s.cutter.freed := by simp [disableCutter_waiting hstate hheld]
  refine ⟨?_, fun uid hstate hheld => ?_, fun h => by simp [disableCutter_rest h]⟩
  · obtain ⟨uid, hstate, hheld⟩ | h := waiting_or_rest s
    · rw [hfreed hstate hheld]
      rfl
    · simp [disableCutter_rest h]
  · simp [CutterFreed, hfreed hstate hheld, Cutter.freed]

theorem pausedStop_congr {t : State} (h : t.path = s.path) : pausedStop t = pausedStop s := by
  simp only [pausedStop, h]

/-- R128, R144: PROCEED for a link paused at the held stop, and nothing for any other. -/
theorem disableCutter_path :
    (∀ uid f, s.cutter.state = .waiting → s.cutter.held = some uid → s.path.flight = some f →
      pausedStop s = some uid →
      (disableCutter s).path = { s.path with flight := some { f with phase := .running s.now } } ∧
      (disableCutter s).out = s.out ++ [.proceed f.opId]) ∧
    (s.cutter.state ≠ .waiting ∨ s.cutter.held = none ∨ pausedStop s ≠ s.cutter.held →
      (disableCutter s).path = s.path ∧ (disableCutter s).out = s.out) := by
  have hpath (uid : Nat) : (heldRemoved uid (cutsRemoved s)).path = s.path := by simp
  refine ⟨fun uid f hstate hheld hf hp => ?_, fun h => ?_⟩
  · rw [disableCutter_waiting hstate hheld, proceed_paused (f := f) (by rw [hpath, hf])
      ((pausedStop_congr (hpath uid)).trans hp)]
    simp
  · obtain ⟨uid, hstate, hheld⟩ | hrest := waiting_or_rest s
    · have hp : pausedStop s ≠ some uid := by simpa [hstate, hheld] using h
      rw [disableCutter_waiting hstate hheld, proceed_not_paused ((pausedStop_congr (hpath uid)).trans_ne hp)]
      simp
    · simp [disableCutter_rest hrest]

theorem disableCutter_of_opened (h : ∀ i ∈ s.items.live, i.state = .opened) :
    (disableCutter s).items = s.items ∧ (disableCutter s).link = if cutsGone s = [] then s.link else
      (raise (.cutsDropped (cutsGone s).length ((cutsGone s).map Stop.itemId).dedup) s).link := by
  obtain ⟨hitems, hlink⟩ := cutsRemoved_of_opened h
  obtain ⟨uid, hstate, hheld⟩ | hrest := waiting_or_rest s
  · obtain ⟨hitems', hlink'⟩ := heldRemoved_of_opened (uid := uid) (hitems ▸ h)
    rw [disableCutter_waiting hstate hheld]
    simp [hitems', hlink', hitems, hlink]
  · rw [disableCutter_rest hrest]
    exact ⟨hitems, hlink⟩

end Disabled

end Sys2Proof.Machine

/-! ## The commit of a content (R30, R112, R113, R144) -/

namespace Sys2Proof.Machine

/-- R30: a commit that is neither a CHANNEL_MAP nor disables the cutter stays in the table store. -/
theorem commitContent_of_tables_only {c : Content} (s : State) (hmap : ∀ m, c ≠ .channelMap m)
    (hcutter : ∀ p, c = .mediaProfile p → p.cutterEnabled = true) :
    commitContent c s = s.onTables (setContent c) := by
  cases c with
  | channelMap m => exact absurd rfl (hmap m)
  | mediaProfile p => exact if_pos (hcutter p rfl)
  | _ => rfl

theorem commitContent_channelMap (m : Vector MapEntry 12) (s : State) :
    commitContent (.channelMap m) s = recheckMap (s.onTables (setContent (.channelMap m))) := rfl

theorem commitContent_disables {p : MediaProfile} (h : p.cutterEnabled = false) (s : State) :
    commitContent (.mediaProfile p) s = disableCutter (s.onTables (setContent (.mediaProfile p))) :=
  if_neg (by simp [h])

theorem recheckMap_waits (s : State) :
    (recheckMap s).ink.waits = s.ink.waits ∧ (recheckMap s).ink.waitAsker = s.ink.waitAsker := by
  rw [recheckMap]
  obtain ⟨hwaits, hasker⟩ := forChannels_waits onChannel_recheckKind (List.finRange 12) s
  obtain ⟨hwaits', hasker'⟩ := forChannels_waits onChannel_replaceByMap (List.finRange 12)
    (forChannels (List.finRange 12) recheckKind s)
  exact ⟨hwaits'.trans hwaits, hasker'.trans hasker⟩

/-- R112, R113: the blocks that a commit of CHANNEL_MAP leaves. -/
theorem channelMap_onlyChanges (m : Vector MapEntry 12) (s : State) :
    OnlyChanges [.link, .tables, .ink] s (recheckMap (s.onTables (setContent (.channelMap m)))) := by
  refine ⟨by simp, by simp, fun b hb => ?_⟩
  cases b with
  | link | tables | ink => exact absurd (by simp) hb
  | items | path | media | cutter | colour | costing => simp [SameBlock]

/-- R144: the blocks that a commit which disables the cutter leaves. -/
theorem disableCutter_onlyChanges (p : MediaProfile) (s : State) :
    OnlyChanges [.link, .tables, .items, .path, .media, .cutter, .colour, .costing] s
      (disableCutter (s.onTables (setContent (.mediaProfile p)))) := by
  refine ⟨by simp, by simp, fun b hb => ?_⟩
  cases b with
  | ink => simp [SameBlock]
  | _ => exact absurd (by simp) hb

/-- R11: the levels of the notices rest on the NOTICE section alone. -/
theorem raise_link_of_notice (n : Notice) {s t : State} (hlink : t.link = s.link) (hnow : t.now = s.now)
    (hnotice : t.tables.notice = s.tables.notice) : (raise n t).link = (raise n s).link := by
  have hlevel : classLevel t n.cls = classLevel s n.cls := by simp only [classLevel, hnotice]
  simp only [raise, hlevel, hnow]
  split <;> simp [hlink]

/-- Settles O24: the section committed, the slots at a CHANNEL_MAP, and the stops where the cutter is disabled. -/
theorem committedContent : Obligations.CommittedContent := by
  refine ⟨fun c s => ⟨?_, fun hmap hcutter => ?_⟩, ?_, ?_⟩
  · rw [commitContent_tables]
    cases c <;> rfl
  · rw [commitContent_of_tables_only s hmap hcutter]
    rfl
  · intro m s t ht
    rw [ht, commitContent_channelMap]
    have hm : (s.onTables (setContent (.channelMap m))).tables.channelMap = some m := rfl
    obtain ⟨hwaits, hasker⟩ := recheckMap_waits (s.onTables (setContent (.channelMap m)))
    refine ⟨channelMap_onlyChanges m s, hwaits, hasker, ?_⟩
    intro c k a agrees hk ha hagrees
    subst hk ha
    have hslot : slot (s.onTables (setContent (.channelMap m))) c = s.ink.slots[c] := rfl
    refine ⟨fun hplaced hkind => ?_, fun hstate hreason hkind => ?_,
      fun e e' drawn dest hsupplies hkind he he' hdest hdrawn => ?_, fun hother => ?_⟩
    · obtain ⟨hrejected, haccount⟩ := recheckMap_refuses (c := c) hm ((placed_iff _).2 hplaced) (hagrees.not.1 hkind)
      exact ⟨hrejected, haccount, fun x e hx he hserial =>
        listed_recheckMap hm ((placed_iff _).2 hplaced) (hagrees.not.1 hkind) hx he hserial⟩
    · exact recheckMap_reads (c := c) hm hstate hreason (hagrees.1 hkind)
    · have hcorrected : e' = sensedEstimate s.ink.slots[c].sensed e m[c].lowMark := he'
      obtain ⟨hstate, hestimate, hcontents, hreason, haccount⟩ := recheckMap_replaces (c := c) hm
        ((supplies_iff _).2 hsupplies) (hagrees.1 hkind) he hcorrected hdest hdrawn
      obtain ⟨hsub, hreserved, hresidue, hconsumed, hflushed, hrefilled⟩ := refill_account haccount
      exact ⟨(slot (recheckMap _) c).cart, account (recheckMap _) c, rfl, rfl, hestimate, hstate, hcontents, hreason,
        hsub, hreserved, hresidue, hconsumed, hflushed, hrefilled⟩
    · obtain ⟨hplaced, hrefused, hsupplies⟩ := untouched_of_other (hagrees : agrees ↔ KindAgrees m c _) hother
      exact recheckMap_stays (c := c) hm (hslot ▸ hplaced) (hslot ▸ hrefused) (hslot ▸ hsupplies)
  · intro p gone s t hcutter ht hgone hheld
    rw [ht, commitContent_disables hcutter]
    have hlink : (raise (.cutsDropped gone.length (gone.map Stop.itemId).dedup)
          (s.onTables (setContent (.mediaProfile p)))).link =
        (raise (.cutsDropped gone.length (gone.map Stop.itemId).dedup) s).link := raise_link_of_notice _ rfl rfl rfl
    obtain ⟨n, hleft, hn⟩ := stopsLeft_disableCutter (s := s.onTables (setContent (.mediaProfile p))) hheld
    obtain ⟨hle, hstops, hover, hpos, hcut, hremaining⟩ := hleft
    obtain ⟨hblade, hfreed, hsame⟩ := disableCutter_cutter (s := s.onTables (setContent (.mediaProfile p)))
    obtain ⟨hproceed, hquiet⟩ := disableCutter_path (s := s.onTables (setContent (.mediaProfile p)))
    refine ⟨hstops, ?_, fun hordered m hm => ?_, hcut, hremaining, hblade, fun held hstate hh =>
      ⟨hfreed held hstate hh, fun f hf hp => hproceed held f hstate hh hf hp⟩, hsame, hquiet, fun hopen => ?_,
      disableCutter_onlyChanges p s⟩
    · rw [hover, hpos, Nat.cast_sub hle]
      exact (add_assoc _ _ _).trans (congrArg _ (add_sub_cancel _ _))
    · have hall : n = m := (hn hordered).trans (by rw [hm, hstops]; rfl)
      exact hall ▸ ⟨hpos, hover⟩
    · subst hgone
      obtain ⟨hitems, hreported⟩ := disableCutter_of_opened (s := s.onTables (setContent (.mediaProfile p))) hopen
      exact ⟨hitems, hreported.trans (by rw [← hlink]; rfl)⟩

end Sys2Proof.Machine

/-! ## The jobs of the item manager: JOB_OPEN and JOB_CLOSE (R40 to R42) -/

namespace Sys2Proof.Machine

/-! ### A take that is answered, or that waits (R9, R10, R14) -/

section Answered

variable {c : Instr} {k : StreamKind} {can : IntakeEntry → State → Bool} {judge : List Byte → State → State × Status}
  {s t : State} {e : IntakeEntry} {rest : List IntakeEntry}
  (hexec : exec c s = command (take k can fun e s => answerTake e (judge e.body s)) s)
  (h : TakeReady s e rest) (hk : e.kind = k)

include hexec h hk

/-- R9: an entry that its owner cannot take yet waits. -/
theorem take_waits (hcan : can e s.clearOut = false) : Waits c s :=
  hexec.trans (command_eq ((h.take_eq hk).trans (if_neg (by simp [hcan]))))

/-- R10: an entry that its owner takes is answered with the owner's status. -/
theorem take_answered {st : Status} (hcan : can e s.clearOut = true)
    (hjudge : judge e.body (afterTake s rest) = (t, st)) :
    Leaves c s (reply e.tag st .empty (captureIf st (goodWire e.kind.code 0#8 e.tag e.body) e.length t)) := by
  refine hexec.trans (command_eq ((h.take_eq hk).trans ((if_pos hcan).trans ?_)))
  simp only [answerTake, hjudge]

theorem take_ok (hcan : can e s.clearOut = true) (hjudge : judge e.body (afterTake s rest) = (t, .ok)) :
    Leaves c s (reply e.tag .ok .empty t) :=
  take_answered hexec h hk hcan hjudge

/-- R14: a malformed record is offered to the fault capture. -/
theorem take_bad (hcan : can e s.clearOut = true)
    (hjudge : judge e.body (afterTake s rest) = (afterTake s rest, .badRecord)) : Leaves c s (takeBad s e rest) :=
  take_answered hexec h hk hcan hjudge

theorem take_refused {st : Status} (hcan : can e s.clearOut = true) (hst : st ≠ .badRecord ∧ st ≠ .badTable)
    (hjudge : judge e.body (afterTake s rest) = (afterTake s rest, st)) : Leaves c s (takeRefused s e rest st) := by
  have hleaves := take_answered hexec h hk hcan hjudge
  rwa [captureIf, if_neg (not_or.2 hst)] at hleaves

end Answered

/-! ### The bodies of a number and of an id -/

theorem zeros_iff (b : List Byte) (i n : Nat) : zeros b i n = true ↔ ∀ k, i ≤ k → k < i + n → u8 b k = 0 := by
  simp only [zeros, List.all_eq_true, List.mem_range, beq_iff_eq]
  refine ⟨fun h k hlow hhigh => ?_, fun h k hk => h (i + k) (by omega) (by omega)⟩
  have hk := h (k - i) (by omega)
  rwa [Nat.add_sub_cancel' hlow] at hk

theorem numberBody_eq_some_iff (body : List Byte) (n : Nat) : numberBody body = some n ↔
    body.length = 8 ∧ n = u32 body 0 ∧ ∀ k, 4 ≤ k → k < 8 → u8 body k = 0 := by
  simp only [numberBody, Option.ite_none_right_eq_some, Option.some.injEq, zeros_iff]
  exact ⟨fun ⟨⟨hlength, hzero⟩, hn⟩ => ⟨hlength, hn.symm, hzero⟩, fun ⟨hlength, hn, hzero⟩ =>
    ⟨⟨hlength, hzero⟩, hn.symm⟩⟩

theorem numberBody_eq_none_iff (body : List Byte) : numberBody body = none ↔
    ¬(body.length = 8 ∧ ∀ k, 4 ≤ k → k < 8 → u8 body k = 0) := by
  simp only [numberBody, ite_eq_right_iff, reduceCtorEq, imp_false, zeros_iff]

/-! ### JOB_OPEN (R40) -/

theorem openJob_isSome (s : State) : (openJob s).isSome = true ↔ ∃ j ∈ s.items.jobs, j.state = .opened := by
  simp [openJob, List.find?_isSome]

theorem findJob_isSome (s : State) (n : Nat) : (findJob s n).isSome = true ↔ ∃ j ∈ s.items.jobs, j.number = n := by
  simp [findJob, List.find?_isSome]

/-- R40: while a job is OPEN, or one carries the number, there is no new one. -/
theorem judgeJobOpen_of_body {body : List Byte} {n : Nat} (hbody : numberBody body = some n) (s : State) :
    ((∃ j ∈ s.items.jobs, j.state = .opened ∨ j.number = n) → judgeJobOpen body s = (s, .refusedState)) ∧
    ((∀ j ∈ s.items.jobs, j.state ≠ .opened ∧ j.number ≠ n) →
      judgeJobOpen body s = (s.onItems fun m => { m with jobs := m.jobs ++ [newJob n] }, .ok)) := by
  have hclash : (openJob s).isSome = true ∨ (findJob s n).isSome = true ↔
      ∃ j ∈ s.items.jobs, j.state = .opened ∨ j.number = n := by
    rw [openJob_isSome, findJob_isSome]
    simp only [and_or_left, exists_or]
  simp only [judgeJobOpen, hbody, hclash]
  refine ⟨fun h => if_pos h, fun h => if_neg ?_⟩
  rintro ⟨j, hj, hopen | hnumber⟩
  · exact (h j hj).1 hopen
  · exact (h j hj).2 hnumber

/-- Settles O26: the take of JOB_OPEN, its checks and the new job. -/
theorem jobOpenTaken : Obligations.JobOpenTaken := by
  intro s e rest hready hk
  have hexec : exec .jobOpen s =
      command (take .jobOpen canOpenJob fun e s => answerTake e (judgeJobOpen e.body s)) s := rfl
  refine ⟨fun hfull => take_waits hexec hready hk (decide_eq_false (Nat.not_lt.2 hfull)), fun hroom => ?_⟩
  have hcan : canOpenJob e s.clearOut = true := decide_eq_true hroom
  refine ⟨fun hbad => ?_, fun hlength hzero => ?_⟩
  · exact take_bad hexec hready hk hcan (by simp only [judgeJobOpen, (numberBody_eq_none_iff e.body).2 hbad])
  · obtain ⟨hrefused, hadded⟩ := judgeJobOpen_of_body ((numberBody_eq_some_iff e.body _).2 ⟨hlength, rfl, hzero⟩)
      (afterTake s rest)
    exact ⟨fun h => take_refused hexec hready hk hcan (by decide) (hrefused h),
      fun h => take_ok hexec hready hk hcan (hadded h)⟩

/-! ### JOB_CLOSE (R41, R42) -/

/-- R42: the job that a JOB_CLOSE closes stays CLOSING while an item of it is live, and is DONE otherwise. -/
theorem settleJob_mapJob_closing {s : State} {n : Nat} {j : Job} (hj : findJob s n = some j) :
    ((∃ i ∈ s.items.live, i.job = n) → settleJob n (mapJob n (fun k => { k with state := .closing }) s) =
      s.onItems fun m => { m with
        jobs := m.jobs.map fun k => if k.number = n then { k with state := .closing } else k }) ∧
    ((∀ i ∈ s.items.live, i.job ≠ n) → settleJob n (mapJob n (fun k => { k with state := .closing }) s) =
      (s.onItems fun m => { m with jobs := m.jobs.map fun k => if k.number = n then { k with state := .done } else k }
        ).onCosting fun c => { c with jobQueue := c.jobQueue ++ [n] }) := by
  have hnumber : j.number = n := by simpa using List.find?_some hj
  have hkey : ((fun k : Job => k.number == n) ∘ fun k => if k.number = n then { k with state := .closing } else k) =
      fun k => k.number == n := by
    funext k
    by_cases h : k.number = n <;> simp [h]
  have hclosing : findJob (mapJob n (fun k => { k with state := .closing }) s) n =
      some { j with state := .closing } := by
    rw [findJob, mapJob, State.onItems_items, List.find?_map, hkey, ← findJob, hj, Option.map_some, if_pos hnumber]
  refine ⟨fun hlive => settleJob_stays hclosing (.inr hlive), fun hnone => ?_⟩
  have hmap : (fun k : Job => if k.number = n then { k with state := .done } else k) ∘
      (fun k => if k.number = n then { k with state := .closing } else k) =
      fun k => if k.number = n then { k with state := .done } else k := by
    funext k
    by_cases h : k.number = n <;> simp [h]
  rw [settleJob_done hclosing rfl hnone]
  simp only [mapJob, State.onItems, List.map_map, hmap]

section Close

variable {body : List Byte} {n : Nat} {s : State} {j : Job} (hbody : numberBody body = some n)

include hbody

theorem judgeJobClose_unknown (h : ∀ j ∈ s.items.jobs, j.number ≠ n) : judgeJobClose body s = (s, .unknownRef) := by
  have hnone : findJob s n = none := List.find?_eq_none.2 fun j hj => by simp [h j hj]
  simp only [judgeJobClose, hbody, hnone]

/-- R41: a job is closed that is OPEN and has no open item. -/
theorem judgeJobClose_of_find (hj : findJob s n = some j) :
    (j.state ≠ .opened ∨ (∃ i ∈ s.items.live, i.job = n ∧ i.isOpen = true) →
      judgeJobClose body s = (s, .refusedState)) ∧
    (j.state = .opened → (∀ i ∈ s.items.live, i.job = n → i.isOpen = false) →
      judgeJobClose body s = (settleJob n (mapJob n (fun k => { k with state := .closing }) s), .ok)) := by
  have hopen : (s.items.live.any fun i => i.job == n && i.isOpen) = true ↔
      ∃ i ∈ s.items.live, i.job = n ∧ i.isOpen = true := by simp
  simp only [judgeJobClose, hbody, hj, hopen]
  refine ⟨fun h => if_pos h, fun hstate hnone => if_neg ?_⟩
  rintro (hnot | ⟨i, hi, hjob, hitem⟩)
  · exact hnot hstate
  · simp [hnone i hi hjob] at hitem

end Close

/-- Settles O27: the take of JOB_CLOSE, its checks and the job's next state. -/
theorem jobCloseTaken : Obligations.JobCloseTaken := by
  refine ⟨numberBody_eq_some_iff, fun s e rest hready hk => ?_⟩
  have hexec : exec .jobClose s = command (take .jobClose always fun e s => answerTake e (judgeJobClose e.body s)) s :=
    rfl
  refine ⟨fun hbad => take_bad hexec hready hk rfl (by simp only [judgeJobClose, hbad]), fun n hn =>
    ⟨fun hnone => take_refused hexec hready hk rfl (by decide) (judgeJobClose_unknown hn hnone), fun j hj => ?_⟩⟩
  obtain ⟨hrefused, hclosed⟩ := judgeJobClose_of_find (s := afterTake s rest) hn hj
  obtain ⟨hstays, hdone⟩ := settleJob_mapJob_closing (s := afterTake s rest) hj
  refine ⟨fun h => take_refused hexec hready hk rfl (by decide) (hrefused h), fun hstate hnot =>
    ⟨fun hlive => ?_, fun hnone => ?_⟩⟩
  · exact hstays hlive ▸ take_ok hexec hready hk rfl (hclosed hstate hnot)
  · exact hdone hnone ▸ take_ok hexec hready hk rfl (hclosed hstate hnot)

end Sys2Proof.Machine

/-! ## ITEM_OPEN, and the edition entry that an item finds or takes (R43, R44, R159, R174) -/

namespace Sys2Proof.Machine

/-! ### The body (R43) -/

/-- R43: the hold policies by their byte. -/
theorem policyOf_iff {n : Nat} (h : n ≤ 2) (p : Policy) :
    p = policyOf n ↔ (n = 0 ∧ p = .report) ∨ (n = 1 ∧ p = .holdCut) ∨ (n = 2 ∧ p = .holdPrint) := by
  obtain rfl | rfl | rfl : n = 0 ∨ n = 1 ∨ n = 2 := by omega
  all_goals simp [policyOf]

/-- R43: the edition flag with the edition number. -/
theorem editionOf_iff {flag number : Nat} (h : flag ≤ 1) (e : Option Nat) :
    (¬(number ≠ 0 ∧ flag = 0) ∧ e = if flag = 1 then some number else none) ↔
      (flag = 0 ∧ number = 0 ∧ e = none) ∨ (flag = 1 ∧ e = some number) := by
  obtain rfl | rfl : flag = 0 ∨ flag = 1 := by omega
  · simp
  · simp

/-- R43, check 1: which bodies are good, and their fields. -/
theorem itemOpenBody_eq_some_iff (body : List Byte) (b : ItemOpenBody) : itemOpenBody body = some b ↔
    body.length = 20 ∧ u8 body 3 = 0 ∧ 1 ≤ u8 body 0 ∧ b.id = u8 body 0 ∧
    ((u8 body 1 = 0 ∧ b.policy = .report) ∨ (u8 body 1 = 1 ∧ b.policy = .holdCut) ∨
      (u8 body 1 = 2 ∧ b.policy = .holdPrint)) ∧
    ((u8 body 2 = 0 ∧ u32 body 8 = 0 ∧ b.edition = none) ∨ (u8 body 2 = 1 ∧ b.edition = some (u32 body 8))) ∧
    b.job = u32 body 4 ∧ b.print = u32 body 12 ∧ b.declared = u32 body 16 ∧
    1 ≤ u32 body 16 ∧ u32 body 16 ≤ 9600000 := by
  obtain ⟨id, policy, edition, job, print, declared⟩ := b
  simp only [itemOpenBody, Option.ite_none_right_eq_some, Option.some.injEq, ItemOpenBody.mk.injEq]
  rw [rollMax]
  constructor
  · rintro ⟨⟨hlength, hreserved, hid, hpolicy, hflag, hnumber, hlow, hhigh⟩, rfl, rfl, rfl, rfl, rfl, rfl⟩
    exact ⟨hlength, hreserved, Nat.one_le_iff_ne_zero.2 hid, rfl, (policyOf_iff hpolicy _).1 rfl,
      (editionOf_iff hflag _).1 ⟨hnumber, rfl⟩, rfl, rfl, rfl, hlow, hhigh⟩
  · rintro ⟨hlength, hreserved, hid, rfl, hpolicy, hedition, rfl, rfl, rfl, hlow, hhigh⟩
    have hpolicy' : u8 body 1 ≤ 2 := by omega
    have hflag : u8 body 2 ≤ 1 := by omega
    obtain ⟨hnumber, hedition⟩ := (editionOf_iff hflag edition).2 hedition
    exact ⟨⟨hlength, hreserved, Nat.one_le_iff_ne_zero.1 hid, hpolicy', hflag, hnumber, hlow, hhigh⟩, rfl,
      ((policyOf_iff hpolicy' _).2 hpolicy).symm, hedition.symm, rfl, rfl, rfl⟩

/-! ### The edition entry (R159) -/

section Editions

variable {n : Nat} {s : State} {before after : List Edition} {e : Edition}

theorem filter_number_ne {l : List Edition} (h : ∀ a ∈ l, a.number ≠ n) :
    (l.filter fun a => a.number != n) = l :=
  List.filter_eq_self.2 fun a ha => by simp [h a ha]

theorem number_ne_of_nodup (h : ((before ++ e :: after).map Edition.number).Nodup) :
    (∀ a ∈ before, a.number ≠ e.number) ∧ ∀ a ∈ after, a.number ≠ e.number := by
  simp only [List.map_append, List.map_cons, List.nodup_middle, List.nodup_cons, List.mem_append, List.mem_map,
    not_or, not_exists, not_and] at h
  exact h.1

/-- R159: an entry moves to the front, and the others keep their order. -/
theorem frontEdition_of_split (h : ((before ++ e :: after).map Edition.number).Nodup) :
    frontEdition e.number (before ++ e :: after) = e :: (before ++ after) := by
  obtain ⟨hbefore, hafter⟩ := number_ne_of_nodup h
  have hnone {l : List Edition} (hl : ∀ a ∈ l, a.number ≠ e.number) :
      (l.filter fun a => a.number == e.number) = [] := List.filter_eq_nil_iff.2 fun a ha => by simp [hl a ha]
  simp [frontEdition, hnone hbefore, hnone hafter, filter_number_ne hbefore, filter_number_ne hafter]

theorem editionLive_iff (s : State) (n : Nat) : editionLive s n = true ↔ ∃ i ∈ s.items.live, i.edition = some n := by
  simp [editionLive, List.any_eq_true]

/-- R159: an edition that the table holds keeps its entry. -/
theorem takeEdition_held (hnumbers : (s.colour.editions.map Edition.number).Nodup)
    (hs : s.colour.editions = before ++ e :: after) (hn : e.number = n) :
    takeEdition s n = some (e :: (before ++ after)) := by
  have hany : (s.colour.editions.any fun a => a.number == n) = true :=
    List.any_eq_true.2 ⟨e, by simp [hs], by simp [hn]⟩
  rw [takeEdition, if_pos hany, ← hn, hs, frontEdition_of_split (hs ▸ hnumbers)]

section New

variable (hnew : ∀ a ∈ s.colour.editions, a.number ≠ n)

include hnew

/-- R159: another edition takes a free place, else that of the least recently used entry with no live item. -/
theorem takeEdition_new : takeEdition s n =
    if s.colour.editions.length < 8 then some (freshEdition n :: s.colour.editions)
    else (s.colour.editions.reverse.find? fun a => !editionLive s a.number).map fun old =>
      freshEdition n :: s.colour.editions.filter fun a => a.number != old.number := by
  have hany : ¬(s.colour.editions.any fun a => a.number == n) = true := by simpa using hnew
  rw [takeEdition, if_neg hany]
  refine if_congr Iff.rfl rfl ?_
  split
  · next hold => rw [hold, Option.map_some]
  · next hnone => rw [hnone, Option.map_none]

/-- R159: the least recently used entry that no live item names gives up its place. -/
theorem takeEdition_replaces (hnumbers : (s.colour.editions.map Edition.number).Nodup)
    (hfull : 8 ≤ s.colour.editions.length) (hs : s.colour.editions = before ++ e :: after)
    (hfree : ∀ i ∈ s.items.live, i.edition ≠ some e.number)
    (hlive : ∀ a ∈ after, ∃ i ∈ s.items.live, i.edition = some a.number) :
    takeEdition s n = some (freshEdition n :: (before ++ after)) := by
  obtain ⟨hbefore, hafter⟩ := number_ne_of_nodup (hs ▸ hnumbers)
  have hunnamed : editionLive s e.number = false := by
    rw [Bool.eq_false_iff, ne_eq, editionLive_iff]
    exact fun ⟨i, hi, hedition⟩ => hfree i hi hedition
  have hlater : (after.reverse.find? fun a => !editionLive s a.number) = none :=
    List.find?_eq_none.2 fun a ha => by simp [(editionLive_iff s a.number).2 (hlive a (List.mem_reverse.1 ha))]
  have hfind : (s.colour.editions.reverse.find? fun a => !editionLive s a.number) = some e := by
    simp [hs, List.find?_append, hlater, hunnamed]
  rw [takeEdition_new hnew, if_neg (Nat.not_lt.2 hfull), hfind, hs]
  simp [filter_number_ne hbefore, filter_number_ne hafter]

/-- R159: where a live item names every entry of a full table there is no entry. -/
theorem takeEdition_none (hfull : 8 ≤ s.colour.editions.length)
    (hlive : ∀ a ∈ s.colour.editions, ∃ i ∈ s.items.live, i.edition = some a.number) : takeEdition s n = none := by
  have hfind : (s.colour.editions.reverse.find? fun a => !editionLive s a.number) = none :=
    List.find?_eq_none.2 fun a ha => by simp [(editionLive_iff s a.number).2 (hlive a (List.mem_reverse.1 ha))]
  rw [takeEdition_new hnew, if_neg (Nat.not_lt.2 hfull), hfind, Option.map_none]

end New

end Editions

/-! ### The checks, in their order (R43, R44) -/

theorem canOpenItem_iff (e : IntakeEntry) (s : State) :
    canOpenItem e s = true ↔ s.items.live.length < 16 ∧ s.tables.lock ≠ some .mediaProfile := by
  simp only [canOpenItem, locked, Bool.and_eq_true, decide_eq_true_eq, Bool.not_eq_true', beq_eq_false_iff_ne]
  exact Iff.rfl

/-- R44: the reservation, where the blank run is not negative. -/
theorem reservationOf_eq (p : MediaProfile) (declared : Nat) {plan cut : Row} (h : cut ≤ plan) :
    reservationOf p declared (plan - cut) =
      ((declared + (declared + p.maxPanel - 1) / p.maxPanel * p.gutter + p.cutter + (plan - cut).toNat : Nat) : Int) := by
  have hblank : ((plan - cut).toNat : Int) = plan - cut := Int.toNat_of_nonneg (Int.sub_nonneg.2 h)
  simp only [reservationOf, ceilDiv, Nat.cast_add, Nat.cast_mul, hblank]

/-- R44: a reservation that is not negative is asked as it is. -/
theorem rowCount_natCast (n : Nat) : rowCount n = n := by simp [rowCount]

section Checks

variable {body : List Byte} {b : ItemOpenBody} {p : MediaProfile} {s : State} (hbody : itemOpenBody body = some b)

include hbody

/-- R43, check 2. -/
theorem judgeItemOpen_noTable (h : s.tables.mediaProfile = none ∨ s.tables.price = none) :
    judgeItemOpen body s = (s, .noTable) := by
  simp only [judgeItemOpen, hbody]
  obtain h | h := h
  · simp [h]
  · cases s.tables.mediaProfile <;> simp [h]

variable (hp : s.tables.mediaProfile = some p) (hprice : s.tables.price.isSome = true)

include hp hprice

/-- R43, checks 3 and 4. -/
theorem judgeItemOpen_of_job {status : Status} (h : jobAdmits s b = some status) :
    judgeItemOpen body s = (s, status) := by
  obtain ⟨price, hprice⟩ := Option.isSome_iff_exists.1 hprice
  simp only [judgeItemOpen, hbody, hp, hprice, h]

section Admitted

variable {r : Nat} (hjob : jobAdmits s b = none) (hr : reservationOf p b.declared (blankRun s) = r)

include hjob hr

/-- R43, check 5. -/
theorem judgeItemOpen_noMedia (h : s.media.roll.loaded = false ∨ freeRows s < r) :
    judgeItemOpen body s = (s, .noMedia) := by
  obtain ⟨price, hprice⟩ := Option.isSome_iff_exists.1 hprice
  simp only [judgeItemOpen, hbody, hp, hprice, hjob, hr, Nat.cast_lt, if_pos h]

variable (hmedia : ¬(s.media.roll.loaded = false ∨ freeRows s < r))

include hmedia

/-- R43, check 6. -/
theorem judgeItemOpen_noRoom {n : Nat} (hn : b.edition = some n) (h : takeEdition s n = none) :
    judgeItemOpen body s = (s, .noRoom) := by
  obtain ⟨price, hprice⟩ := Option.isSome_iff_exists.1 hprice
  simp only [judgeItemOpen, hbody, hp, hprice, hjob, hr, Nat.cast_lt, if_neg hmedia, hn, h]

/-- R44, R159: the item is admitted, and the edition table is as its edition leaves it. -/
theorem judgeItemOpen_ok {l : List Edition}
    (h : b.edition = none ∧ l = s.colour.editions ∨ ∃ n, b.edition = some n ∧ takeEdition s n = some l) :
    judgeItemOpen body s = ((admitItem (newItem s b r) s).onColour fun c => { c with editions := l }, .ok) := by
  obtain ⟨price, hprice⟩ := Option.isSome_iff_exists.1 hprice
  obtain ⟨hn, rfl⟩ | ⟨n, hn, hl⟩ := h
  · simp only [judgeItemOpen, hbody, hp, hprice, hjob, hr, Nat.cast_lt, if_neg hmedia, hn]
    rfl
  · simp only [judgeItemOpen, hbody, hp, hprice, hjob, hr, Nat.cast_lt, if_neg hmedia, hn, hl]

end Admitted

end Checks

theorem jobAdmits_unknown {s : State} {b : ItemOpenBody} (h : ∀ j ∈ s.items.jobs, j.number ≠ b.job) :
    jobAdmits s b = some .unknownRef := by
  have hnone : findJob s b.job = none := List.find?_eq_none.2 fun j hj => by simp [h j hj]
  simp only [jobAdmits, hnone]

/-- R43, check 4: the job is OPEN, no live item has the id, and no item is open. -/
theorem jobAdmits_of_find {s : State} {b : ItemOpenBody} {j : Job} (hj : findJob s b.job = some j) :
    (j.state ≠ .opened ∨ (∃ i ∈ s.items.live, i.id = b.id ∨ i.isOpen = true) →
      jobAdmits s b = some .refusedState) ∧
    (j.state = .opened → (∀ i ∈ s.items.live, i.id ≠ b.id ∧ i.isOpen = false) → jobAdmits s b = none) := by
  have hitem : (itemById s b.id).isSome = true ∨ (openItem s).isSome = true ↔
      ∃ i ∈ s.items.live, i.id = b.id ∨ i.isOpen = true := by
    simp only [itemById, openItem, List.find?_isSome, beq_iff_eq, and_or_left, exists_or]
  simp only [jobAdmits, hj, hitem]
  refine ⟨fun h => if_pos h, fun hstate hnone => if_neg ?_⟩
  rintro (hnot | ⟨i, hi, hid | hopen⟩)
  · exact hnot hstate
  · exact (hnone i hi).1 hid
  · simp [(hnone i hi).2] at hopen

/-- Settles O28: the take of ITEM_OPEN, its checks, the item admitted and its edition entry. -/
theorem itemOpenTaken : Obligations.ItemOpenTaken := by
  refine ⟨itemOpenBody_eq_some_iff, fun s e rest hready hk => ?_, fun n s hnumbers => ⟨fun before e after hs hn =>
    takeEdition_held hnumbers hs hn, fun hnew => ⟨fun hroom => (takeEdition_new hnew).trans (if_pos hroom),
      fun hfull => ⟨fun before e after hs hfree hlive => takeEdition_replaces hnew hnumbers hfull hs hfree hlive,
        takeEdition_none hnew hfull⟩⟩⟩⟩
  have hexec : exec .itemOpen s =
      command (take .itemOpen canOpenItem fun e s => answerTake e (judgeItemOpen e.body s)) s := rfl
  refine ⟨fun hwait => take_waits hexec hready hk ?_, fun hroom hlock => ?_⟩
  · rw [Bool.eq_false_iff, ne_eq, canOpenItem_iff]
    rintro ⟨hroom, hlock⟩
    exact hwait.elim (Nat.not_le.2 hroom) hlock
  have hcan : canOpenItem e s.clearOut = true := (canOpenItem_iff e _).2 ⟨hroom, hlock⟩
  refine ⟨fun hbad => take_bad hexec hready hk hcan (by simp only [judgeItemOpen, hbad]), fun b hb =>
    ⟨fun hnone => take_refused hexec hready hk hcan (by decide) (judgeItemOpen_noTable hb hnone),
      fun p hp hprice => ⟨fun hnone => take_refused hexec hready hk hcan (by decide)
        (judgeItemOpen_of_job (s := afterTake s rest) hb hp hprice (jobAdmits_unknown hnone)), fun j hj => ?_⟩⟩⟩
  obtain ⟨hrefused, hadmits⟩ := jobAdmits_of_find (s := afterTake s rest) (b := b) hj
  refine ⟨fun h => take_refused hexec hready hk hcan (by decide)
    (judgeItemOpen_of_job (s := afterTake s rest) hb hp hprice (hrefused h)), fun hstate hnone r hblank hr => ?_⟩
  have hjob := hadmits hstate hnone
  have hreservation : reservationOf p b.declared (blankRun (afterTake s rest)) = (r : Int) :=
    hr ▸ reservationOf_eq p b.declared hblank
  refine ⟨fun h => take_refused hexec hready hk hcan (by decide)
    (judgeItemOpen_noMedia (s := afterTake s rest) hb hp hprice hjob hreservation h), fun hloaded hfit => ?_⟩
  have hmedia : ¬((afterTake s rest).media.roll.loaded = false ∨ freeRows (afterTake s rest) < r) :=
    not_or.2 ⟨by rw [show (afterTake s rest).media.roll.loaded = true from hloaded]; decide, Nat.not_lt.2 hfit⟩
  refine ⟨fun n hn hfull => take_refused hexec hready hk hcan (by decide)
    (judgeItemOpen_noRoom (s := afterTake s rest) hb hp hprice hjob hreservation hmedia hn hfull), fun l hl => ?_⟩
  refine take_ok hexec hready hk hcan
    ((judgeItemOpen_ok (s := afterTake s rest) hb hp hprice hjob hreservation hmedia hl).trans ?_)
  simp only [newItem, rowCount_natCast]
  rfl

end Sys2Proof.Machine

/-! ## ITEM_CLOSE (R51, R52) -/

namespace Sys2Proof.Machine

theorem byteBody_eq_some_iff (body : List Byte) (id : Nat) : byteBody body = some id ↔
    body.length = 4 ∧ id = u8 body 0 ∧ u8 body 1 = 0 ∧ u8 body 2 = 0 ∧ u8 body 3 = 0 := by
  have hzeros : zeros body 1 3 = true ↔ u8 body 1 = 0 ∧ u8 body 2 = 0 ∧ u8 body 3 = 0 := by
    simp [zeros, List.range_succ]
  simp only [byteBody, Option.ite_none_right_eq_some, Option.some.injEq, hzeros]
  exact ⟨fun ⟨⟨hlength, hzero⟩, hid⟩ => ⟨hlength, hid.symm, hzero⟩, fun ⟨hlength, hid, hzero⟩ =>
    ⟨⟨hlength, hzero⟩, hid.symm⟩⟩

section Room

variable {s : State} {e : IntakeEntry} {i : Item} {id : Nat}

/-- R47, R51: what the close of a panel needs, under a profile that is free. -/
theorem closeRoom_iff {p : MediaProfile} (hp : s.tables.mediaProfile = some p)
    (hlock : s.tables.lock ≠ some .mediaProfile) (hstops : s.media.stops.length ≤ 32) :
    closeRoom s = true ↔
      s.media.stops.length + panelStops p ≤ 32 ∧ (p.gutter = 0 ∨ placeFreeForIntake s = true) := by
  have hfree : locked s .mediaProfile = false := by simp [locked, hlock]
  have hroom : panelStops p ≤ stopRoom s ↔ s.media.stops.length + panelStops p ≤ 32 := by
    rw [stopRoom, stopPlaces]
    omega
  simp only [closeRoom, hp, hfree, Bool.not_false, Bool.and_true, Bool.and_eq_true, decide_eq_true_eq,
    Bool.or_eq_true, beq_iff_eq, hroom]

theorem closeRoom_of_noProfile (hp : s.tables.mediaProfile = none) (hlock : s.tables.lock ≠ some .mediaProfile) :
    closeRoom s = true := by
  simp [closeRoom, hp, locked, hlock]

theorem canCloseItem_locked (hlock : s.tables.lock = some .mediaProfile) : canCloseItem e s = false := by
  simp [canCloseItem, locked, hlock]

/-- R51: a record that names no live item waits for no places (log 49). -/
theorem canCloseItem_unnamed (hlock : s.tables.lock ≠ some .mediaProfile)
    (h : (byteBody e.body).bind (itemById s) = none) : canCloseItem e s = true := by
  simp [canCloseItem, locked, hlock, h]

/-- R51: the open panel of the item named must find room for its close. -/
theorem canCloseItem_named (hlock : s.tables.lock ≠ some .mediaProfile) (hid : byteBody e.body = some id)
    (hi : itemById s id = some i) : canCloseItem e s = (i.openRows == 0 || closeRoom s) := by
  simp [canCloseItem, locked, hlock, hid, hi]

/-- R51: an item with an open panel that lacks its places waits. -/
theorem canCloseItem_waits {p : MediaProfile} (hlock : s.tables.lock ≠ some .mediaProfile)
    (hid : byteBody e.body = some id) (hi : itemById s id = some i) (hstops : s.media.stops.length ≤ 32)
    (hp : s.tables.mediaProfile = some p) (hopen : 0 < i.openRows)
    (h : 32 < s.media.stops.length + panelStops p ∨ (p.gutter ≠ 0 ∧ placeFreeForIntake s = false)) :
    canCloseItem e s = false := by
  rw [canCloseItem_named hlock hid hi, beq_false_of_ne hopen.ne', Bool.false_or, Bool.eq_false_iff, ne_eq,
    closeRoom_iff hp hlock hstops]
  rintro ⟨hroom, hplace⟩
  obtain hfull | ⟨hgutter, hnone⟩ := h
  · exact Nat.not_le.2 hfull hroom
  · exact hplace.elim hgutter (by simp [hnone])

/-- R51: an item whose open panel, if it has one, finds its places is looked at. -/
theorem canCloseItem_room (hlock : s.tables.lock ≠ some .mediaProfile) (hid : byteBody e.body = some id)
    (hi : itemById s id = some i) (hstops : s.media.stops.length ≤ 32)
    (h : ∀ p, s.tables.mediaProfile = some p → 0 < i.openRows →
      s.media.stops.length + panelStops p ≤ 32 ∧ (p.gutter = 0 ∨ placeFreeForIntake s = true)) :
    canCloseItem e s = true := by
  rw [canCloseItem_named hlock hid hi, Bool.or_eq_true, beq_iff_eq]
  refine (Nat.eq_zero_or_pos i.openRows).imp_right fun hopen => ?_
  cases hp : s.tables.mediaProfile with
  | none => exact closeRoom_of_noProfile hp hlock
  | some p => exact (closeRoom_iff hp hlock hstops).2 (h p hp hopen)

end Room

section Judge

variable {body : List Byte} {id : Nat} {s : State} {i : Item} (hid : byteBody body = some id)

include hid

theorem judgeItemClose_unknown (h : ∀ i ∈ s.items.live, i.id ≠ id) : judgeItemClose body s = (s, .unknownRef) := by
  have hnone : itemById s id = none := List.find?_eq_none.2 fun i hi => by simp [h i hi]
  simp only [judgeItemClose, hid, hnone]

theorem judgeItemClose_notOpen (hi : itemById s id = some i) (h : i.isOpen = false) :
    judgeItemClose body s = (s, .refusedState) := by
  simp [judgeItemClose, hid, hi, h]

theorem judgeItemClose_open (hi : itemById s id = some i) (h : i.isOpen = true) :
    judgeItemClose body s = (closeItemTake i s, .ok) := by
  simp [judgeItemClose, hid, hi, h]

end Judge

/-- R51, R52: an OPEN item becomes CLOSING, with its notice. -/
theorem closeItemTake_opened {i : Item} (h : i.state = .opened) (s : State) :
    closeItemTake i s = advanceItem i.uid (raiseItem .closing i.uid (mapItem i.uid (fun k => { k with state := .closing })
      (if 0 < i.openRows then closePanel i.uid true none s else s))) := by
  rw [closeItemTake, if_neg (by simp [h])]

/-- R51, R52: a HELD item's state under hold becomes CLOSING, with no notice (log 19). -/
theorem closeItemTake_held {i : Item} (h : i.state = .held) (s : State) :
    closeItemTake i s = advanceItem i.uid (mapItem i.uid (fun k => { k with under := some .closing })
      (if 0 < i.openRows then closePanel i.uid true none s else s)) := by
  rw [closeItemTake, if_pos h]

/-- Settles O30: the take of ITEM_CLOSE, its waits and checks, and the close. -/
theorem itemCloseTaken : Obligations.ItemCloseTaken := by
  refine ⟨byteBody_eq_some_iff, fun s e rest hready hk hstops => ?_⟩
  have hexec : exec .itemClose s =
      command (take .itemClose canCloseItem fun e s => answerTake e (judgeItemClose e.body s)) s := rfl
  refine ⟨fun hlock => take_waits hexec hready hk (canCloseItem_locked hlock), fun hlock => ⟨fun hbad => ?_,
    fun id hid => ⟨fun hnone => ?_, fun i hi => ⟨fun p hp hopen hwait => ?_, fun hroom => ?_⟩⟩⟩⟩
  · exact take_bad hexec hready hk (canCloseItem_unnamed hlock (by rw [hbad, Option.bind_none]))
      (by simp only [judgeItemClose, hbad])
  · have hunnamed : itemById s id = none := List.find?_eq_none.2 fun i hi => by simp [hnone i hi]
    exact take_refused hexec hready hk (canCloseItem_unnamed hlock (by rw [hid]; exact hunnamed)) (by decide)
      (judgeItemClose_unknown hid hnone)
  · exact take_waits hexec hready hk (canCloseItem_waits (s := s.clearOut) hlock hid hi hstops hp hopen hwait)
  · have hcan : canCloseItem e s.clearOut = true := canCloseItem_room (s := s.clearOut) hlock hid hi hstops hroom
    have hfind : itemById (afterTake s rest) id = some i := hi
    refine ⟨fun hnot => take_refused hexec hready hk hcan (by decide) (judgeItemClose_notOpen hid hfind hnot),
      fun hstate => ?_, fun hstate hunder => ?_⟩
    · rw [← closeItemTake_opened hstate]
      exact take_ok hexec hready hk hcan (judgeItemClose_open hid hfind (by simp [Item.isOpen, hstate]))
    · rw [← closeItemTake_held hstate]
      exact take_ok hexec hready hk hcan (judgeItemClose_open hid hfind (by simp [Item.isOpen, hstate, hunder]))

end Sys2Proof.Machine

/-! ## The close of a panel, at a take and at an abort (R49, R50, R56, R121, R135, R136) -/

namespace Sys2Proof.Machine

/-! ### The cuts of the panel (R49, R121) -/

theorem length_insertInOrder (t : Stop) (l : List Stop) : (insertInOrder t l).length = l.length + 1 := by
  induction l with
  | nil => rfl
  | cons u l ih =>
    unfold insertInOrder
    split
    · simp [ih]
    · rfl

/-- R49: a cut stop of the panel `n` of the item `i`, with the stop identity `uid`. -/
def panelCutStop (i : Item) (n : Nat) (time : Option Time × Option Nat) (role : CutRole) (row position : Row)
    (uid : Nat) : Stop :=
  { uid := uid, position := position, item := i.uid, itemId := i.id, panel := some n,
    kind := .cut { role := role, cutRow := row, notBefore := time.1, hold := false, lastBand := time.2 } }

/-- R121: a new stop of the list takes the next identity. -/
def stopJoined (t : Stop) (s : State) : State :=
  s.onMedia fun m => { m with stops := insertInOrder t m.stops, nextStop := m.nextStop + 1 }

@[simp] theorem stopJoined_length (t : Stop) (s : State) :
    (stopJoined t s).media.stops.length = s.media.stops.length + 1 := length_insertInOrder t s.media.stops

section Cuts

variable {i : Item} {mp : MediaProfile} {n : Nat} {time : Option Time × Option Nat} {role : CutRole} {row : Row}
  {s : State}

/-- R121: a stop is inserted where the list has a place. -/
theorem insertCut_room (panel : Option Nat) (position : Row) (c : CutStop) (h : s.media.stops.length < 32) :
    insertCut i panel position c s =
      (stopJoined { uid := s.media.nextStop, position := position, item := i.uid, itemId := i.id, panel := panel,
                    kind := .cut c } s, some position) := by
  have hroom : s.media.stops.length < stopPlaces := h
  simp only [insertCut, if_pos hroom, insertStop]
  rfl

theorem panelCut_made (hcutter : mp.cutterEnabled = true) (h : s.media.stops.length < 32) :
    panelCut i mp n time role row s =
      (stopJoined (panelCutStop i n time role row (row + mp.cutter) s.media.nextStop) s, some (row + mp.cutter)) := by
  rw [panelCut, if_pos hcutter]
  exact insertCut_room _ _ _ h

/-- R49: with the cutter disabled or the list full there is no stop. -/
theorem panelCut_absent (h : ¬(mp.cutterEnabled = true ∧ s.media.stops.length < 32)) :
    panelCut i mp n time role row s = (s, none) := by
  unfold panelCut
  split
  · next hcutter =>
    have hfull : ¬s.media.stops.length < stopPlaces := fun hroom => h ⟨hcutter, hroom⟩
    exact if_neg hfull
  · rfl

/-- R49: the cuts of a panel that closes at a row with a gutter of `g` rows: the state and the two positions. -/
def panelCuts (i : Item) (mp : MediaProfile) (n : Nat) (time : Option Time × Option Nat) (row : Row) (s : State) :
    State × Option Row × Option Row :=
  let a := panelCut i mp n time .a row s
  let b := if 0 < mp.gutter then panelCut i mp n time .b (row + mp.gutter) a.1 else (a.1, none)
  (b.1, a.2, b.2)

/-- R49, R121: with two places in the list, and a gutter between them, both cuts are made. -/
theorem panelCuts_both (hcutter : mp.cutterEnabled = true) (hgutter : 0 < mp.gutter)
    (h : s.media.stops.length < 31) :
    panelCuts i mp n time row s =
      (stopJoined (panelCutStop i n time .b (row + mp.gutter) (row + mp.gutter + mp.cutter) (s.media.nextStop + 1))
        (stopJoined (panelCutStop i n time .a row (row + mp.cutter) s.media.nextStop) s),
        some (row + mp.cutter), some (row + mp.gutter + mp.cutter)) := by
  simp only [panelCuts, panelCut_made (row := row) hcutter (show s.media.stops.length < 32 by omega), if_pos hgutter]
  rw [panelCut_made hcutter (by rw [stopJoined_length]; omega)]
  rfl

/-- R49, R121: with one place, or no gutter, the first cut alone is made. -/
theorem panelCuts_first (hcutter : mp.cutterEnabled = true) (h : s.media.stops.length < 32)
    (hno : ¬(0 < mp.gutter ∧ s.media.stops.length < 31)) :
    panelCuts i mp n time row s =
      (stopJoined (panelCutStop i n time .a row (row + mp.cutter) s.media.nextStop) s,
        some (row + mp.cutter), none) := by
  simp only [panelCuts, panelCut_made (row := row) hcutter h]
  by_cases hgutter : 0 < mp.gutter
  · have hlength : ¬s.media.stops.length < 31 := fun hlt => hno ⟨hgutter, hlt⟩
    rw [if_pos hgutter, panelCut_absent (by rw [stopJoined_length]; omega)]
  · rw [if_neg hgutter]

theorem panelCuts_none (h : ¬(mp.cutterEnabled = true ∧ s.media.stops.length < 32)) :
    panelCuts i mp n time row s = (s, none, none) := by
  simp only [panelCuts, panelCut_absent h, ite_self]

/-- R49: the stop list with the cuts that have a position. -/
def cutsJoined (i : Item) (mp : MediaProfile) (n : Nat) (time : Option Time × Option Nat) (row : Row)
    (a b : Option Row) (m : Media) : Media :=
  { m with
    nextStop := m.nextStop + (if a.isSome then 1 else 0) + (if b.isSome then 1 else 0),
    stops :=
      (match b with
       | some position => insertInOrder (panelCutStop i n time .b (row + mp.gutter) position (m.nextStop + 1))
       | none => id)
      (match a with
       | some position => insertInOrder (panelCutStop i n time .a row position m.nextStop) m.stops
       | none => m.stops) }

/-- R49, R121: the positions of the cuts, and the list with them, by its places. -/
theorem panelCuts_spec (i : Item) (mp : MediaProfile) (n : Nat) (time : Option Time × Option Nat) (row : Row)
    (s : State) : ∃ a b, panelCuts i mp n time row s = (s.onMedia (cutsJoined i mp n time row a b), a, b) ∧
      a = (if mp.cutterEnabled ∧ s.media.stops.length < 32 then some (row + mp.cutter) else none) ∧
      b = (if mp.cutterEnabled ∧ 0 < mp.gutter ∧ s.media.stops.length < 31 then
        some (row + mp.gutter + mp.cutter) else none) := by
  by_cases ha : mp.cutterEnabled = true ∧ s.media.stops.length < 32
  · obtain ⟨hcutter, hroom⟩ := ha
    by_cases hb : 0 < mp.gutter ∧ s.media.stops.length < 31
    · exact ⟨_, _, panelCuts_both hcutter hb.1 hb.2, (if_pos ⟨hcutter, hroom⟩).symm, (if_pos ⟨hcutter, hb⟩).symm⟩
    · exact ⟨_, _, panelCuts_first hcutter hroom hb, (if_pos ⟨hcutter, hroom⟩).symm,
        (if_neg fun h => hb h.2).symm⟩
  · refine ⟨none, none, panelCuts_none ha, (if_neg ha).symm, (if_neg fun h => ha ⟨h.1, ?_⟩).symm⟩
    omega

end Cuts

/-! ### The gutter (R49, R50, R56) -/

/-- R49, R50: the gutter of the panel moves the plan, and at a take waits to be fed; an abort leaves it to its feed. -/
def gutterMade (u band g : Nat) (aborted : Option Time) (s : State) : State :=
  match aborted with
  | none => if 0 < g then addGutter u band g (movePlan g (mapItem u (fun i =>
      { i with gutterRows := i.gutterRows + g }) s)) else s
  | some _ => gutterFed u g s

/-- R49: the plan row and the item's gutter rows gain the gutter. -/
theorem gutterFed_eq (u g : Nat) (s : State) : gutterFed u g s = s.onItems fun m => { m with
    planRow := m.planRow + g,
    live := m.live.map fun k => if k.uid = u then { k with gutterRows := k.gutterRows + g } else k } := by
  unfold gutterFed
  split
  · rfl
  · next h =>
    obtain rfl : g = 0 := Nat.eq_zero_of_not_pos h
    simp [State.onItems]

theorem gutterMade_spec (u band g : Nat) (aborted : Option Time) (s : State) :
    gutterMade u band g aborted s = { s with
      items := (gutterFed u g s).items,
      path := if 0 < g ∧ aborted = none then
        { s.path with
          waiting := s.path.waiting ++
            [{ serial := s.path.nextArise, owner := some u, work := .feed (.gutter band) g, rest := false }],
          nextArise := s.path.nextArise + 1 } else s.path } := by
  cases aborted with
  | some t => rw [if_neg (by simp), gutterMade, gutterFed_eq]; rfl
  | none =>
    by_cases h : 0 < g
    · rw [if_pos ⟨h, rfl⟩, gutterMade, if_pos h, gutterFed, if_pos h]
      rfl
    · rw [if_neg fun hpos => h hpos.1, gutterMade, if_neg h, gutterFed, if_neg h]

/-! ### The panel record and its notice (R49) -/

/-- R135, R136: the time of the cuts of a panel that closes. -/
def panelTime (s : State) (i : Item) (p : Panel) (aborted : Option Time) : Option Time × Option Nat :=
  match aborted with
  | none => closeTime s i p
  | some t => keptTime s i p t

/-- R49: the cuts of the open panel `p` of the item `i`, once its gutter is made. -/
def panelMade (u : Nat) (aborted : Option Time) (i : Item) (p : Panel) (mp : MediaProfile) (s : State) :
    State × Option Row × Option Row :=
  panelCuts i mp p.index (panelTime s i p aborted) s.items.planRow (gutterMade u p.lastBand mp.gutter aborted s)

/-- R49: the panel record of `p` as it closes. -/
def Panel.closed (p : Panel) (i : Item) (last : Bool) (cutA cutB : Option Row) : Panel :=
  { p with rows := i.openRows, last := last, cutA := cutA, cutB := cutB }

section Closes

variable {u : Nat} {last : Bool} {aborted : Option Time} {i : Item} {p : Panel} {mp : MediaProfile} {s : State}

/-- R49, R56: the close of a panel, in its parts. -/
theorem closePanel_eq (hi : findItem s u = some i) (hmp : s.tables.mediaProfile = some mp)
    (hp : i.panels.getLast? = some p) :
    closePanel u last aborted s =
      let made := panelMade u aborted i p mp s
      let closed := p.closed i last made.2.1 made.2.2
      raise (.panelClosed (panelBody i closed)) ((mapItem u (fun k => { k with
        panels := k.panels.dropLast ++ [closed], openRows := 0 }) made.1).onItems fun m => { m with
          cutRef := s.items.planRow + mp.gutter }) := by
  cases aborted with
  | none => simp only [closePanel, hi, hmp, hp]; rfl
  | some t => simp only [closePanel, hi, hmp, hp]; rfl

/-- R49: the items whose panel has closed, their keys being distinct. -/
theorem closePanel_items {before : List Panel} {closed : Panel} (hi : findItem s u = some i)
    (hpanels : i.panels = before ++ [p]) (hnodup : (s.items.live.map Item.uid).Nodup) (g : Nat) :
    (mapItem u (fun k => { k with panels := k.panels.dropLast ++ [closed], openRows := 0 })
        (gutterFed u g s)).items = { s.items with
      planRow := s.items.planRow + g,
      live := s.items.live.map fun k => if k.uid = u then
        { k with gutterRows := k.gutterRows + g, openRows := 0, panels := before ++ [closed] } else k } := by
  obtain ⟨hmem, huid⟩ := mem_of_findItem hi
  simp only [gutterFed_eq, mapItem, State.onItems_items, List.map_map, ItemManager.mk.injEq, true_and, and_true]
  refine List.map_congr_left fun k hk => ?_
  by_cases h : k.uid = u
  · obtain rfl : k = i := List.inj_on_of_nodup_map hnodup hk hmem (h.trans huid.symm)
    simp [h, hpanels]
  · simp [h]

/-- R49, R50, R56: what the close of a panel leaves, its cuts having the positions `a` and `b`. -/
theorem closePanel_spec {before : List Panel} {a b : Option Row} (hi : findItem s u = some i)
    (hpanels : i.panels = before ++ [p]) (hmp : s.tables.mediaProfile = some mp)
    (hnodup : (s.items.live.map Item.uid).Nodup)
    (ha : a = if mp.cutterEnabled ∧ s.media.stops.length < 32 then some (s.items.planRow + mp.cutter) else none)
    (hb : b = if mp.cutterEnabled ∧ 0 < mp.gutter ∧ s.media.stops.length < 31 then
      some (s.items.planRow + mp.gutter + mp.cutter) else none) :
    (closePanel u last aborted s).items = { s.items with
      planRow := s.items.planRow + mp.gutter, cutRef := s.items.planRow + mp.gutter,
      live := s.items.live.map fun k => if k.uid = u then
        { k with gutterRows := k.gutterRows + mp.gutter, openRows := 0,
                 panels := before ++ [p.closed i last a b] } else k } ∧
    (closePanel u last aborted s).path = (if 0 < mp.gutter ∧ aborted = none then
      { s.path with
        waiting := s.path.waiting ++
          [{ serial := s.path.nextArise, owner := some u, work := .feed (.gutter p.lastBand) mp.gutter,
             rest := false }],
        nextArise := s.path.nextArise + 1 } else s.path) ∧
    (closePanel u last aborted s).media =
      cutsJoined i mp p.index (panelTime s i p aborted) s.items.planRow a b s.media ∧
    (closePanel u last aborted s).link = (raise (.panelClosed (panelBody i (p.closed i last a b))) s).link := by
  have hp : i.panels.getLast? = some p := by rw [hpanels, List.getLast?_concat]
  obtain ⟨a', b', hcuts, ha', hb'⟩ := panelCuts_spec i mp p.index (panelTime s i p aborted) s.items.planRow
    (gutterMade u p.lastBand mp.gutter aborted s)
  rw [gutterMade_spec] at hcuts ha' hb'
  obtain rfl : a' = a := ha'.trans ha.symm
  obtain rfl : b' = b := hb'.trans hb.symm
  have heq := closePanel_eq (last := last) (aborted := aborted) hi hmp hp
  rw [panelMade, gutterMade_spec, hcuts] at heq
  have hitems := closePanel_items (closed := p.closed i last a' b') hi hpanels hnodup mp.gutter
  rw [heq]
  refine ⟨?_, by simp, by simp, raise_link_congr _ rfl rfl rfl⟩
  simp only [raise_frame, State.onItems_items]
  change { (mapItem u (fun k => { k with panels := k.panels.dropLast ++ [p.closed i last a' b'], openRows := 0 })
    (gutterFed u mp.gutter s)).items with cutRef := s.items.planRow + mp.gutter } = _
  rw [hitems]

end Closes

/-- R135, R136: where the time of the cuts of an aborted panel comes from. -/
theorem panelTime_aborted (s : State) (i : Item) (p : Panel) (t : Time) :
    KeptTime s i p t (panelTime s i p (some t)).1 (panelTime s i p (some t)).2 := keptTime_spec rfl i p t

/-- Settles O31: what the close of a panel plans and reports. -/
theorem panelCloses : Obligations.PanelCloses := by
  intro u last aborted i p before mp s hi hpanels hmp hnodup
  obtain ⟨hitems, hpath, hmedia, hlink⟩ := closePanel_spec (last := last) (aborted := aborted) hi hpanels hmp hnodup
    rfl rfl
  refine ⟨_, (panelTime s i p aborted).1, (panelTime s i p aborted).2, _, _, rfl, ?_, ?_, rfl, rfl, hitems, hpath,
    hmedia, hlink, by simp, by simp, fun b hb => ?_⟩
  · rintro rfl
    rfl
  · rintro t rfl
    exact panelTime_aborted s i p t
  · cases b with
    | link | items | path | media => exact absurd (by simp) hb
    | tables | ink | cutter | colour | costing => simp [SameBlock]

end Sys2Proof.Machine

/-! ## The express records that name an item (R54, R57) -/

namespace Sys2Proof.Machine

section Named

variable {u : Nat} {s t : State}

/-! ### An abort, from the record that asks for it to its reply -/

/-- R10: what an abort has done stands once its command has replied. -/
theorem AbortedBy.replied (h : AbortedBy u s t) (tag : Byte) (st : Status) (b : ReplyBody) :
    AbortedBy u s (keepRunOut (reply tag st b t)) := by
  unfold keepRunOut
  split
  · exact h
  · exact h

theorem repliedLast_keepRunOut (tag : Byte) (st : Status) (t : State) :
    RepliedLast (keepRunOut (reply tag st .empty t)) tag st :=
  ⟨t.link.ret, by simp [reply]⟩

/-- R10: an abort that a command replies OK to. -/
theorem exists_abortedBy_of_replies {c : Instr} {tag : Byte} (h : Replies c s tag .ok .empty t)
    (habort : AbortedBy u s t) : ∃ r, exec c s = .next r ∧ AbortedBy u s r ∧ RepliedLast r tag .ok :=
  ⟨_, h, habort.replied tag .ok .empty, repliedLast_keepRunOut tag .ok t⟩

/-- R54, R55: an abort clears the holds of the item's cuts, whether or not they were cleared before. -/
theorem AbortedBy.of_clearHolds (h : AbortedBy u (clearHolds u s) t) : AbortedBy u s t := by
  obtain ⟨hitem, hgone, hkept, htimes, hrest⟩ := h
  have hmem {w : Stop} (hw : w ∈ s.media.stops) :
      (if w.item == u then w.unheld else w) ∈ (clearHolds u s).media.stops := List.mem_map_of_mem hw
  refine ⟨hitem, hgone, fun w hw hcut => ?_, fun i hi w hw hu c n hkind hpanel => ?_, hrest⟩
  · obtain ⟨c, hc⟩ := exists_cut_of_isMeasure hcut
    obtain ⟨v, hv, hplace⟩ := hkept _ (hmem hw) (by split <;> simp [unheld_of_cut hc, Stop.isMeasure, Stop.cut?, hc])
    refine ⟨v, hv, ?_⟩
    split at hplace
    · simpa [unheld_of_cut hc] using hplace
    · exact hplace
  · have hw' := hmem hw
    rw [hu, beq_self_eq_true, if_pos rfl, unheld_of_cut hkind] at hw'
    exact htimes i hi _ hw' hu { c with hold := false } n rfl hpanel

end Named

/-! ### ITEM_ABORT -/

section Abort

variable {id : Nat} {body : List Byte} {s : State} {i : Item}

theorem itemAbort_malformed (hbody : byteBody body = none) : itemAbort body s = (s, .badRecord) := by
  simp only [itemAbort, hbody]

theorem itemAbort_unknown (hbody : byteBody body = some id) (h : itemById s id = none) :
    itemAbort body s = (s, .unknownRef) := by
  simp only [itemAbort, hbody, h]

theorem itemAbort_over (hbody : byteBody body = some id) (hi : itemById s id = some i)
    (h : i.state = .costing ∨ i.fate = .aborted) : itemAbort body s = (s, .refusedState) := by
  simp only [itemAbort, hbody, hi, if_pos h]

theorem itemAbort_live (hbody : byteBody body = some id) (hi : itemById s id = some i)
    (hstate : i.state ≠ .costing) (hfate : i.fate = .complete) :
    itemAbort body s = (abortItem i.uid .itemAbort s, .ok) := by
  have h : ¬(i.state = .costing ∨ i.fate = .aborted) := by simp [hstate, hfate]
  simp only [itemAbort, hbody, hi, if_neg h]

end Abort

/-! ### HOLD_RELEASE -/

section Release

variable {body : List Byte} {id : Nat} {abort : Bool} {s : State} {i : Item}

theorem holdReleaseBody_eq_none {item action : Byte} {rest : List Byte} (h : rest ≠ [0#8, 0#8]) :
    holdReleaseBody (item :: action :: rest) = none := by
  refine if_neg ?_
  rintro ⟨hlen, hzeros, -⟩
  match rest, hlen with
  | [a, b], _ =>
    have ha : a.toNat = 0 := (zeros_iff _ _ _).1 hzeros 2 (by omega) (by omega)
    have hb : b.toNat = 0 := (zeros_iff _ _ _).1 hzeros 3 (by omega) (by omega)
    exact h (by rw [show a = 0#8 from BitVec.eq_of_toNat_eq ha, show b = 0#8 from BitVec.eq_of_toNat_eq hb])

theorem holdReleaseBody_continue (item : Byte) :
    holdReleaseBody [item, 0#8, 0#8, 0#8] = some (item.toNat, false) := rfl

theorem holdReleaseBody_abort (item : Byte) :
    holdReleaseBody [item, 1#8, 0#8, 0#8] = some (item.toNat, true) := rfl

theorem ownsHeldCut_iff (s : State) (uid : Nat) :
    ownsHeldCut s uid = true ↔ ∃ u ∈ s.media.stops, u.item = uid ∧ ∃ c, u.kind = .cut c ∧ c.hold = true := by
  rw [ownsHeldCut, List.any_eq_true]
  refine exists_congr fun u => and_congr_right fun _ => ?_
  obtain ⟨_, _, _, _, _, kind⟩ := u
  cases kind <;> simp [Stop.cut?]

theorem holdRelease_malformed (h : holdReleaseBody body = none) : holdRelease body s = (s, .badRecord) := by
  simp only [holdRelease, h]

theorem holdRelease_unknown (hbody : holdReleaseBody body = some (id, abort)) (h : itemById s id = none) :
    holdRelease body s = (s, .unknownRef) := by
  simp only [holdRelease, hbody, h]

theorem holdRelease_free (hbody : holdReleaseBody body = some (id, abort)) (hi : itemById s id = some i)
    (hheld : i.state ≠ .held) (hcut : ownsHeldCut s i.uid = false) : holdRelease body s = (s, .refusedState) := by
  simp only [holdRelease, hbody, hi, if_pos (And.intro hheld hcut)]

/-- R54: the item has a hold to end. -/
theorem holdRelease_held (hbody : holdReleaseBody body = some (id, abort)) (hi : itemById s id = some i)
    (h : i.state = .held ∨ ownsHeldCut s i.uid = true) :
    holdRelease body s = if abort then (abortItem i.uid .holdAbort (clearHolds i.uid s), .ok)
      else (releaseHoldOf i.uid s, .ok) := by
  have hnot : ¬(i.state ≠ .held ∧ ownsHeldCut s i.uid = false) := fun ⟨hstate, hcut⟩ =>
    h.elim hstate fun hown => Bool.false_ne_true (hcut.symm.trans hown)
  simp only [holdRelease, hbody, hi, if_neg hnot]

end Release

/-- R43: an id that no live item carries. -/
theorem itemById_eq_none_iff (s : State) (id : Nat) : itemById s id = none ↔ ∀ i ∈ s.items.live, i.id ≠ id := by
  simp [itemById]

/-- Settles O33: each form of the record is answered by its check, and an abort is `abortedBy_abortItem`. -/
theorem holdReleaseActed : Obligations.HoldReleaseActed := by
  intro tag id s hact
  have hcontinue {rest : List Byte} : exec (.holdReleaseContinue tag id rest) s =
      command (express .holdRelease tag (id :: 0#8 :: rest)) s := rfl
  have habort {rest : List Byte} : exec (.holdReleaseAbort tag id rest) s =
      command (express .holdRelease tag (id :: 1#8 :: rest)) s := rfl
  refine ⟨fun rest hrest => ⟨refuses_of_acts hcontinue hact ?_, refuses_of_acts habort hact ?_⟩,
    fun hunknown => ⟨replies_of_answer hcontinue hact ?_, replies_of_answer habort hact ?_⟩,
    fun i hi hfind => ⟨fun hstate hcuts => ?_, fun hheld => ⟨fun hfate hstate => ?_, ?_⟩⟩⟩
  · exact congrArg answer (holdRelease_malformed (holdReleaseBody_eq_none hrest))
  · exact congrArg answer (holdRelease_malformed (holdReleaseBody_eq_none hrest))
  · exact congrArg answer (holdRelease_unknown (holdReleaseBody_continue id) ((itemById_eq_none_iff _ _).2 hunknown))
  · exact congrArg answer (holdRelease_unknown (holdReleaseBody_abort id) ((itemById_eq_none_iff _ _).2 hunknown))
  · have hcut : ownsHeldCut s i.uid = false := by
      rw [← Bool.not_eq_true, ownsHeldCut_iff]
      rintro ⟨u, hu, hitem, c, hc, hhold⟩
      exact Bool.false_ne_true ((hcuts u hu hitem c hc).symm.trans hhold)
    exact ⟨replies_of_answer hcontinue hact
        (congrArg answer (holdRelease_free (holdReleaseBody_continue id) hi hstate hcut)),
      replies_of_answer habort hact (congrArg answer (holdRelease_free (holdReleaseBody_abort id) hi hstate hcut))⟩
  · have hown := hheld.imp_right (ownsHeldCut_iff s i.uid).2
    have hreplies : Replies (.holdReleaseAbort tag id [0#8, 0#8]) s tag .ok .empty
        (abortItem i.uid .holdAbort (clearHolds i.uid s.clearOut)) :=
      replies_of_answer habort hact (congrArg answer (holdRelease_held (holdReleaseBody_abort id) hi hown))
    have hdone : AbortedBy i.uid (clearHolds i.uid s.clearOut)
        (abortItem i.uid .holdAbort (clearHolds i.uid s.clearOut)) :=
      abortedBy_abortItem (s := clearHolds i.uid s.clearOut) hfind hfate hstate .holdAbort
    exact ⟨hreplies, exists_abortedBy_of_replies hreplies hdone.of_clearHolds⟩
  · have hown := hheld.imp_right (ownsHeldCut_iff s i.uid).2
    exact replies_of_answer hcontinue hact (congrArg answer (holdRelease_held (holdReleaseBody_continue id) hi hown))

end Sys2Proof.Machine

/-! ## The effects of an accepted BAND (R47, R48, R49, R62, R63) -/

namespace Sys2Proof.Machine

/-! ### The plan rows, and one item in its place -/

/-- R47, R49: of the item manager only the plan row, the cut reference row and the item `u`, now `k`, have changed. -/
def PlannedTo (u : Nat) (k : Item) (row ref : Row) (s t : State) : Prop :=
  t.items = { s.items with
    planRow := row, cutRef := ref, live := s.items.live.map fun q => if q.uid = u then k else q }

section Planned

variable {u : Nat} {j k l : Item} {row ref row' ref' : Row} {s t w : State}

theorem PlannedTo.find (h : PlannedTo u k row ref s t) (hk : k.uid = u) (hj : findItem s u = some j) :
    findItem t u = some k := by
  obtain ⟨-, huid⟩ := mem_of_findItem hj
  have hkey : ((fun i : Item => i.uid == u) ∘ fun i => if i.uid = u then k else i) = fun i => i.uid == u := by
    funext i
    by_cases hi : i.uid = u <;> simp [hi, hk]
  rw [findItem] at hj
  rw [findItem, h, List.find?_map, hkey, hj, Option.map_some, if_pos huid]

theorem PlannedTo.nodup (h : PlannedTo u k row ref s t) (hk : k.uid = u) (hnodup : (s.items.live.map Item.uid).Nodup) :
    (t.items.live.map Item.uid).Nodup := by
  have hlive : t.items.live.map Item.uid = s.items.live.map Item.uid := by
    rw [h, List.map_map]
    refine List.map_congr_left fun q _ => ?_
    by_cases hq : q.uid = u <;> simp [hq, hk]
  rwa [hlive]

theorem PlannedTo.trans (h : PlannedTo u k row ref s t) (hk : k.uid = u) (h' : PlannedTo u l row' ref' t w) :
    PlannedTo u l row' ref' s w := by
  rw [PlannedTo, h', h]
  simp only [ItemManager.mk.injEq, List.map_map, true_and, and_true]
  refine List.map_congr_left fun q _ => ?_
  by_cases hq : q.uid = u <;> simp [hq, hk]

/-- A change of the item alone, its key being its own. -/
theorem plannedTo_of_map {f : Item → Item} (hj : findItem s u = some j) (hnodup : (s.items.live.map Item.uid).Nodup)
    (h : t.items = { s.items with
      planRow := row, cutRef := ref, live := s.items.live.map fun q => if q.uid = u then f q else q }) :
    PlannedTo u (f j) row ref s t := by
  obtain ⟨hmem, huid⟩ := mem_of_findItem hj
  refine h.trans (congrArg (fun live => { s.items with planRow := row, cutRef := ref, live := live }) ?_)
  refine List.map_congr_left fun q hq => ?_
  by_cases heq : q.uid = u
  · obtain rfl : q = j := List.inj_on_of_nodup_map hnodup hq hmem (heq.trans huid.symm)
    rfl
  · simp [heq]

theorem plannedTo_refl (hj : findItem s u = some j) (hnodup : (s.items.live.map Item.uid).Nodup) :
    PlannedTo u j s.items.planRow s.items.cutRef s s :=
  plannedTo_of_map (f := id) hj hnodup (by simp)

end Planned

/-! ### The lead cut (R48) -/

/-- R48: the item with its first row and its lead waste. -/
def Item.led (first ref : Row) (i : Item) : Item :=
  if i.firstRow = none then { i with firstRow := some first, leadRows := (first - ref).toNat } else i

theorem led_kept (first ref : Row) (i : Item) : (i.led first ref).uid = i.uid ∧ (i.led first ref).panels = i.panels ∧
    (i.led first ref).openRows = i.openRows ∧ (i.led first ref).gutterRows = i.gutterRows := by
  unfold Item.led
  split <;> simp

theorem led_eq (first ref : Row) (i : Item) : i.led first ref = { i with
    firstRow := some (i.firstRow.getD first),
    leadRows := if i.firstRow = none then (first - ref).toNat else i.leadRows } := by
  unfold Item.led
  obtain h | ⟨row, h⟩ := Option.eq_none_or_eq_some i.firstRow
  · simp [h]
  · simp only [h, reduceCtorEq, if_false, Option.getD_some]
    rw [← h]

/-- R48: what comes first at an accepted band. -/
def bandLed (i : Item) (s : State) : State := if i.firstRow.isNone then planLead i s else s

/-- R48: the LEAD stop of the item `i`. -/
def leadStop (i : Item) (mp : MediaProfile) (s : State) : Stop :=
  { uid := s.media.nextStop, position := s.items.planRow + mp.cutter, item := i.uid, itemId := i.id, panel := none,
    kind := .cut { role := .lead, cutRow := s.items.planRow, notBefore := some s.now, hold := false,
                   lastBand := none } }

section Lead

variable {i j : Item} {mp : MediaProfile} {s : State}

theorem rowCount_of_nonneg {z : Int} (h : 0 ≤ z) : rowCount z = z.toNat := if_pos h

theorem planLead_items (hj : findItem s i.uid = some j) (hnodup : (s.items.live.map Item.uid).Nodup)
    (href : s.items.cutRef ≤ s.items.planRow) :
    PlannedTo i.uid { j with firstRow := some s.items.planRow,
                             leadRows := (s.items.planRow - s.items.cutRef).toNat }
      s.items.planRow s.items.planRow s (planLead i s) := by
  refine plannedTo_of_map (f := fun k => { k with
    firstRow := some s.items.planRow,
    leadRows := (s.items.planRow - s.items.cutRef).toNat }) hj hnodup ?_
  have hblank : rowCount (blankRun s) = (s.items.planRow - s.items.cutRef).toNat :=
    rowCount_of_nonneg (Int.sub_nonneg.2 href)
  unfold planLead
  simp only [hblank]
  (repeat' split) <;> simp [mapItem]

/-- R48: with no blank run, or the cutter disabled, no LEAD stop is placed. -/
theorem planLead_media (hmp : s.tables.mediaProfile = some mp) (hroom : s.media.stops.length < 32) :
    (planLead i s).media = (if s.items.planRow ≠ s.items.cutRef ∧ mp.cutterEnabled = true then
      stopJoined (leadStop i mp s) s else s).media := by
  have hrun : blankRun s ≠ 0 ↔ s.items.planRow ≠ s.items.cutRef := sub_ne_zero
  simp only [planLead, mapItem_frame, hmp, hrun]
  split
  · rw [insertCut_room none _ _ (by simpa using hroom)]
    simp [stopJoined, leadStop]
  · simp

theorem bandLed_of_started (h : i.firstRow ≠ none) : bandLed i s = s := by
  rw [bandLed, if_neg (by simpa using h)]

theorem bandLed_of_first (h : i.firstRow = none) : bandLed i s = planLead i s := by
  rw [bandLed, if_pos (by simp [h])]

theorem bandLed_items (hj : findItem s i.uid = some j) (hfirst : j.firstRow = i.firstRow)
    (hnodup : (s.items.live.map Item.uid).Nodup) (href : s.items.cutRef ≤ s.items.planRow) :
    PlannedTo i.uid (j.led s.items.planRow s.items.cutRef) s.items.planRow
      (if i.firstRow = none then s.items.planRow else s.items.cutRef) s (bandLed i s) := by
  by_cases h : i.firstRow = none
  · rw [bandLed_of_first h, Item.led, if_pos (hfirst.trans h), if_pos h]
    exact planLead_items hj hnodup href
  · rw [bandLed_of_started h, Item.led, if_neg (hfirst ▸ h), if_neg h]
    exact plannedTo_refl hj hnodup

@[simp] theorem bandLed_frame (i : Item) (s : State) :
    (bandLed i s).now = s.now ∧ (bandLed i s).tables = s.tables ∧ (bandLed i s).path = s.path ∧
    (bandLed i s).link = s.link := by
  unfold bandLed
  split <;> simp

/-- R48: the lead cut takes one place of the list at most. -/
theorem bandLed_stops (hmp : s.tables.mediaProfile = some mp) (hroom : s.media.stops.length < 32) :
    (bandLed i s).media.stops.length ≤ s.media.stops.length + 1 := by
  unfold bandLed
  split
  · rw [planLead_media hmp hroom]
    split
    · simp
    · exact Nat.le_succ _
  · exact Nat.le_succ _

theorem leadStop_mem (hfirst : i.firstRow = none) (hmp : s.tables.mediaProfile = some mp)
    (hroom : s.media.stops.length < 32) (hrun : s.items.cutRef < s.items.planRow) (hcutter : mp.cutterEnabled = true) :
    leadStop i mp s ∈ (bandLed i s).media.stops := by
  rw [bandLed_of_first hfirst, planLead_media hmp hroom, if_pos ⟨(Int.ne_of_lt hrun).symm, hcutter⟩]
  exact mem_insertInOrder.2 (.inl rfl)

end Lead

/-! ### The close of a full panel (R47, R49) -/

/-- R47: the open panel of the item is full. -/
def PanelFull (i : Item) (mp : MediaProfile) : Prop := i.openRows ≠ 0 ∧ i.openRows = mp.maxPanel

/-- R47, R48: what an accepted band's item is made ready by: its lead cut and the close of a full panel. -/
def bandReadied (i : Item) (s : State) : State :=
  if closesPanel s i then closePanel i.uid false none (bandLed i s) else bandLed i s

/-- R49: the record of the full panel `q`, closed by a further band. -/
def Panel.filled (q : Panel) (i : Item) (mp : MediaProfile) (row : Row) : Panel :=
  q.closed i false (if mp.cutterEnabled then some (row + mp.cutter) else none)
    (if mp.cutterEnabled = true ∧ 0 < mp.gutter then some (row + mp.gutter + mp.cutter) else none)

theorem mem_cutsJoined {i : Item} {mp : MediaProfile} {n : Nat} {time : Option Time × Option Nat} {row : Row}
    {a b : Option Row} {m : Media} {v : Stop} (h : v ∈ m.stops) : v ∈ (cutsJoined i mp n time row a b m).stops := by
  cases a <;> cases b <;> simp [cutsJoined, mem_insertInOrder, h]

section Readied

variable {i j k : Item} {mp : MediaProfile} {s : State}

theorem closesPanel_iff (hmp : s.tables.mediaProfile = some mp) : closesPanel s i = true ↔ PanelFull i mp := by
  simp [closesPanel, hmp, PanelFull]

theorem bandReadied_of_full (hmp : s.tables.mediaProfile = some mp) (h : PanelFull i mp) :
    bandReadied i s = closePanel i.uid false none (bandLed i s) := if_pos ((closesPanel_iff hmp).2 h)

theorem bandReadied_of_open (hmp : s.tables.mediaProfile = some mp) (h : ¬PanelFull i mp) :
    bandReadied i s = bandLed i s := if_neg fun hcloses => h ((closesPanel_iff hmp).1 hcloses)

/-- R47, R49: a full panel has closed at the plan row, both its cuts in the list. -/
theorem closeFull_spec {before : List Panel} {q : Panel} (hk : findItem s i.uid = some k)
    (hpanels : k.panels = before ++ [q]) (hrows : k.openRows = i.openRows) (hmp : s.tables.mediaProfile = some mp)
    (hnodup : (s.items.live.map Item.uid).Nodup) (hroom : s.media.stops.length < 31) :
    PlannedTo i.uid { k with gutterRows := k.gutterRows + mp.gutter, openRows := 0,
                             panels := before ++ [q.filled i mp s.items.planRow] }
      (s.items.planRow + mp.gutter) (s.items.planRow + mp.gutter) s (closePanel i.uid false none s) ∧
    (∃ waiting, (closePanel i.uid false none s).path = { s.path with
      waiting := waiting, nextArise := s.path.nextArise + if 0 < mp.gutter then 1 else 0 }) ∧
    ∀ v ∈ s.media.stops, v ∈ (closePanel i.uid false none s).media.stops := by
  obtain ⟨hitems, hpath, hmedia, -⟩ := closePanel_spec (last := false) (aborted := none) hk hpanels hmp hnodup rfl rfl
  have ha : s.media.stops.length < 32 := Nat.lt_succ_of_lt hroom
  simp only [ha, hroom, and_true, Panel.closed, hrows] at hitems
  refine ⟨plannedTo_of_map (f := fun p => { p with
      gutterRows := p.gutterRows + mp.gutter, openRows := 0,
      panels := before ++ [q.filled i mp s.items.planRow] }) hk hnodup hitems, ?_, fun v hv => ?_⟩
  · rw [hpath]
    by_cases h : 0 < mp.gutter
    · exact ⟨_, by rw [if_pos ⟨h, rfl⟩, if_pos h]⟩
    · exact ⟨s.path.waiting, by simp [h]⟩
  · rw [hmedia]
    exact mem_cutsJoined hv

/-- R47, R48, R49: the full panel of the item closes behind its lead cut. -/
theorem closeLed_spec {before : List Panel} {q : Panel} (hj : findItem s i.uid = some j)
    (hkey : j = { i with reservation := j.reservation, allowance := j.allowance })
    (hnodup : (s.items.live.map Item.uid).Nodup) (hmp : s.tables.mediaProfile = some mp)
    (hroom : s.media.stops.length ≤ 29) (href : s.items.cutRef ≤ s.items.planRow) (hq : i.panels = before ++ [q]) :
    PlannedTo i.uid { j.led s.items.planRow s.items.cutRef with
        gutterRows := i.gutterRows + mp.gutter, openRows := 0,
        panels := before ++ [q.filled i mp s.items.planRow] }
      (s.items.planRow + mp.gutter) (s.items.planRow + mp.gutter) s (closePanel i.uid false none (bandLed i s)) ∧
    (∃ waiting, (closePanel i.uid false none (bandLed i s)).path = { s.path with
      waiting := waiting, nextArise := s.path.nextArise + if 0 < mp.gutter then 1 else 0 }) ∧
    ∀ v ∈ (bandLed i s).media.stops, v ∈ (closePanel i.uid false none (bandLed i s)).media.stops := by
  obtain ⟨r, a, rfl⟩ : ∃ r a, j = { i with reservation := r, allowance := a } := ⟨_, _, hkey⟩
  have hled := bandLed_items hj rfl hnodup href
  obtain ⟨huid, hpanels, hrows, hgutter⟩ :=
    led_kept s.items.planRow s.items.cutRef { i with reservation := r, allowance := a }
  obtain ⟨-, htables, hpath, -⟩ := bandLed_frame i s
  have hrow : (bandLed i s).items.planRow = s.items.planRow := by rw [hled]
  have hstops := bandLed_stops (i := i) hmp (Nat.lt_of_le_of_lt hroom (by decide))
  obtain ⟨hclosed, hpath', hmem⟩ := closeFull_spec (hled.find huid hj) (hpanels.trans hq) hrows (htables ▸ hmp)
    (hled.nodup huid hnodup) (by omega)
  rw [hrow, hgutter] at hclosed
  rw [hpath] at hpath'
  exact ⟨hled.trans huid hclosed, hpath', hmem⟩

/-- R47, R48, R49: the item, the plan rows and the operations of a band's item made ready. -/
theorem bandReadied_spec {g : Nat} (hj : findItem s i.uid = some j)
    (hkey : j = { i with reservation := j.reservation, allowance := j.allowance })
    (hnodup : (s.items.live.map Item.uid).Nodup) (hmp : s.tables.mediaProfile = some mp)
    (hroom : s.media.stops.length ≤ 29) (href : s.items.cutRef ≤ s.items.planRow)
    (hpanels : 0 < i.openRows → i.panels ≠ [])
    (hg : g = if i.openRows ≠ 0 ∧ i.openRows = mp.maxPanel then mp.gutter else 0) :
    ∃ k, PlannedTo i.uid k (s.items.planRow + g)
        (if i.openRows ≠ 0 ∧ i.openRows = mp.maxPanel then s.items.planRow + g
          else if i.firstRow = none then s.items.planRow else s.items.cutRef) s (bandReadied i s) ∧
      k = { j with
        openRows := if i.openRows = mp.maxPanel then 0 else i.openRows,
        gutterRows := i.gutterRows + g, firstRow := some (i.firstRow.getD s.items.planRow),
        leadRows := if i.firstRow = none then (s.items.planRow - s.items.cutRef).toNat else i.leadRows,
        panels := k.panels } ∧
      (¬PanelFull i mp → k.panels = i.panels) ∧
      (PanelFull i mp → ∀ before q, i.panels = before ++ [q] →
        k.panels = before ++ [q.filled i mp s.items.planRow]) ∧
      ∃ waiting, (bandReadied i s).path = { s.path with
        waiting := waiting, nextArise := s.path.nextArise + if 0 < g then 1 else 0 } := by
  by_cases hfull : i.openRows ≠ 0 ∧ i.openRows = mp.maxPanel
  · obtain ⟨hopen, hmax⟩ := id hfull
    obtain ⟨before, q, hq⟩ : ∃ before q, i.panels = before ++ [q] :=
      ⟨_, _, (List.dropLast_append_getLast (hpanels (Nat.pos_of_ne_zero hopen))).symm⟩
    obtain ⟨hclosed, hpath, -⟩ := closeLed_spec hj hkey hnodup hmp hroom href hq
    rw [if_pos hfull] at hg
    subst hg
    rw [bandReadied_of_full hmp hfull, if_pos hfull, if_pos hmax]
    refine ⟨_, hclosed, ?_, fun h => absurd hfull h, fun _ before' q' hq' => ?_, hpath⟩
    · rw [led_eq, hkey]
    · obtain ⟨rfl, hqq⟩ := List.append_inj' (hq'.symm.trans hq) rfl
      obtain rfl := List.singleton_inj.1 hqq
      rfl
  · have hled := bandLed_items hj (by rw [hkey]) hnodup href
    obtain ⟨-, -, hpath, -⟩ := bandLed_frame i s
    have hrows : (if i.openRows = mp.maxPanel then 0 else i.openRows) = i.openRows :=
      ite_eq_right_iff.2 fun hmax => (by_contra fun hne => hfull ⟨Ne.symm hne, hmax⟩)
    rw [if_neg hfull] at hg
    subst hg
    rw [bandReadied_of_open hmp hfull, if_neg hfull, hrows]
    refine ⟨_, by simpa using hled, ?_, fun _ => ?_, fun h => absurd h hfull, s.path.waiting, by simp⟩
    · rw [led_eq, hkey]
      rfl
    · rw [led_eq, hkey]

/-- R48: the LEAD stop stays in the list when the item's panel closes. -/
theorem leadStop_mem_bandReadied (hj : findItem s i.uid = some j)
    (hkey : j = { i with reservation := j.reservation, allowance := j.allowance })
    (hnodup : (s.items.live.map Item.uid).Nodup) (hpanels : 0 < i.openRows → i.panels ≠ [])
    (hfirst : i.firstRow = none) (hmp : s.tables.mediaProfile = some mp) (hroom : s.media.stops.length ≤ 29)
    (hrun : s.items.cutRef < s.items.planRow) (hcutter : mp.cutterEnabled = true) :
    leadStop i mp s ∈ (bandReadied i s).media.stops := by
  have hlead := leadStop_mem hfirst hmp (by omega) hrun hcutter
  by_cases hfull : PanelFull i mp
  · obtain ⟨hopen, -⟩ := id hfull
    obtain ⟨-, -, hmem⟩ := closeLed_spec hj hkey hnodup hmp hroom (Int.le_of_lt hrun)
      (List.dropLast_append_getLast (hpanels (Nat.pos_of_ne_zero hopen))).symm
    rw [bandReadied_of_full hmp hfull]
    exact hmem _ hlead
  · rwa [bandReadied_of_open hmp hfull]

end Readied

/-! ### The band record, and its panel (R47, R63) -/

section Counted

variable {i : Item} {start : Row} {serial rows : Nat}

/-- R47: where no panel is open, the band begins one. -/
theorem countBand_panels_new (h : i.openRows = 0) : (i.countBand start serial rows).panels =
    i.panels ++ [newPanel (i.panels.length + 1) start serial] := by
  simp [Item.countBand, h]

/-- R47: the band is the last of the open panel. -/
theorem countBand_panels_open {before : List Panel} {q : Panel} (h : i.openRows ≠ 0)
    (hpanels : i.panels = before ++ [q]) : (i.countBand start serial rows).panels =
    before ++ [{ q with lastBand := serial }] := by
  simp [Item.countBand, h, hpanels]

/-- R47: of the item itself, a band counts only into the received and the open rows, and the panels. -/
def Item.counted (rows : Nat) (panels : List Panel) (i : Item) : Item :=
  { i with rowsReceived := i.rowsReceived + rows, openRows := i.openRows + rows, panels := panels }

theorem countBand_eq : i.countBand start serial rows = i.counted rows (i.countBand start serial rows).panels := rfl

end Counted

/-- R63: a store with a free slot gives one that no band has. -/
theorem freeSlot_free {s : State} (h : s.path.store.length < 4) : ∀ a ∈ s.path.store, a.slot ≠ freeSlot s := by
  cases hfound : (List.finRange 4).find? fun n => s.path.store.all fun b => b.slot != n with
  | some n =>
    have hfree := List.find?_some hfound
    rw [freeSlot, hfound, Option.getD_some]
    simpa using hfree
  | none =>
    have hused : List.finRange 4 ⊆ s.path.store.map Band.slot := fun n _ => by
      have hn := List.find?_eq_none.1 hfound n (List.mem_finRange n)
      simpa using hn
    have hlength := (List.subperm_of_subset (List.nodup_finRange 4) hused).length_le
    rw [List.length_finRange, List.length_map] at hlength
    omega

/-- R47, R63: what follows once the band's item is ready: the band is counted, stored and filled. -/
def bandPlaced (e : IntakeEntry) (b : BandBody) (m : Vector MapEntry 12) (i : Item) (s : State) : State :=
  let serial := s.path.nextArise
  let s := mapItem i.uid (Item.countBand s.items.planRow serial b.rows) s
  let band := newBand s b m i (panelIndex s i.uid)
  let s := movePlan b.rows (s.onPath fun p => { p with store := p.store ++ [band], nextArise := p.nextArise + 1 })
  s.onLink fun l => { l with rx := .filling serial (bandWire e.tag e.length e.body) e.length e.tag }

theorem acceptBand_eq (e : IntakeEntry) (b : BandBody) (m : Vector MapEntry 12) (i : Item) (s : State) :
    acceptBand e b m i s = bandPlaced e b m i (bandReadied i s) := rfl

theorem bandPlaced_items {e : IntakeEntry} {b : BandBody} {m : Vector MapEntry 12} {i k : Item} {s : State}
    (hk : findItem s i.uid = some k) (hnodup : (s.items.live.map Item.uid).Nodup) :
    PlannedTo i.uid (k.countBand s.items.planRow s.path.nextArise b.rows) (s.items.planRow + b.rows)
      s.items.cutRef s (bandPlaced e b m i s) := plannedTo_of_map hk hnodup rfl

theorem bandPlaced_path {e : IntakeEntry} {b : BandBody} {m : Vector MapEntry 12} {i k : Item} {s : State}
    (hk : findItem s i.uid = some k) : (bandPlaced e b m i s).path = { s.path with
      store := s.path.store ++
        [newBand s b m i (k.countBand s.items.planRow s.path.nextArise b.rows).panels.length],
      nextArise := s.path.nextArise + 1 } := by
  have hindex : panelIndex (mapItem i.uid (Item.countBand s.items.planRow s.path.nextArise b.rows) s) i.uid =
      (k.countBand s.items.planRow s.path.nextArise b.rows).panels.length := by
    have hcounted := findItem_mapItem_self (f := Item.countBand s.items.planRow s.path.nextArise b.rows)
      (fun _ => rfl) hk
    simp only [panelIndex, hcounted]
  unfold bandPlaced
  simp only [hindex]
  rfl

/-- R10: an accepted band queues no reply. -/
theorem replies_acceptBand (e : IntakeEntry) (b : BandBody) (m : Vector MapEntry 12) (i : Item) (s : State) :
    replies (acceptBand e b m i s) = replies s := by
  simp [replies]

/-- R63: the fields of the record of an accepted band. -/
theorem newBand_channels (s : State) (b : BandBody) (m : Vector MapEntry 12) (i : Item) (panel : Nat) :
    (newBand s b m i panel).channels.map (fun c => (c.chan, c.headRow)) =
      (channelsOf b.mask).map (fun c => (c, m[c].headRow)) ∧
    ∀ c ∈ (newBand s b m i panel).channels, c.demand = 0 ∧ c.reserve = 0 := by
  refine ⟨by simp [newBand, newChannel], fun c hc => ?_⟩
  obtain ⟨chan, -, rfl⟩ := List.mem_map.1 hc
  exact ⟨rfl, rfl⟩

/-- Settles O36: the item is made ready by its lead cut and the close of a full panel, and the band is then counted
and stored. -/
theorem bandAccepted : Obligations.BandAccepted := by
  intro e b m i j mp s g closes hj hkey hnodup hmp hstore hroom href hpanels hcloses hg
  obtain ⟨k, hready, hk, hkopen, hkfull, waiting, hpath⟩ :=
    bandReadied_spec hj hkey hnodup hmp hroom href hpanels hg
  have hkuid : k.uid = i.uid := by rw [hk, hkey]
  have hkrows : k.openRows = if i.openRows = mp.maxPanel then 0 else i.openRows := by rw [hk]
  have hfind := hready.find hkuid hj
  have hcount := bandPlaced_items (e := e) (b := b) (m := m) hfind (hready.nodup hkuid hnodup)
  have hplaced := hready.trans hkuid hcount
  have hplacedPath := bandPlaced_path (e := e) (b := b) (m := m) hfind
  have hrow : (bandReadied i s).items.planRow = s.items.planRow + g := by rw [hready]
  have href' : (bandReadied i s).items.cutRef = if i.openRows ≠ 0 ∧ i.openRows = mp.maxPanel then
      s.items.planRow + g else if i.firstRow = none then s.items.planRow else s.items.cutRef := by rw [hready]
  have hserial : (bandReadied i s).path.nextArise = s.path.nextArise + if 0 < g then 1 else 0 := by rw [hpath]
  have hstored : (bandReadied i s).path.store = s.path.store := by rw [hpath]
  have hstarted (hfirst : i.firstRow ≠ none) : bandLed i s = s := bandLed_of_started hfirst
  have hopened (h : ¬closes) : bandReadied i s = bandLed i s := bandReadied_of_open hmp fun hf => h (hcloses.2 hf)
  have hfilled (h : closes) : bandReadied i s = closePanel i.uid false none (bandLed i s) :=
    bandReadied_of_full hmp (hcloses.1 h)
  obtain ⟨-, -, hledPath, hledLink⟩ := bandLed_frame i s
  obtain ⟨hchannels, hdemand⟩ := newBand_channels (bandReadied i s) b m i
    (k.countBand (bandReadied i s).items.planRow (bandReadied i s).path.nextArise b.rows).panels.length
  refine ⟨acceptBand e b m i s, newBand (bandReadied i s) b m i
      (k.countBand (bandReadied i s).items.planRow (bandReadied i s).path.nextArise b.rows).panels.length,
    k.countBand (bandReadied i s).items.planRow (bandReadied i s).path.nextArise b.rows,
    newPanel (i.panels.length + 1) (s.items.planRow + g) (bandReadied i s).path.nextArise, rfl, ?_, ?_, rfl, rfl,
    hserial, rfl, hrow, rfl, rfl, rfl, rfl, rfl, rfl, ?_, hchannels, hdemand, ?_, ?_, ?_, rfl, rfl, ?_, ?_, ?_, ?_, ?_,
    ?_, rfl, replies_acceptBand e b m i s, by simp, by simp, ?_⟩
  · exact Eq.trans hplaced (by rw [hrow, href'])
  · rw [acceptBand_eq, hplacedPath, hstored]
  · rw [← hstored]
    exact freeSlot_free (hstored ▸ hstore)
  · rw [acceptBand_eq, hplacedPath]
    simp only [newBand, hpath]
  · exact hplaced.find hkuid hj
  · refine countBand_eq.trans ((congrArg (Item.counted b.rows _) hk).trans ?_)
    rw [hkey]
    rfl
  · intro hzero
    have hno : ¬PanelFull i mp := fun hfull => hfull.1 hzero
    rw [countBand_panels_new (by rw [hkrows, hzero, ite_self]), hkopen hno, hrow]
  · intro before q hq
    refine ⟨fun h => ?_, fun hopen h => ?_⟩
    · obtain ⟨-, hmax⟩ := hcloses.1 h
      rw [countBand_panels_new (by rw [hkrows, if_pos hmax]), hkfull (hcloses.1 h) before q hq, hrow, hq]
      simp [Panel.filled, Panel.closed]
    · have hmax : i.openRows ≠ mp.maxPanel := fun hmax => h (hcloses.2 ⟨hopen, hmax⟩)
      rw [countBand_panels_open (by rw [hkrows, if_neg hmax]; exact hopen)
        ((hkopen fun hfull => h (hcloses.2 hfull)).trans hq)]
      rfl
  · intro hfirst hrun hcutter
    exact ⟨_, leadStop_mem_bandReadied hj hkey hnodup hpanels hfirst hmp hroom hrun hcutter, rfl, rfl, rfl, rfl⟩
  · intro hfirst h
    rw [acceptBand_eq, show (bandPlaced e b m i (bandReadied i s)).media = (bandReadied i s).media from rfl, hopened h,
      hstarted hfirst]
  · intro h
    rw [acceptBand_eq, hplacedPath]
    exact ⟨by rw [hopened h, hledPath], by rw [← hledLink, ← hopened h]; rfl⟩
  · intro hfirst h
    refine ⟨_, rfl, ?_⟩
    have hclosed : closePanel i.uid false none s = bandReadied i s := by rw [hfilled h, hstarted hfirst]
    rw [acceptBand_eq, hplacedPath, hclosed]
    exact ⟨rfl, rfl, rfl⟩
  · intro blk hblk
    cases blk with
    | link | items | path | media => exact absurd (by simp) hblk
    | tables | ink | cutter | colour | costing => simp [SameBlock]

end Sys2Proof.Machine

/-! ## Strips recorded as unread (R152, R157, R162, R163) -/

namespace Sys2Proof.Machine

/-! ### INCOMPLETE merged into a panel (R157) -/

/-- R157: the worse of a verdict and INCOMPLETE. -/
theorem worse_incomplete (v : Verdict) :
    v.worse .incomplete = if Verdict.incomplete.rank ≤ v.rank then v else .incomplete := by
  cases v <;> rfl

/-- R53, R158: INCOMPLETE makes no new FAIL, so it holds nothing. -/
theorem panelJudged_incomplete (u n : Nat) (old : Verdict) (s : State) :
    panelJudged u n old (old.worse .incomplete) s = mapItem u (setVerdict n (old.worse .incomplete)) s :=
  if_neg (by cases old <;> decide)

section Merge

variable {u n : Nat} {old : Verdict} {i : Item} {s : State}

theorem mergeIncomplete_plain (hi : findItem s u = some i) (hold : panelVerdict s u n = some old)
    (hedition : i.edition = none) :
    mergeVerdict u n .incomplete s = mapItem u (setVerdict n (old.worse .incomplete)) s := by
  rw [← panelJudged_incomplete]
  simp only [mergeVerdict, hi, hold, hedition]
  rfl

theorem mergeIncomplete_edition {m : Nat} (hi : findItem s u = some i) (hold : panelVerdict s u n = some old)
    (hedition : i.edition = some m) :
    mergeVerdict u n .incomplete s = mapEdition m (fun e => { e with last := old.worse .incomplete })
      (mapItem u (setVerdict n (old.worse .incomplete)) s) := by
  rw [← panelJudged_incomplete]
  simp only [mergeVerdict, hi, hold, hedition]
  rfl

/-- R157, R162: INCOMPLETE merged into a panel changes items and editions alone. -/
theorem mergeIncomplete_frame (u n : Nat) (s : State) :
    (mergeVerdict u n .incomplete s).link = s.link ∧ (mergeVerdict u n .incomplete s).media = s.media ∧
    (mergeVerdict u n .incomplete s).cutter = s.cutter := by
  obtain ⟨-, heq⟩ | ⟨i, old, -, -, ⟨-, heq⟩ | ⟨m, -, heq⟩⟩ := mergeVerdict_cases u n .incomplete s <;>
    simp [heq, panelJudged_incomplete]

end Merge

/-! ### The edition of the panel (R159, R162) -/

section Edition

variable {s : State} {before after : List Edition} {e : Edition}

/-- R162: the change of one edition's entry. -/
theorem mapEdition_of_split {f : Edition → Edition} (hs : s.colour.editions = before ++ e :: after)
    (hnumbers : (s.colour.editions.map Edition.number).Nodup) :
    (mapEdition e.number f s).colour = { s.colour with editions := before ++ f e :: after } := by
  obtain ⟨hbefore, hafter⟩ := number_ne_of_nodup (hs ▸ hnumbers)
  have hother {l : List Edition} (hl : ∀ a ∈ l, a.number ≠ e.number) :
      (l.map fun a => if a.number = e.number then f a else a) = l := by
    conv_rhs => rw [← List.map_id l]
    exact List.map_congr_left fun a ha => if_neg (hl a ha)
  simp [mapEdition, hs, hother hbefore, hother hafter]

/-- R159, R162: the entry whose last verdict is set moves to the front. -/
theorem touchEdition_mapEdition {v : Verdict} (hs : s.colour.editions = before ++ e :: after)
    (hnumbers : (s.colour.editions.map Edition.number).Nodup) :
    (touchEdition (some e.number) (mapEdition e.number (fun a => { a with last := v }) s)).colour =
      { s.colour with editions := { e with last := v } :: (before ++ after) } := by
  have hmap := mapEdition_of_split (f := fun a => { a with last := v }) hs hnumbers
  have hfront := frontEdition_of_split (before := before) (after := after) (e := { e with last := v })
    (by rw [hs] at hnumbers; simpa using hnumbers)
  simp only [touchEdition, State.onColour_colour, hmap]
  rw [hfront]

theorem findEdition_front {t : State} {l : List Edition} (h : t.colour.editions = e :: l) :
    findEdition t e.number = some e := by
  simp [findEdition, h]

end Edition

/-! ### One strip (R152, R163) -/

/-- R152: the state in which a strip of the item `i` is reported as unread. -/
def unreadMerged (t : Stop) (edition : Option Nat) (s : State) : State :=
  touchEdition edition (mergeVerdict t.item (t.panel.getD 0) .incomplete s)

theorem unreadMerged_frame (t : Stop) (edition : Option Nat) (s : State) :
    (unreadMerged t edition s).now = s.now ∧ (unreadMerged t edition s).pending = s.pending ∧
    (unreadMerged t edition s).out = s.out ∧ (unreadMerged t edition s).tables = s.tables ∧
    (unreadMerged t edition s).path = s.path ∧ (unreadMerged t edition s).ink = s.ink ∧
    (unreadMerged t edition s).costing = s.costing ∧ (unreadMerged t edition s).link = s.link ∧
    (unreadMerged t edition s).media = s.media ∧ (unreadMerged t edition s).cutter = s.cutter ∧
    (unreadMerged t edition s).colour.cal = s.colour.cal := by
  obtain ⟨hlink, hmedia, hcutter⟩ := mergeIncomplete_frame t.item (t.panel.getD 0) s
  simp [unreadMerged, hlink, hmedia, hcutter]

/-- R163: the body of the notice UNREAD of a strip of the item `i`. -/
def unreadBody (t : Stop) (m : MeasureStop) (i : Item) (s w : State) : CheckBody :=
  { id := t.itemId, job := i.job, print := some i.print, edition := i.edition, panel := t.panel.getD 0,
    strip := m.strip, layout := m.layout, position := t.position, cause := none, valid := s.colour.cal.valid,
    stripVerdict := .incomplete, panelVerdict := panelVerdict w t.item (t.panel.getD 0), filled := 0,
    printsClosed := (i.edition.bind (findEdition w)).map Edition.printsClosed,
    lastVerdict := (i.edition.bind (findEdition w)).map Edition.last, patches := [] }

section Strip

variable {t : Stop} {m : MeasureStop} {i : Item} {s : State}

theorem recordUnread_owned (hi : findItem s t.item = some i) :
    recordUnread t m s = raise (.checkUnread (unreadBody t m i s (unreadMerged t i.edition s)))
      (unreadMerged t i.edition s) := by
  obtain ⟨-, -, -, -, -, -, -, -, -, -, hcal⟩ := unreadMerged_frame t i.edition s
  rw [unreadBody, ← hcal]
  simp only [recordUnread, hi]
  rfl

/-- R152: only the return queue, the items and the editions change. -/
theorem recordUnread_onlyChanges (t : Stop) (m : MeasureStop) (s : State) :
    OnlyChanges [.link, .items, .colour] s (recordUnread t m s) := by
  obtain ⟨-, hmedia, hcutter⟩ := mergeIncomplete_frame t.item (t.panel.getD 0) s
  refine ⟨by simp, by simp, fun b hb => ?_⟩
  cases b with
  | link | items | colour => exact absurd (by simp) hb
  | media => simp [SameBlock, recordUnread, hmedia]
  | cutter => simp [SameBlock, recordUnread, hcutter]
  | tables | path | ink | costing => simp [SameBlock]

/-- R157: the panel of the strip has the worse of its verdict and INCOMPLETE. -/
theorem unreadMerged_items {n : Nat} {old : Verdict} (hi : findItem s t.item = some i) (hn : t.panel = some n)
    (hold : panelVerdict s t.item n = some old) :
    (unreadMerged t i.edition s).items = (mapItem t.item (setVerdict n (old.worse .incomplete)) s).items := by
  cases hedition : i.edition with
  | none => simp [unreadMerged, hn, mergeIncomplete_plain hi hold hedition]
  | some e => simp [unreadMerged, hn, mergeIncomplete_edition hi hold hedition]

theorem stripUnread_recordUnread (t : Stop) (m : MeasureStop) (s : State) :
    StripUnread t m s (recordUnread t m s) := by
  refine ⟨recordUnread_onlyChanges t m s, by simp, fun i n p hi hn hp => ?_⟩
  have hold : panelVerdict s t.item n = some p.verdict := by simp [panelVerdict, hi, hp]
  have hitems := unreadMerged_items hi hn hold
  have hverdict : panelVerdict (unreadMerged t i.edition s) t.item n = some (p.verdict.worse .incomplete) :=
    (panelVerdict_congr (congrArg _ (findItem_congr (congrArg ItemManager.live hitems) t.item)) n).trans
      (panelVerdict_mapItem_setVerdict hold _)
  obtain ⟨hnow, -, -, htables, -, -, -, hlink, -⟩ := unreadMerged_frame t i.edition s
  rw [recordUnread_owned hi]
  refine ⟨p.verdict.worse .incomplete, unreadBody t m i s (unreadMerged t i.edition s), worse_incomplete _, ?_, ?_, ?_,
    ?_, raise_link_congr _ hlink htables hnow⟩
  · simp only [raise_frame, hitems]
    rfl
  · intro hedition
    refine ⟨?_, by simp [unreadBody, hedition], by simp [unreadBody, hedition]⟩
    simp [hedition, unreadMerged, hn, mergeIncomplete_plain hi hold hedition, touchEdition]
  · intro before e after hedition hs hnumbers
    have hcolour : (unreadMerged t i.edition s).colour =
        { s.colour with editions := { e with last := p.verdict.worse .incomplete } :: (before ++ after) } := by
      rw [unreadMerged, hn, Option.getD_some, mergeIncomplete_edition hi hold hedition, hedition]
      exact touchEdition_mapEdition hs hnumbers
    have hentry : findEdition (unreadMerged t i.edition s) e.number =
        some { e with last := p.verdict.worse .incomplete } :=
      findEdition_front (e := { e with last := p.verdict.worse .incomplete })
        (congrArg (fun c => c.editions) hcolour)
    have hfound : i.edition.bind (findEdition (unreadMerged t i.edition s)) =
        some { e with last := p.verdict.worse .incomplete } := by rw [hedition] at hentry ⊢; exact hentry
    refine ⟨by simp only [raise_frame, hcolour], ?_, ?_⟩
    · simp only [unreadBody, hfound, Option.map_some]
    · simp only [unreadBody, hfound, Option.map_some]
  · simp [unreadBody, hn, hverdict]

end Strip

/-! ### The strips of stops that left together (R152) -/

/-- R152: is the strip of the stop being scanned? -/
def BeingScanned (s : State) (t : Stop) : Prop := ∃ c, s.colour.scan = some c ∧ c.ended = none ∧ c.stop = t.uid

section Strips

variable {t : Stop} {m : MeasureStop} {s : State}

theorem unreadIfMeasure_of_cut {c : CutStop} (h : t.kind = .cut c) : unreadIfMeasure t s = s := by
  simp only [unreadIfMeasure, h]

theorem unreadIfMeasure_of_scanned (h : BeingScanned s t) : unreadIfMeasure t s = s := by
  obtain ⟨c, hscan, hended, hstop⟩ := h
  cases hkind : t.kind with
  | cut c => exact unreadIfMeasure_of_cut hkind
  | measure m => simp [unreadIfMeasure, hkind, hscan, hended, hstop]

theorem unreadIfMeasure_of_measure (hkind : t.kind = .measure m) (h : ¬BeingScanned s t) :
    unreadIfMeasure t s = recordUnread t m s := by
  cases hscan : s.colour.scan with
  | none => simp [unreadIfMeasure, hkind, hscan]
  | some c =>
    have hnot : ¬(c.ended = none ∧ c.stop = t.uid) := fun hc => h ⟨c, hscan, hc⟩
    simp [unreadIfMeasure, hkind, hscan, hnot]

/-- R152: stops that have left the list together are recorded in list order. -/
theorem stripsUnread_unreadStops (gone : List Stop) (s : State) : StripsUnread gone s (unreadStops gone s) := by
  induction gone generalizing s with
  | nil => exact rfl
  | cons t gone ih =>
    refine ⟨unreadIfMeasure t s, ih _, fun h => ?_, fun m hkind hfree => ?_⟩
    · obtain ⟨c, hc⟩ | hscanned := h
      · exact unreadIfMeasure_of_cut hc
      · exact unreadIfMeasure_of_scanned hscanned
    · rw [unreadIfMeasure_of_measure hkind fun ⟨c, hscan, hended, hstop⟩ => hfree c hscan hended hstop]
      exact stripUnread_recordUnread t m s

end Strips

end Sys2Proof.Machine

/-! ## ITEM_ABORT, whole (R55, R57, R136) -/

namespace Sys2Proof.Machine

/-! ### The item's stops leave the list (R55, R123, R148) -/

/-- R55: the items as the abort of one has marked it. -/
def abortNamed (u n : Nat) (s : State) : State := mapItem u (fun k => { k with fate := .aborted, abortOrder := n }) s

section Stops

variable {u : Nat} {s : State}

/-- R123: stops that leave let the overrun rows in. -/
theorem dropStops_eq (sel : Stop → Bool) (s : State) (left : List Stop)
    (hleft : left = s.media.stops.filter fun t => !sel t) :
    dropStops sel s = { s with media := { s.media with
      stops := left, overrun := s.media.overrun - rowsLetIn left s,
      roll := { s.media.roll with position := s.media.roll.position + rowsLetIn left s } } } := by
  subst hleft
  have hmedia : (dropStops sel s) =
      { s with media := Media.moveOverrun { s.media with stops := s.media.stops.filter fun t => !sel t } } := rfl
  rw [hmedia]
  cases s.media.stops.filter fun t => !sel t with
  | nil => rfl
  | cons t rest => rfl

/-- R55: what the abort leaves before its strips are recorded. -/
theorem dropStops_abortNamed (u n : Nat) (s : State) :
    dropStops (fun t => t.isMeasure && t.item == u) (abortNamed u n s) = measuresDropped u n (measuresOf u s) s := by
  have hleft : (s.media.stops.filter fun t => !(measuresOf u s).contains t) =
      s.media.stops.filter fun t => !(t.isMeasure && t.item == u) := by
    refine List.filter_congr fun t ht => ?_
    have hiff : (measuresOf u s).contains t = (t.isMeasure && t.item == u) := by
      rw [Bool.eq_iff_iff, List.contains_iff_mem, measuresOf, List.mem_filter]
      exact and_iff_right ht
    rw [hiff]
  exact dropStops_eq _ (abortNamed u n s) _ hleft

/-- R148, R152: what the end of a waiting measure action of one of the stops does. -/
theorem measureReleased_eq (gone : List Stop) (x : State) :
    (x.colour.measure = none → measureReleased gone x = x) ∧
    ∀ q, x.colour.measure = some q →
      measureReleased gone x = if gone.any (fun t => t.uid == q) then
        proceed q (x.onColour fun c => { c with measure := none }) else x := by
  refine ⟨fun h => by simp only [measureReleased, h], fun q h => ?_⟩
  cases hflight : x.path.flight with
  | none => simp only [measureReleased, h, proceed, State.onColour_path, hflight]
  | some f =>
    have hpaused : pausedStop (x.onColour fun c => { c with measure := none }) = pausedStop x := rfl
    simp only [measureReleased, h, proceed, State.onColour_path, State.onColour_now, hflight, hpaused]

theorem dropMeasures_eq (u : Nat) (s : State) : dropMeasures u s =
    measureReleased (measuresOf u s)
      (unreadStops (measuresOf u s) (dropStops (fun t => t.isMeasure && t.item == u) s)) := by
  obtain ⟨hnone, hsome⟩ := measureReleased_eq (measuresOf u s)
    (unreadStops (measuresOf u s) (dropStops (fun t => t.isMeasure && t.item == u) s))
  unfold dropMeasures
  dsimp only
  split
  · next q hq => exact (hsome q hq).symm
  · next hq => exact (hnone hq).symm

end Stops

end Sys2Proof.Machine

/-! ## ITEM_ABORT, part by part (R55, R56, R57, R136) -/

namespace Sys2Proof.Machine

section Parts

variable {u : Nat} {i : Item} {s : State}

/-! ### The stops, the bands and the times -/

/-- R55, R152: the mark of an abort, in its parts. -/
theorem abortMarked_eq (u : Nat) (s : State) : abortMarked u s =
    mapCuts (fun t => t.item == u) (fun c => { c with hold := false })
      (measureReleased (measuresOf u s) (unreadStops (measuresOf u s)
        (measuresDropped u (nextAbort s) (measuresOf u s) s))) := by
  rw [← dropStops_abortNamed]
  exact congrArg (clearHolds u) (dropMeasures_eq u (abortNamed u (nextAbort s) s))

theorem discardBands_fst (bands : List Band) (s : State) :
    (discardBands bands s).1 = bands.foldl (fun z a => discardBand a z) s := by
  induction bands generalizing s with
  | nil => rfl
  | cons b bands ih => exact ih (discardBand b s)

theorem abortDiscards_abortMarked (u : Nat) (s : State) : abortDiscards u (abortMarked u s) = abortDiscards u s := by
  obtain ⟨⟨hstore, -⟩, -⟩ := abortMarked_path u s
  rw [abortDiscards, hstore, abortDiscards]

/-- R55, R67: the item's bands are discarded in the order of the store. -/
theorem abortLost_fst (u : Nat) (s : State) : (abortLost u s).1 =
    (abortDiscards u s).foldl (fun z a => discardBand a z) (abortMarked u s) := by
  rw [abortLost, discardBands_fst, abortDiscards_abortMarked]

/-- R45, R136: the release of the reservation and the times leave the rest. -/
theorem abortTimed_eq (hi : findItem s u = some i) : abortTimed u i s = { (abortLost u s).1 with
    items := { (abortLost u s).1.items with live := (abortLost u s).1.items.live.map fun k =>
      if k.uid = u then { k with reservation := 0 } else k },
    media := { (abortLost u s).1.media with
      stops := (abortTimed u i s).media.stops,
      roll := { (abortLost u s).1.media.roll with reserved := s.media.roll.reserved - i.reservation } } } := by
  obtain ⟨k, hk, hreservation, -⟩ := abortLost_find hi
  have hroll : (abortLost u s).1.media.roll.reserved = s.media.roll.reserved := by
    simp [abortLost, abortMarked_stops u s]
  simp only [abortTimed, releaseReservation, hk]
  rw [← hroll, ← hreservation]
  rfl

/-- R136: the fixed times leave a stop where it is. -/
theorem fixStop_site (s : State) (i : Item) (fallback : Time) (t : Stop) :
    ((fixStop s i fallback t).uid, (fixStop s i fallback t).position, (fixStop s i fallback t).item,
      (fixStop s i fallback t).panel) = (t.uid, t.position, t.item, t.panel) := by
  obtain heq | ⟨c, nb, band, -, -, heq⟩ := fixStop_cases s i fallback t <;> rw [heq]

theorem abortTimed_sites (hi : findItem s u = some i) :
    (abortTimed u i s).media.stops.map (fun t => (t.uid, t.position, t.item, t.panel)) =
      (abortLost u s).1.media.stops.map (fun t => (t.uid, t.position, t.item, t.panel)) := by
  obtain ⟨k, hk, -⟩ := abortLost_find hi
  have hstops : (releaseReservation u (abortLost u s).1).media.stops = (abortLost u s).1.media.stops := by
    simp [releaseReservation, hk]
  rw [abortTimed, fixAbortTimes, State.onMedia_media, ← hstops, List.map_map]
  exact List.map_congr_left fun t _ => fixStop_site _ i _ t

/-! ### The rows of the abort feed, and the open panel -/

/-- R55, R67: the rows of the bands that an abort discards: of distinct serials, or none at all. -/
theorem abortLost_rows_of_bands (h : (s.path.store.map Band.serial).Nodup ∨
    ∀ a ∈ s.path.store, a.item = u → a.state = .inFlight ∨ a.state = .counting) :
    (abortLost u s).2 = abortRows u 0 s := by
  obtain h | h := h
  · exact abortLost_rows h
  · have hnone : abortDiscards u s = [] := List.filter_eq_nil_iff.2 fun a ha hsel => by
      simp only [Bool.and_eq_true, beq_iff_eq, bne_iff_ne] at hsel
      obtain ⟨⟨hitem, hflight⟩, hcounting⟩ := hsel
      exact (h a ha hitem).elim hflight hcounting
    have hrows : abortRows u 0 s = 0 := by
      have hfilter : s.path.store.filter (fun b => b.item == u && b.state != .inFlight && b.state != .counting) = [] :=
        hnone
      rw [abortRows, hfilter]
      rfl
    rw [abortLost, abortDiscards_abortMarked, hnone, hrows]
    rfl

theorem abortRows_add (u g : Nat) (s : State) : abortRows u g s = abortRows u 0 s + g := by
  rw [abortRows, abortRows, Nat.zero_add, Nat.add_comm]

/-- R56: the rows of the discarded bands join the abort feed with those of the gutter. -/
theorem abortGathered_of_closed {t : State} {g : Nat} (hlost : (abortLost u s).2 = abortRows u 0 s)
    (h : abortClosed u i s = (t, g)) :
    abortGathered u i s = joinAbortFeed u (abortRows u g s) t := by
  rw [abortGathered, h, hlost, abortRows_add u g]

section Gathered

variable (hi : findItem s u = some i) (hlost : (abortLost u s).2 = abortRows u 0 s)

include hi hlost

/-- R56: with no open panel, or no profile, there is nothing to close. -/
theorem abortGathered_plain (h : i.openRows = 0 ∨
    (s.tables.mediaProfile = none ∧ s.tables.lock ≠ some .mediaProfile)) :
    abortGathered u i s = joinAbortFeed u (abortRows u 0 s) (abortTimed u i s) := by
  obtain ⟨k, hk, hrows⟩ := abortTimed_find hi
  refine abortGathered_of_closed hlost ?_
  obtain h | ⟨hprofile, hlock⟩ := h
  · simp only [abortClosed, closeAborted, hk, hrows, if_pos h]
  · by_cases hzero : i.openRows = 0
    · simp only [abortClosed, closeAborted, hk, hrows, if_pos hzero]
    · simp [abortClosed, closeAborted, hk, hrows, hzero, locked, hlock, hprofile, closePanel]

/-- R56: while MEDIA_PROFILE is locked, the close waits with its time. -/
theorem abortGathered_locked (hrows : 0 < i.openRows) (hlock : s.tables.lock = some .mediaProfile) :
    abortGathered u i s = joinAbortFeed u (abortRows u 0 s)
      (mapItem u (fun k => { k with pendingClose := some (s.now + dryTime s) }) (abortTimed u i s)) := by
  obtain ⟨k, hk, hkrows⟩ := abortTimed_find hi
  refine abortGathered_of_closed hlost ?_
  simp [abortClosed, closeAborted, hk, hkrows, hrows.ne', locked, hlock]

/-- R56: else the open panel closes, its gutter with the feed. -/
theorem abortGathered_closes {mp : MediaProfile} (hrows : 0 < i.openRows) (hlock : s.tables.lock ≠ some .mediaProfile)
    (hmp : s.tables.mediaProfile = some mp) :
    abortGathered u i s = joinAbortFeed u (abortRows u mp.gutter s)
      (closePanel u true (some (s.now + dryTime s)) (abortTimed u i s)) := by
  obtain ⟨k, hk, hkrows⟩ := abortTimed_find hi
  refine abortGathered_of_closed hlost ?_
  simp [abortClosed, closeAborted, hk, hkrows, hrows.ne', locked, hlock, hmp]

end Gathered

/-! ### What an abort leaves of the item's report (R59) -/

/-- R59: what a notice of the item says beside its state, its fate and its panels. -/
def Item.reported (k : Item) : Nat × Nat × Nat × Option Nat × Nat × Nat :=
  (k.id, k.job, k.print, k.edition, k.rowsReceived, k.rowsPrinted)

/-- The item `u` is reported on as before. -/
def SameReport (u : Nat) (s t : State) : Prop :=
  (findItem t u).map Item.reported = (findItem s u).map Item.reported

theorem SameReport.trans {r t : State} (hr : SameReport u r s) (hs : SameReport u s t) : SameReport u r t :=
  Eq.trans hs hr

theorem SameReport.of_items {t : State} (h : t.items.live = s.items.live) : SameReport u s t :=
  congrArg _ (findItem_congr h u)

theorem SameReport.raised {t : State} (h : SameReport u s t) (n : Notice) : SameReport u s (raise n t) :=
  h.trans (.of_items (by simp))

/-- A change of items that a notice does not show. -/
theorem SameReport.of_map {t : State} {v : Nat} {f : Item → Item} (h : t.items.live = (mapItem v f s).items.live)
    (huid : ∀ k, (f k).uid = k.uid) (hf : ∀ k, (f k).reported = k.reported) : SameReport u s t :=
  Eq.trans (congrArg _ (findItem_congr h u)) (findItem_mapItem_map hf huid v u s)

theorem sameReport_unreadStops (gone : List Stop) (s : State) : SameReport u s (unreadStops gone s) := by
  induction gone generalizing s with
  | nil => exact rfl
  | cons t gone ih =>
    refine SameReport.trans (s := unreadIfMeasure t s) ?_ (ih _)
    have hrecord (m : MeasureStop) : SameReport u s (recordUnread t m s) :=
      SameReport.trans (findItem_mergeVerdict_map (fun _ _ _ => rfl) (fun _ _ => rfl) t.item (t.panel.getD 0)
        .incomplete u s) (.of_items (by simp [recordUnread]))
    obtain ⟨c, hkind⟩ | ⟨m, hkind⟩ : (∃ c, t.kind = .cut c) ∨ ∃ m, t.kind = .measure m := by
      cases h : t.kind <;> simp
    · rw [unreadIfMeasure_of_cut hkind]
      exact rfl
    · by_cases hscan : BeingScanned s t
      · rw [unreadIfMeasure_of_scanned hscan]
        exact rfl
      · rw [unreadIfMeasure_of_measure hkind hscan]
        exact hrecord m

theorem sameReport_abortMarked (u : Nat) (s : State) : SameReport u s (abortMarked u s) := by
  have hnamed : SameReport u s (abortNamed u (nextAbort s) s) := .of_map rfl (fun _ => rfl) fun _ => rfl
  have hunread : SameReport u (abortNamed u (nextAbort s) s)
      (unreadStops (measuresOf u s) (dropStops (fun t => t.isMeasure && t.item == u) (abortNamed u (nextAbort s) s))) :=
    SameReport.trans (.of_items (by simp)) (sameReport_unreadStops _ _)
  refine hnamed.trans (hunread.trans ?_)
  obtain heq | ⟨m, heq⟩ := dropMeasures_cases u (abortNamed u (nextAbort s) s)
  · exact .of_items (by simp only [abortMarked, clearHolds_frame]; exact congrArg (fun t => t.items.live) heq)
  · refine .of_items ?_
    simp only [abortMarked, clearHolds_frame]
    refine (congrArg (fun t => t.items.live) heq).trans ?_
    simp only [proceed_frame]
    rfl

theorem sameReport_discardBands (bands : List Band) (s : State) : SameReport u s (discardBands bands s).1 := by
  induction bands generalizing s with
  | nil => exact rfl
  | cons b bands ih =>
    refine SameReport.trans (s := discardBand b s) ?_ (ih _)
    obtain ⟨hitems, -⟩ := discardBand_spec b s
    exact .of_map (congrArg ItemManager.live hitems) (fun _ => rfl) fun _ => rfl

theorem sameReport_closePanel (last : Bool) (t : Time) (s : State) :
    SameReport u s (closePanel u last (some t) s) := by
  cases hk : findItem s u with
  | none => simp [closePanel, hk, SameReport]
  | some k =>
  cases hmp : s.tables.mediaProfile with
  | none => simp [closePanel, hk, hmp, SameReport]
  | some mp =>
  cases hp : k.panels.getLast? with
  | none => simp [closePanel, hk, hmp, hp, SameReport]
  | some p =>
    obtain ⟨a, b, hcuts, -⟩ := panelCuts_spec k mp p.index (panelTime s k p (some t)) s.items.planRow
      (gutterMade u p.lastBand mp.gutter (some t) s)
    have hmade : (panelMade u (some t) k p mp s).1.items.live =
        (mapItem u (fun k => { k with gutterRows := k.gutterRows + mp.gutter }) s).items.live := by
      rw [panelMade, hcuts, State.onMedia_items, gutterMade, gutterFed_eq]
      rfl
    have hgutter : SameReport u s (panelMade u (some t) k p mp s).1 := .of_map hmade (fun _ => rfl) fun _ => rfl
    rw [closePanel_eq hk hmp hp]
    refine SameReport.raised (hgutter.trans ?_) _
    exact .of_map rfl (fun _ => rfl) fun _ => rfl

/-- R55, R59: all that an abort does before its notices leaves what they say of the item but its state. -/
theorem sameReport_abortMoved (hi : findItem s u = some i) : SameReport u s (abortMoved u i s) := by
  have hlost : SameReport u s (abortLost u s).1 := (sameReport_abortMarked u s).trans (sameReport_discardBands _ _)
  obtain ⟨hreleased, -⟩ := abortTimed_spec hi
  have htimed : SameReport u (abortLost u s).1 (abortTimed u i s) :=
    .of_map (congrArg ItemManager.live hreleased) (fun _ => rfl) fun _ => rfl
  have hclosed : SameReport u (abortTimed u i s) (abortClosed u i s).1 := by
    unfold abortClosed closeAborted
    split
    · split
      · exact rfl
      · split
        · exact .of_map rfl (fun _ => rfl) fun _ => rfl
        · exact sameReport_closePanel true _ _
    · exact rfl
  have hgathered : SameReport u (abortClosed u i s).1 (abortGathered u i s) :=
    .of_map (congrArg ItemManager.live (joinAbortFeed_items u _ _)) (fun _ => rfl) fun _ => rfl
  exact hlost.trans (htimed.trans (hclosed.trans (hgathered.trans (.of_map rfl (fun _ => rfl) fun _ => rfl))))

end Parts

/-! ### The notices, and the whole abort -/

section Whole

variable {u : Nat} {i : Item} {s : State}

/-- R59: what the notices of an abort say of the item. -/
theorem abortMoved_find (hi : findItem s u = some i) : ∃ k, findItem (abortMoved u i s) u = some k ∧
    k.reported = i.reported ∧ k.fate = .aborted ∧ k.under = none ∧ k.state = abortState u i s := by
  obtain ⟨k, hk, hreported⟩ := Option.map_eq_some_iff.1
    (Eq.trans (sameReport_abortMoved hi) (congrArg (Option.map Item.reported) hi))
  obtain ⟨hmem, huid⟩ := mem_of_findItem hk
  obtain ⟨k₀, -, -, -, hself⟩ := abortMoved_item hi hmem
  obtain ⟨hkey, hstate⟩ := hself huid
  simp only [Item.endKey, Prod.mk.injEq] at hkey
  obtain ⟨hfate, -, -, -, hunder⟩ := hkey
  exact ⟨k, hk, hreported, hfate, hunder, hstate⟩

theorem raiseItem_of_find {k : Item} (c : ItemCode) (hk : findItem s u = some k) :
    raiseItem c u s = raise (.item c k.body) s := by
  simp only [raiseItem, hk]

/-- R55, R59: the two notices of an abort, and then the moves of R52. -/
theorem abortItem_eq_raised {k : Item} (c : AbortCause) (hi : findItem s u = some i) (hfate : i.fate ≠ .aborted)
    (hstate : i.state ≠ .costing) (hk : findItem (abortMoved u i s) u = some k) :
    abortItem u c s = advanceItem u (raise (.item (if abortState u i s = .closing then .closing else .settling) k.body)
      (raise (.item (.aborted c) k.body) (abortMoved u i s))) := by
  have hraised : findItem (raise (.item (.aborted c) k.body) (abortMoved u i s)) u = some k :=
    (findItem_congr (by simp) u).trans hk
  rw [abortItem_eq hi hfate hstate, raiseItem_of_find _ hk, raiseItem_of_find _ hraised]

theorem abortMoved_path (u : Nat) (i : Item) (s : State) : (abortMoved u i s).path = (abortGathered u i s).path := by
  simp [abortMoved]

theorem abortState_closing (h : ∃ a ∈ (abortMoved u i s).path.store, a.item = u) : abortState u i s = .closing := by
  rw [abortMoved_path] at h
  rw [abortState, if_pos ((hasBand_iff _ u).2 h)]

theorem abortState_settling (h : ∀ a ∈ (abortMoved u i s).path.store, a.item ≠ u) : abortState u i s = .settling := by
  rw [abortMoved_path] at h
  rw [abortState, if_neg (by rw [(hasBand_eq_false_iff _ u).2 h]; decide)]

end Whole

/-- Settles O32: the record's checks, `abortedBy_abortItem`, and the abort in its parts. -/
theorem itemAbortActed : Obligations.ItemAbortActed := by
  refine ⟨fun tag s hact => ?_, fun u c i s hi => ⟨fun h => ?_, fun hfate hstate => ?_⟩⟩
  · have hexec {body : List Byte} : exec (.itemAbort tag body) s = command (express .itemAbort tag body) s := rfl
    refine ⟨fun body hbody => refuses_of_acts hexec hact (congrArg answer (itemAbort_malformed hbody)), fun id => ?_⟩
    have hbody : byteBody [id, 0#8, 0#8, 0#8] = some id.toNat := rfl
    refine ⟨fun hunknown => replies_of_answer hexec hact
      (congrArg answer (itemAbort_unknown hbody ((itemById_eq_none_iff _ _).2 hunknown))), fun i hi => ⟨fun hover =>
      replies_of_answer hexec hact (congrArg answer (itemAbort_over hbody hi hover)), fun hfind hstate hfate => ?_⟩⟩
    have hreplies : Replies (.itemAbort tag [id, 0#8, 0#8, 0#8]) s tag .ok .empty
        (abortItem i.uid .itemAbort s.clearOut) :=
      replies_of_answer hexec hact (congrArg answer (itemAbort_live hbody hi hstate hfate))
    have hdone : AbortedBy i.uid s.clearOut (abortItem i.uid .itemAbort s.clearOut) :=
      abortedBy_abortItem (s := s.clearOut) hfind hfate hstate .itemAbort
    exact ⟨hreplies, exists_abortedBy_of_replies hreplies hdone⟩
  · refine abortItem_of_idle fun k hk => ?_
    obtain rfl := Option.some.inj (hi.symm.trans hk)
    exact h
  · have hcomplete : i.fate ≠ .aborted := by rw [hfate]; decide
    obtain ⟨k, hk, hreported, hkfate, hkunder, hkstate⟩ := abortMoved_find hi
    obtain ⟨hnow, -, htables, -⟩ := abortMoved_frame u i s
    have hnotices := abortItem_eq_raised c hi hcomplete hstate hk
    simp only [Item.reported, Prod.mk.injEq] at hreported
    obtain ⟨hid, hjob, hprint, hedition, hreceived, hprinted⟩ := hreported
    refine ⟨abortMoved u i s, k.body, hnow, htables, hid, hjob, hprint, hedition, hkunder, hkfate, hreceived, hprinted,
      fun hbands _ => ?_, fun hband => ?_, fun hband => ?_⟩
    · have hlost := abortLost_rows_of_bands hbands
      refine ⟨nextAbort s, measuresOf u s, _, _, abortTimed u i s, abortGathered u i s, (abortLost u s).1,
        abortOrder_lt_nextAbort s, rfl, stripsUnread_unreadStops _ _, rfl, ?_, abortTimed_eq hi, abortTimed_sites hi,
        abortGathered_plain hi hlost, abortGathered_locked hi hlost, fun mp => abortGathered_closes hi hlost, ?_⟩
      · rw [abortLost_fst, abortMarked_eq]
        rfl
      · rw [show k.body.state = abortState u i s from hkstate]
        rfl
    · have hclosing := abortState_closing hband
      rw [hnotices, hclosing]
      exact ⟨hkstate.trans hclosing, rfl⟩
    · have hsettling := abortState_settling hband
      rw [hnotices, hsettling]
      exact ⟨hkstate.trans hsettling, rfl⟩

end Sys2Proof.Machine

/-! ## A take that does more than answer (R9) -/

namespace Sys2Proof.Machine

section Taken

variable {c : Instr} {k : StreamKind} {can : IntakeEntry → State → Bool} {act : IntakeEntry → State → State}
  {s t : State} {e : IntakeEntry} {rest : List IntakeEntry}
  (hexec : exec c s = command (take k can act) s) (h : TakeReady s e rest) (hk : e.kind = k)

include hexec h hk

/-- R9: an entry that its owner cannot take yet waits, whatever its take would do. -/
theorem waits_of_not_can (hcan : can e s.clearOut = false) : Waits c s :=
  hexec.trans (command_eq ((h.take_eq hk).trans (if_neg (by simp [hcan]))))

/-- R9: an entry that its owner can take is taken. -/
theorem leaves_of_can (hcan : can e s.clearOut = true) (hact : act e (afterTake s rest) = t) : Leaves c s t :=
  hexec.trans (command_eq ((h.take_eq hk).trans ((if_pos hcan).trans hact)))

end Taken

/-- R10, R14: a record answered with BAD_RECORD by its owner. -/
theorem answerTake_bad (e : IntakeEntry) (s : State) (rest : List IntakeEntry) :
    answerTake e (afterTake s rest, .badRecord) = takeBad s e rest := rfl

/-- R10: a record refused with a status that the fault capture does not look at. -/
theorem answerTake_refused (e : IntakeEntry) (s : State) (rest : List IntakeEntry) {st : Status}
    (hst : st ≠ .badRecord ∧ st ≠ .badTable) : answerTake e (afterTake s rest, st) = takeRefused s e rest st := by
  rw [answerTake, captureIf, if_neg (not_or.2 hst)]
  rfl

end Sys2Proof.Machine

/-! ## FEED and CLEAN records (R70, R71) -/

namespace Sys2Proof.Machine

theorem maskInRange_iff (mask : Nat) : maskInRange mask = true ↔ mask < 4096 := decide_eq_true_iff

theorem cleanBody_eq_some_iff (body : List Byte) (strength mask : Nat) : cleanBody body = some (strength, mask) ↔
    body.length = 4 ∧ strength = u8 body 0 ∧ 1 ≤ strength ∧ strength ≤ 3 ∧ u8 body 1 = 0 ∧ mask = u16 body 2 ∧
      1 ≤ mask ∧ mask < 4096 := by
  simp only [cleanBody, maskInRange_iff, Option.ite_none_right_eq_some, Option.some.injEq, Prod.mk.injEq]
  constructor
  · rintro ⟨⟨hlength, hlow, hhigh, hzero, hmask, hrange⟩, rfl, rfl⟩
    exact ⟨hlength, rfl, hlow, hhigh, hzero, rfl, Nat.one_le_iff_ne_zero.2 hmask, hrange⟩
  · rintro ⟨hlength, rfl, hlow, hhigh, hzero, rfl, hmask, hrange⟩
    exact ⟨⟨hlength, hlow, hhigh, hzero, Nat.one_le_iff_ne_zero.1 hmask, hrange⟩, rfl, rfl⟩

theorem feedBody_of_good {body : List Byte} (hlength : body.length = 4) (hlow : 1 ≤ u32 body 0)
    (hhigh : u32 body 0 ≤ 96000) : feedBody body = some (u32 body 0) := if_pos ⟨hlength, hlow, hhigh⟩

/-- R56, R68: abort feeds that wait for places come before the intake. -/
theorem placeFreeForIntake_iff (s : State) :
    placeFreeForIntake s = true ↔ placesHeld s + s.path.abortWait.length < 4 := decide_eq_true_iff

section Feed

variable {e : IntakeEntry} {s : State} {rows : Nat}

theorem judgeFeed_malformed (h : feedBody e.body = none) : judgeFeed e s = answerTake e (s, .badRecord) := by
  rw [judgeFeed, h]

/-- R70, check 2: a FEED needs MEDIA_PROFILE. -/
theorem judgeFeed_noTable (hbody : feedBody e.body = some rows) (h : s.tables.mediaProfile = none) :
    judgeFeed e s = answerTake e (s, .noTable) := by
  simp [judgeFeed, hbody, h]

/-- R70, check 3: a FEED needs rows that no live item has reserved. -/
theorem judgeFeed_noMedia (hbody : feedBody e.body = some rows) (hprofile : s.tables.mediaProfile.isSome = true)
    (h : s.media.roll.loaded = false ∨ freeRows s < rows) : judgeFeed e s = answerTake e (s, .noMedia) := by
  simp [judgeFeed, hbody, Option.isNone_eq_false_iff.2 hprofile, h]

/-- R70, R46: an accepted FEED waits to enter the queue, and its rows are planned. -/
theorem judgeFeed_arises (hbody : feedBody e.body = some rows) (hprofile : s.tables.mediaProfile.isSome = true)
    (hroll : s.media.roll.loaded = true) (hrows : rows ≤ freeRows s) :
    judgeFeed e s = movePlan rows (ariseOp (.feed .record rows) s) := by
  simp [judgeFeed, hbody, Option.isNone_eq_false_iff.2 hprofile, hroll, Nat.not_lt.2 hrows]

end Feed

section Clean

variable {body : List Byte} {strength mask : Nat} {s : State}

/-- R71: the flush volume of a strength is that of its place in the channel's entry of MAINTENANCE. -/
theorem flushVolume_eq (flush : Vector (Vector Nat 3) 12) (hlow : 1 ≤ strength) (hhigh : strength ≤ 3) (c : Chan) :
    flushVolume flush strength c = (flush[c]).toList.getD (strength - 1) 0 := by
  have hlt : strength - 1 < 3 := by omega
  simp [flushVolume, List.getD_eq_getElem?_getD, hlt, Nat.mod_eq_of_lt hlt]

/-- R71, check 2: a CLEAN needs CHANNEL_MAP and MAINTENANCE. -/
theorem judgeClean_noTable (hbody : cleanBody body = some (strength, mask))
    (h : s.tables.channelMap = none ∨ s.tables.maintenance = none) : judgeClean body s = (s, .noTable) := by
  simp only [judgeClean, hbody]
  obtain h | h := h
  · simp [h]
  · cases hmap : s.tables.channelMap <;> simp [h]

variable {map : Vector MapEntry 12} {flush : Vector (Vector Nat 3) 12} (hbody : cleanBody body = some (strength, mask))
  (hmap : s.tables.channelMap = some map) (hflush : s.tables.maintenance = some flush)

include hbody hmap hflush

theorem judgeClean_disabled (h : ∃ c ∈ channelsOf mask, map[c].enabled = false) :
    judgeClean body s = (s, .badRecord) := by
  simp only [judgeClean, hbody, hmap, hflush]
  exact if_pos (by simpa using h)

/-- R71: an accepted CLEAN names the flush volume of its strength for each channel of its mask. -/
theorem judgeClean_arises (h : ∀ c ∈ channelsOf mask, map[c].enabled = true) : judgeClean body s =
    (ariseOp (.clean strength ((channelsOf mask).map fun c => (c, (flush[c]).toList.getD (strength - 1) 0)) false) s,
      .ok) := by
  obtain ⟨-, -, hlow, hhigh, -⟩ := (cleanBody_eq_some_iff body strength mask).1 hbody
  simp only [judgeClean, hbody, hmap, hflush, flushVolume_eq flush hlow hhigh]
  exact if_neg (by simpa using h)

end Clean

/-- Settles O37: the takes of FEED and CLEAN. -/
theorem feedAndCleanTaken : Obligations.FeedAndCleanTaken := by
  refine ⟨cleanBody_eq_some_iff, placeFreeForIntake_iff, fun s e rest hready => ?_⟩
  have hfeed : exec .feed s = command (take .feed canTakeOp judgeFeed) s := rfl
  have hclean : exec .clean s = command (take .clean canTakeOp fun e s => answerTake e (judgeClean e.body s)) s := rfl
  refine ⟨fun hk hfull => waits_of_not_can hfeed hready hk hfull,
    fun hk hfull => take_waits hclean hready hk hfull, fun hk hfree => ?_, fun hk hfree => ?_⟩
  · have hleaves {t : State} (h : judgeFeed e (afterTake s rest) = t) : Leaves .feed s t :=
      leaves_of_can hfeed hready hk hfree h
    refine ⟨fun hbad => ?_, fun hlength hlow hhigh => ?_⟩
    · exact hleaves ((judgeFeed_malformed (if_neg hbad)).trans (answerTake_bad e s rest))
    · have hbody := feedBody_of_good hlength hlow hhigh
      refine ⟨fun hnone => ?_, fun hprofile => ⟨fun hshort => ?_, fun hroll hrows => ?_⟩⟩
      · exact hleaves ((judgeFeed_noTable (s := afterTake s rest) hbody hnone).trans
          (answerTake_refused e s rest (by decide)))
      · exact hleaves ((judgeFeed_noMedia (s := afterTake s rest) hbody hprofile hshort).trans
          (answerTake_refused e s rest (by decide)))
      · exact hleaves (judgeFeed_arises hbody hprofile hroll hrows)
  · refine ⟨fun hbad => ?_, fun strength mask hbody => ⟨fun hnone => ?_, fun map flush hmap hflush =>
      ⟨fun hoff => ?_, fun hon => ?_⟩⟩⟩
    · exact take_bad hclean hready hk hfree (by rw [judgeClean, hbad])
    · exact take_refused hclean hready hk hfree (by decide) (judgeClean_noTable hbody hnone)
    · exact take_bad hclean hready hk hfree (judgeClean_disabled hbody hmap hflush hoff)
    · exact take_ok hclean hready hk hfree (judgeClean_arises hbody hmap hflush hon)

end Sys2Proof.Machine

/-! ## Messages of the operation in flight (R73, R74, R77) -/

namespace Sys2Proof.Machine

/-- A message of another operation id, or to an IDLE link, is ignored. -/
theorem onFlight_of_other {opId : Nat} {F : Flight → State → State} {s : State}
    (h : ∀ f, s.path.flight = some f → f.opId ≠ opId) : onFlight opId F s = s := by
  cases hf : s.path.flight with
  | none => simp only [onFlight, hf]
  | some f => simp only [onFlight, hf, if_neg (h f hf)]

theorem onFlight_of_flight {f : Flight} {F : Flight → State → State} {s : State} (h : s.path.flight = some f) :
    onFlight f.opId F s = F f s := by
  simp only [onFlight, h, if_pos]

/-- What a command leaves is what its meaning makes of the state with nothing sent yet. -/
theorem leaves_of_command {c : Instr} {F : State → State} {s t : State} (hexec : exec c s = command F s)
    (h : F s.clearOut = t) : Leaves c s t := hexec.trans (command_eq h)

theorem waits_of_command {c : Instr} {F : State → State} {s : State} (hexec : exec c s = command F s)
    (h : F s.clearOut = s.clearOut) : Waits c s := leaves_of_command hexec h

section Message

variable {c : Instr} {opId : Nat} {f : Flight} {F : Flight → State → State} {s t : State}

theorem waits_of_other (hexec : exec c s = command (onFlight opId F) s)
    (h : ∀ f, s.path.flight = some f → f.opId ≠ opId) : Waits c s :=
  waits_of_command hexec (onFlight_of_other h)

theorem leaves_of_flight (hexec : exec c s = command (onFlight f.opId F) s) (h : s.path.flight = some f)
    (ht : F f s.clearOut = t) : Leaves c s t :=
  leaves_of_command hexec ((onFlight_of_flight (s := s.clearOut) h).trans ht)

theorem waits_of_flight (hexec : exec c s = command (onFlight f.opId F) s) (h : s.path.flight = some f)
    (ht : F f s.clearOut = s.clearOut) : Waits c s := leaves_of_flight hexec h ht

end Message

/-! ### ACCEPT, REFUSE and ANSWER_DEADLINE (R73) -/

theorem exec_answerDeadline (s : State) : exec .answerDeadline s = execAnswerDeadline s := rfl

/-- R73: the OFFER that follows a REFUSE or a passed answer deadline. -/
theorem offerAgain_of_lt {n : Nat} (h : n < 3) (f : Flight) (s : State) : offerAgain f n s =
    (s.onPath fun p => { p with flight := some { f with phase := .offering (n + 1) (s.now + 500#32) } }).send
      (.offer f.opId (offerBody s f) (f.points.map PausePoint.offset)) := if_pos h

/-- R77: an offer count of 3 is the last. -/
theorem offerAgain_of_le {n : Nat} (h : 3 ≤ n) (f : Flight) (s : State) :
    offerAgain f n s = headFault .noAccept s := if_neg (Nat.not_lt.2 h)

/-- Settles O43: what answers an OFFER. -/
theorem offerAnswered : Obligations.OfferAnswered := by
  refine ⟨fun opId s hnone => ?_, fun f n deadline s hf hphase => ?_⟩
  · by_cases h : ∃ f, s.path.flight = some f ∧ f.opId = opId
    · obtain ⟨f, hf, rfl⟩ := h
      have hphase := hnone f hf rfl
      refine ⟨waits_of_flight rfl hf ?_, waits_of_flight rfl hf ?_⟩
      all_goals
        cases hp : f.phase with
        | offering n d => exact absurd hp (hphase n d)
        | running since => rfl
        | pausedAt => rfl
    · have hother : ∀ f, s.path.flight = some f → f.opId ≠ opId := fun f hf hid => h ⟨f, hf, hid⟩
      exact ⟨waits_of_other rfl hother, waits_of_other rfl hother⟩
  · have hrefuse {t : State} (h : offerAgain f n s.clearOut = t) : Leaves (.refuse f.opId) s t := by
      refine leaves_of_flight rfl hf ?_
      simp only [hphase, h]
    have hlate {t : State} (h : offerAgain f n s.clearOut = t) (hd : passed s.now deadline = true) :
        Leaves .answerDeadline s t := by
      refine leaves_of_command (exec_answerDeadline s) ?_
      simp only [State.clearOut_path, hf, hphase, State.clearOut_now, hd, if_true, h]
    refine ⟨?_, fun hn => ⟨_, rfl, hrefuse (offerAgain_of_lt hn f _), hlate (offerAgain_of_lt hn f _)⟩,
      fun hn => ⟨hrefuse (offerAgain_of_le hn f _), hlate (offerAgain_of_le hn f _)⟩, fun hd => ?_⟩
    · refine leaves_of_flight rfl hf ?_
      simp only [hphase, State.clearOut_now]
    · refine waits_of_command (exec_answerDeadline s) ?_
      simp [hf, hphase, hd]

/-! ### The print engine (R74, R77 to R80) -/

theorem exec_runningTimerLimit (s : State) : exec .runningTimerLimit s = execRunningTimerLimit s := rfl

theorem exec_engineReady (s : State) : exec .engineReady s = execEngineReady s := rfl

theorem exec_engineFault (s : State) : exec .engineFault s = execEngineFault s := rfl

/-- R74: what the running timer of a RUNNING operation shows. -/
theorem timer_of_running {f : Flight} {since : Time} (h : f.phase = .running since) (now : Time) :
    f.timer now = f.elapsed + (now - since).toNat := by
  simp only [Flight.timer, h, elapsedMs]

section Limit

variable {f : Flight} {since : Time} {s : State} (hf : s.path.flight = some f) (hphase : f.phase = .running since)

include hf hphase

/-- R74, R77: the running timer at its limit (log 5). -/
theorem runningTimerLimit_reached (h : runLimit f.work.kind ≤ f.elapsed + (s.now - since).toNat) :
    Leaves .runningTimerLimit s (headFault .timeout s.clearOut) := by
  refine leaves_of_command (exec_runningTimerLimit s) ?_
  rw [← timer_of_running hphase] at h
  simp only [State.clearOut_path, hf, hphase, State.clearOut_now]
  exact if_pos h

theorem runningTimerLimit_below (h : f.elapsed + (s.now - since).toNat < runLimit f.work.kind) :
    Waits .runningTimerLimit s := by
  refine waits_of_command (exec_runningTimerLimit s) ?_
  rw [← timer_of_running hphase, ← Nat.not_le] at h
  simp only [State.clearOut_path, hf, hphase, State.clearOut_now]
  exact if_neg h

end Limit

/-- R77: a HEAD_FAULT with nothing in flight and nothing at the sensor. -/
theorem headFault_idle (cause : FaultCause) {s : State} (hflight : s.path.flight = none)
    (hscan : s.colour.scan = none) (hmeasure : s.colour.measure = none) :
    headFault cause s = raise (.headFault cause none)
      (s.onPath fun p => { p with engine := .fault, readySeen := false }) := by
  have hidle : (s.onPath fun p => { p with flight := none, engine := .fault, readySeen := false }) =
      s.onPath fun p => { p with engine := .fault, readySeen := false } := by
    simp only [State.onPath, ← hflight]
  simp [headFault, hflight, endScan, endMeasureUnread, hscan, hmeasure, hidle]


/-! HALT (R79) and RESUME (R80), by print engine state. -/

section HaltResume

variable {tag : Byte} {s : State} (hact : actsAtOnce s = true)

include hact

theorem halt_refuses {body : List Byte} (h : body ≠ []) : Refuses (.halt tag body) s .halt tag body :=
  refuses_of_acts rfl hact (congrArg answer (if_pos h))

theorem resume_refuses {body : List Byte} (h : body ≠ []) : Refuses (.resume tag body) s .resume tag body :=
  refuses_of_acts rfl hact (congrArg answer (if_pos h))

theorem halt_replies {t : State} {st : Status} (hst : st ≠ .badRecord ∧ st ≠ .badTable)
    (h : halt [] s.clearOut = (t, st)) : Replies (.halt tag []) s tag st .empty t := by
  have hreplies := replies_of_answer (c := .halt tag []) (k := .halt) rfl hact (congrArg answer h)
  rwa [captureIf, if_neg (not_or.2 hst)] at hreplies

theorem resume_replies {t : State} {st : Status} (hst : st ≠ .badRecord ∧ st ≠ .badTable)
    (h : resume [] s.clearOut = (t, st)) : Replies (.resume tag []) s tag st .empty t := by
  have hreplies := replies_of_answer (c := .resume tag []) (k := .resume) rfl hact (congrArg answer h)
  rwa [captureIf, if_neg (not_or.2 hst)] at hreplies

end HaltResume

/-- R79: a PAUSED engine stays so. -/
theorem halt_moves {s : State} (h : s.path.engine = .running ∨ s.path.engine = .paused) :
    halt [] s = (s.onPath fun p => { p with engine := .paused }, .ok) := by
  obtain h | h := h
  · simp [halt, h]
  · have hsame : (s.onPath fun p => { p with engine := .paused }) = s := by simp only [State.onPath, ← h]
    simp [halt, h, hsame]

theorem halt_stays {s : State} (h : s.path.engine = .waitingEngine ∨ s.path.engine = .fault) :
    halt [] s = (s, .refusedState) := by
  obtain h | h := h <;> simp [halt, h]

theorem resume_moves {s : State} (h : s.path.engine = .paused ∨ (s.path.engine = .fault ∧ s.path.readySeen = true)) :
    resume [] s = (s.onPath fun p => { p with engine := .running }, .ok) :=
  (if_neg (by simp)).trans (if_pos h)

theorem resume_stays {s : State} (h : s.path.engine = .running ∨ s.path.engine = .waitingEngine ∨
    (s.path.engine = .fault ∧ s.path.readySeen = false)) : resume [] s = (s, .refusedState) := by
  refine (if_neg (by simp)).trans (if_neg ?_)
  obtain h | h | ⟨h, hseen⟩ := h
  · simp [h]
  · simp [h]
  · simp [h, hseen]

/-- Settles O44: the running timer, the messages of the engine, and HALT and RESUME. -/
theorem engineStates : Obligations.EngineStates := by
  refine ⟨fun f since s hf hphase => ⟨fun h => ?_, fun h => ?_⟩, fun s => ?_, fun tag s hact => ?_,
    fun cause s => headFault_idle cause⟩
  · exact runningTimerLimit_reached hf hphase (by cases hk : f.work.kind <;> simpa [hk, runLimit] using h)
  · exact runningTimerLimit_below hf hphase (by cases hk : f.work.kind <;> simpa [hk, runLimit] using h)
  · have hready {t : State} := leaves_of_command (t := t) (exec_engineReady s)
    have hfault {t : State} := leaves_of_command (t := t) (exec_engineFault s)
    refine ⟨fun h => hready ?_, fun h => hready ?_, fun h => hready ?_, fun h => hfault ?_, fun h => hfault ?_,
      fun h => hfault ?_⟩
    · simp only [State.clearOut_path, h]
    · simp only [State.clearOut_path, h]
    · obtain h | h := h <;> simp only [State.clearOut_path, h]
    · simp only [State.clearOut_path, h]
    · obtain h | h := h <;> simp only [State.clearOut_path, h]
    · simp only [State.clearOut_path, h]
  · exact ⟨fun body h => ⟨halt_refuses hact h, resume_refuses hact h⟩,
      fun h => halt_replies hact (by decide) (halt_moves h), fun h => halt_replies hact (by decide) (halt_stays h),
      fun h => resume_replies hact (by decide) (resume_moves h),
      fun h => resume_replies hact (by decide) (resume_stays h)⟩

/-! ### PAUSED (R74, R128) -/

section Paused

variable {f : Flight} {since : Time} {q : PausePoint} {s t : State}

/-- R74: the operation in flight once its next pause point has been reported at the moment `now`. -/
def Flight.pausedNow (f : Flight) (since now : Time) : Flight :=
  { f with phase := .pausedAt, elapsed := f.elapsed + (now - since).toNat, reported := f.reported + 1 }

/-- The head link with the operation `g` in flight. -/
def withFlight (g : Flight) (s : State) : State := s.onPath fun p => { p with flight := some g }

/-- R74: a pause point out of its order. -/
theorem pauseAt_out_of_order {point : Nat} (h : point ≠ f.reported ∨ f.points.length ≤ point) :
    pauseAt f point s = headFault .protocol s := by
  by_cases hpoint : point = f.reported
  · have hend := h.resolve_left (not_not.2 hpoint)
    simp only [pauseAt, if_pos hpoint, List.getElem?_eq_none hend]
  · rw [pauseAt, if_neg hpoint]

theorem pauseAt_next (hphase : f.phase = .running since) (hq : f.points[f.reported]? = some q) :
    pauseAt f f.reported s =
      dispatchStop q.stop (withFlight (f.pausedNow since s.now) s) := by
  simp only [pauseAt, if_pos, hq, timer_of_running hphase, Flight.pausedNow, withFlight]

theorem dispatchStop_measure {u : Stop} {m : MeasureStop} {uid : Nat} (hu : findStop s uid = some u)
    (hkind : u.kind = .measure m) :
    dispatchStop uid s = s.onColour fun k => { k with measure := some uid } := by
  simp only [dispatchStop, hu, hkind]

theorem dispatchStop_cut {u : Stop} {c : CutStop} {uid : Nat} (hu : findStop s uid = some u)
    (hkind : u.kind = .cut c) : dispatchStop uid s = dispatchCut uid s := by
  simp only [dispatchStop, hu, hkind]

theorem dispatchStop_gone {uid : Nat} (hu : findStop s uid = none) : dispatchStop uid s = proceed uid s := by
  simp only [dispatchStop, hu]

/-- R142: the stop that the cutter controller holds is not started again. -/
theorem dispatchCut_held {uid : Nat} (h : s.cutter.held = some uid) : dispatchCut uid s = s :=
  if_neg (by simp [h])

/-- R137, R138: the cutter controller holds the dispatched stop and is WAITING, its hold, if it has one, reported. -/
def cutDispatched (uid : Nat) (hold : Bool) (s : State) : State :=
  s.onCutter fun k => { k with
    state := .waiting, held := some uid, dispatchedAt := some s.now, startedAt := none, holdReported := hold }

theorem dispatchCut_idle {u : Stop} {c : CutStop} {uid : Nat} (hidle : s.cutter.state = .idle)
    (hheld : s.cutter.held = none) (hu : findStop s uid = some u) (hkind : u.kind = .cut c) :
    dispatchCut uid s = if c.hold then raise
      (.cutHoldWait { role := c.role, id := u.itemId, panel := u.panel, position := u.position })
        (cutDispatched uid c.hold s)
      else cutDispatched uid c.hold s := by
  have hstop : heldStop (cutDispatched uid false s) = some (u, c) := by
    have hfind : findStop (cutDispatched uid false s) uid = some u := hu
    have hcut : u.cut? = some c := by simp only [Stop.cut?, hkind]
    change (findStop (cutDispatched uid false s) uid).bind _ = _
    simp only [hfind, hcut, Option.bind_some, Option.map_some]
  have hdispatch : dispatchCut uid s = reportHold (cutDispatched uid false s) := if_pos ⟨hheld, hidle⟩
  rw [hdispatch, reportHold, hstop]
  cases hhold : c.hold with
  | false => exact if_neg (by simp [hhold])
  | true => exact if_pos ⟨rfl, hhold, rfl⟩

end Paused

/-- Settles O45: PAUSED, the dispatch of its stop, and a report out of place. -/
theorem pauseReported : Obligations.PauseReported := by
  refine ⟨fun opId point s hother => waits_of_other rfl hother, fun f point s hf hphase => ?_,
    fun f since point s hf hphase => ⟨fun h => ?_, fun q g hq hg => ?_⟩⟩
  · refine leaves_of_flight rfl hf ?_
    cases hp : f.phase with
    | running since => exact absurd hp (hphase since)
    | offering n d => rfl
    | pausedAt => rfl
  · refine leaves_of_flight rfl hf ?_
    simp only [hphase]
    exact pauseAt_out_of_order h
  · obtain rfl : g = f.pausedNow since s.now := hg
    have hleaves {t : State} (h : dispatchStop q.stop (withFlight (f.pausedNow since s.now) s.clearOut) = t) :
        Leaves (.paused f.opId f.reported) s t := by
      refine leaves_of_flight rfl hf ?_
      simp only [hphase]
      exact (pauseAt_next hphase hq).trans h
    refine ⟨fun u m hu hkind => hleaves (dispatchStop_measure hu hkind), fun u c hu hkind hidle hheld =>
      ⟨_, rfl, hleaves ?_⟩, fun u c hu hkind hheld => hleaves ?_, fun hgone => hleaves ?_⟩
    · exact (dispatchStop_cut (s := withFlight _ s.clearOut) hu hkind).trans (dispatchCut_idle hidle hheld hu hkind)
    · exact (dispatchStop_cut (s := withFlight _ s.clearOut) hu hkind).trans (dispatchCut_held hheld)
    · have hpaused : pausedStop (withFlight (f.pausedNow since s.now) s.clearOut) = some q.stop := by
        simp [pausedStop, withFlight, Flight.pausedNow, hq]
      exact (dispatchStop_gone (s := withFlight _ s.clearOut) hgone).trans (proceed_paused rfl hpaused)

end Sys2Proof.Machine

/-! ## OFFER: the arbiter's choice and the hand-over (R72, R73, R126, R127, R168) -/

namespace Sys2Proof.Machine

section Offer

variable {s : State}

/-- R73: the operation that is handed to the head link. -/
def offeredFlight (work : FlightWork) (commanded : Nat) (points : List PausePoint) (s : State) : Flight :=
  { opId := s.path.nextOpId, work := work, phase := .offering 1 (s.now + 500#32), elapsed := 0,
    commanded := commanded, points := points, reported := 0 }

/-- R73: an OFFER's parameters rest on the store alone. -/
theorem offerBody_congr {s u : State} (h : u.path.store = s.path.store) (f : Flight) :
    offerBody u f = offerBody s f := by
  simp only [offerBody, findBand, h]

theorem handOver_eq (work : FlightWork) (commanded : Nat) (points : List PausePoint) (s : State) :
    handOver work commanded points s =
      (s.onPath fun p => { p with
        flight := some (offeredFlight work commanded points s),
        nextOpId := if p.nextOpId = 65535 then 1 else p.nextOpId + 1 }).send
        (.offer s.path.nextOpId (offerBody s (offeredFlight work commanded points s))
          (points.map PausePoint.offset)) := by
  rw [← offerBody_congr (s := s) (u := s.onPath fun p => { p with
    flight := some (offeredFlight work commanded points s), nextOpId := nextId p.nextOpId }) rfl]
  rfl

section Parameters

variable {f : Flight}

theorem offerBody_band {b : Band} (hwork : f.work = .band b.serial) (hb : findBand s b.serial = some b) :
    offerBody s f = .band b.rows b.columns f.commanded (b.channels.map fun c => (c.headRow, c.plane)) := by
  simp only [offerBody, hwork, hb]

theorem offerBody_feed {o : Op} {source : FeedSource} {rows : Nat} (hwork : f.work = .op o)
    (ho : o.work = .feed source rows) : offerBody s f = .feed f.commanded := by
  obtain ⟨serial, owner, work, rest⟩ := o
  obtain rfl : work = .feed source rows := ho
  simp only [offerBody, hwork]

theorem offerBody_clean {o : Op} {strength : Nat} {flush : List (Chan × Nat)} {granted : Bool}
    (hwork : f.work = .op o) (ho : o.work = .clean strength flush granted) :
    offerBody s f = .clean strength (flush.map Prod.fst) := by
  obtain ⟨serial, owner, work, rest⟩ := o
  obtain rfl : work = .clean strength flush granted := ho
  simp only [offerBody, hwork]

theorem offerBody_verify {p : Part} (hwork : f.work = .verify p) : offerBody s f = .verify p := by
  simp only [offerBody, hwork]

end Parameters

theorem arbitrate_busy (h : s.path.flight ≠ none) : arbitrate s = s := by
  rw [arbitrate, if_pos (Option.isSome_iff_ne_none.2 h)]

/-- R72, step 1: a pending VERIFY goes before the queue. -/
theorem arbitrate_verify {p : Part} (hidle : s.path.flight = none) (hp : s.colour.verify.pending = some p)
    (h : s.path.engine = .running ∨ s.path.engine = .paused) : arbitrate s = offerVerify p s := by
  simp only [arbitrate, hidle, Option.isSome_none, Bool.false_eq_true, if_false, hp]
  exact if_pos h

theorem arbitrate_queue (hidle : s.path.flight = none)
    (h : s.colour.verify.pending = none ∨ (s.path.engine ≠ .running ∧ s.path.engine ≠ .paused)) :
    arbitrate s = offerQueued s := by
  simp only [arbitrate, hidle, Option.isSome_none, Bool.false_eq_true, if_false]
  cases hp : s.colour.verify.pending with
  | none => rfl
  | some p =>
    have hengine := h.resolve_left (by simp [hp])
    exact if_neg (not_or.2 hengine)

/-- R72, step 2: the queue is offered by a RUNNING engine alone. -/
theorem offerQueued_stays (h : s.path.engine ≠ .running ∨ s.path.queue = []) : offerQueued s = s := by
  unfold offerQueued
  cases hq : s.path.queue with
  | nil => rfl
  | cons q rest => exact if_neg (h.resolve_right (by simp [hq]))

variable {rest : List QEntry} (hengine : s.path.engine = .running)

include hengine

theorem offerQueued_band {b : Band} (hq : s.path.queue = .band b.serial :: rest)
    (hb : findBand s b.serial = some b) : offerQueued s =
      if itemHeld s b.item = false ∧ s.cutter.state ≠ .cutting then
        offerBand b (s.onPath fun p => { p with queue := rest })
      else s := by
  simp only [offerQueued, hq, hengine, if_true, hb]

theorem offerQueued_feed {o : Op} {source : FeedSource} {rows : Nat} (hq : s.path.queue = .op o :: rest)
    (ho : o.work = .feed source rows) : offerQueued s =
      if s.cutter.state ≠ .cutting then offerOp o (s.onPath fun p => { p with queue := rest }) else s := by
  simp only [offerQueued, hq, hengine, if_true, ho]

theorem offerQueued_clean {o : Op} {strength : Nat} {flush : List (Chan × Nat)} {granted : Bool}
    (hq : s.path.queue = .op o :: rest) (ho : o.work = .clean strength flush granted) :
    offerQueued s = offerOp o (s.onPath fun p => { p with queue := rest }) := by
  simp only [offerQueued, hq, hengine, if_true, ho]

end Offer

/-- R72, R73, R126: the first offer of a FEED. -/
theorem offerOp_feed {o : Op} {source : FeedSource} {rows : Nat} (ho : o.work = .feed source rows) (s : State) :
    offerOp o s = handOver (.op o) (planFeed s.media.stops s.media.roll.position rows).commanded
      (planFeed s.media.stops s.media.roll.position rows).points
      (startMove (remainderOf o.serial o.owner source (planFeed s.media.stops s.media.roll.position rows).rest) s) := by
  simp only [offerOp, ho]

/-- R72, R73: a CLEAN moves no media. -/
theorem offerOp_clean {o : Op} {strength : Nat} {flush : List (Chan × Nat)} {granted : Bool}
    (ho : o.work = .clean strength flush granted) (s : State) : offerOp o s = handOver (.op o) 0 [] s := by
  simp only [offerOp, ho]

theorem exec_offer (s : State) : exec .offer s = execOffer s := rfl

/-- Settles O41: the arbiter's choice and the hand-over. -/
theorem operationOffered : Obligations.OperationOffered := by
  have hleaves {s t : State} (h : arbitrate s.clearOut = t) : Leaves .offer s t :=
    leaves_of_command (exec_offer s) h
  refine ⟨fun work commanded points s => ⟨_, rfl, handOver_eq work commanded points s⟩, fun f s =>
    ⟨fun b => offerBody_band, fun o source rows => offerBody_feed, fun o strength flush granted => offerBody_clean,
      fun p => offerBody_verify⟩, fun s hbusy => hleaves (arbitrate_busy hbusy),
    fun p s hidle hp h => hleaves (arbitrate_verify hidle hp h), fun s hidle hp h => ?_, fun s hidle hp => ?_⟩
  · have hstopped : s.path.engine ≠ .running ∧ s.path.engine ≠ .paused := by
      obtain h | h := h <;> simp [h]
    exact hleaves ((arbitrate_queue (s := s.clearOut) hidle (.inr hstopped)).trans
      (offerQueued_stays (.inl hstopped.1)))
  · have hqueue {t : State} (h : offerQueued s.clearOut = t) : Leaves .offer s t :=
      hleaves ((arbitrate_queue (s := s.clearOut) hidle (.inl hp)).trans h)
    refine ⟨fun h => hqueue (offerQueued_stays h), fun b rest plan hengine hq hb hplan => ⟨fun hheld hcut => ?_,
      fun h => ?_⟩, fun o rest source rows plan hengine hq ho hplan => ⟨fun hcut => ?_, fun hcut => ?_⟩,
      fun o rest strength flush granted hengine hq ho => ?_⟩
    · subst hplan
      exact hqueue ((offerQueued_band (s := s.clearOut) hengine hq hb).trans (if_pos ⟨hheld, hcut⟩))
    · refine hqueue ((offerQueued_band (s := s.clearOut) hengine hq hb).trans (if_neg ?_))
      rintro ⟨hfree, hcut⟩
      exact h.elim (fun hheld => Bool.false_ne_true (hfree.symm.trans hheld)) hcut
    · subst hplan
      exact hqueue ((offerQueued_feed (s := s.clearOut) hengine hq ho).trans
        ((if_pos hcut).trans (offerOp_feed ho _)))
    · exact hqueue ((offerQueued_feed (s := s.clearOut) hengine hq ho).trans (if_neg (not_not.2 hcut)))
    · exact hqueue ((offerQueued_clean (s := s.clearOut) hengine hq ho).trans (offerOp_clean ho _))

end Sys2Proof.Machine

/-! ## Entry into the head operation queue (R56, R68, R69, R127) -/

namespace Sys2Proof.Machine

/-- R68: the general places are held by the operations that wait, are queued or are in flight, less the remainders in
a band place. -/
theorem placesHeld_eq (s : State) (h : ∀ o ∈ s.path.waiting, o.inBandPlace = false) :
    placesHeld s = (s.path.waiting ++ s.path.queue.filterMap QEntry.op? ++ (flightOp s).toList).countP
      fun o => !o.inBandPlace := by
  have hwaiting : (s.path.waiting.countP fun o => !o.inBandPlace) = s.path.waiting.length :=
    List.countP_eq_length.2 fun o ho => by simp [h o ho]
  rw [List.countP_append, List.countP_append, hwaiting]
  rfl

theorem inBandPlace_eq_false {o : Op} (h : ∀ slot rows, o.work ≠ .feed (.bandRest slot) rows) :
    o.inBandPlace = false := by
  unfold Op.inBandPlace
  split
  · exact absurd ‹_› (h _ _)
  · rfl

/-- R69: the reasons to let a band of an item that has not started enter. -/
theorem depthAllows_iff {s : State} {p : MediaProfile} (hp : s.tables.mediaProfile = some p) (i : Item) (b : Band) :
    depthAllows s i b = true ↔
      (p.startDepth ≤ s.path.store.countP fun a => a.item == b.item && a.state == .reserved) ∨
        i.isClosing = true ∨ ∃ o ∈ s.path.waiting, b.serial < o.serial := by
  simp only [depthAllows, hp, Bool.or_eq_true, decide_eq_true_eq, List.any_eq_true, or_assoc]

section BandEntry

variable {b : Band} {i : Item} {p : MediaProfile} {s : State}

/-- R68, R69, R56, R127: when a band enters the queue. -/
theorem bandReady_iff (hi : findItem s b.item = some i) : bandReady s b = true ↔
    b.state = .reserved ∧ (i.started = true ∨ depthAllows s i b = true) ∧
      (∀ o ∈ s.path.abortWait, o.owner = some b.item) ∧ placeOfBandHeld s b.slot = false := by
  simp only [bandReady, hi, Bool.and_eq_true, beq_iff_eq, Bool.or_eq_true, List.all_eq_true, Bool.not_eq_true',
    and_assoc]

/-- R68, R69: a band enters the end of the queue, and its item has started. -/
def bandEntered (b : Band) (s : State) : State :=
  (s.onItems fun m => { m with live := m.live.map fun k =>
    if k.uid = b.item then { k with started := true } else k }).onPath fun q => { q with
      store := q.store.map fun a => if a.serial = b.serial then { a with state := .queued } else a,
      queue := q.queue ++ [.band b.serial] }

/-- R68: the oldest operation that has not entered the queue is a band. -/
theorem enterQueue_band (hb : (s.path.store.find? fun a => a.waits) = some b)
    (holdest : ∀ o ∈ s.path.waiting.head?, b.serial ≤ o.serial) :
    enterQueue s = if bandReady s b then bandEntered b s else s := by
  cases ho : s.path.waiting.head? with
  | none =>
    simp only [enterQueue, show s.path.store.find? Band.waits = some b from hb, ho]
    rfl
  | some o =>
    have hold : ¬o.serial < b.serial := Nat.not_lt.2 (holdest o ho)
    simp only [enterQueue, show s.path.store.find? Band.waits = some b from hb, ho, if_neg hold]
    rfl

end BandEntry

section OpEntry

variable {o : Op} {more : List Op} {s : State}

/-- R68: the oldest operation that has not entered the queue is no band. -/
theorem enterQueue_op (hwaiting : s.path.waiting = o :: more) (hserial : ∀ w ∈ more, w.serial ≠ o.serial)
    (holdest : ∀ b ∈ s.path.store, b.waits = true → o.serial < b.serial) :
    enterQueue s = if o.ready then s.onPath fun q => { q with waiting := more, queue := q.queue ++ [.op o] }
      else s := by
  have hleft : (s.path.waiting.filter fun w => w.serial != o.serial) = more := by
    rw [hwaiting, List.filter_cons_of_neg (by simp), List.filter_eq_self.2]
    exact fun w hw => by simpa using hserial w hw
  have hhead : s.path.waiting.head? = some o := by rw [hwaiting, List.head?_cons]
  cases hb : s.path.store.find? Band.waits with
  | none => simp only [enterQueue, hb, hhead, State.onPath, hleft]
  | some b =>
    have hold := holdest b (List.mem_of_find?_eq_some hb) (List.find?_some hb)
    simp only [enterQueue, hb, hhead, if_pos hold, State.onPath, hleft]

/-- R68: a CLEAN without its reservation is the only operation that is not ready. -/
theorem ready_iff (o : Op) : o.ready = false ↔ ∃ strength flush, o.work = .clean strength flush false := by
  obtain ⟨serial, owner, work, rest⟩ := o
  cases work with
  | feed source rows => simp [Op.ready]
  | clean strength flush granted => simp [Op.ready]

theorem enterAbortFeed_eq (h : s.path.abortWait = o :: more) : enterAbortFeed s =
    if placesHeld s < 4 then s.onPath fun q => { q with abortWait := more, queue := q.queue ++ [.op o] } else s := by
  have hfree : placeFree s = true ↔ placesHeld s < 4 := decide_eq_true_iff
  simp only [enterAbortFeed, h, hfree]

end OpEntry

/-- Settles O40: the entry of operations into the head operation queue, and the general places. -/
theorem operationsEnterQueue : Obligations.OperationsEnterQueue := by
  refine ⟨fun live s hlive hwaiting => ?_, fun b i p s hb holdest hi hp => ?_,
    fun o more s hwaiting hserial holdest => ?_, fun o more s hwait => ?_⟩
  · have hflight : live = s.path.waiting ++ s.path.queue.filterMap QEntry.op? ++ (flightOp s).toList := by
      rw [hlive, flightOp]
      congr 1
      cases s.path.flight with
      | none => rfl
      | some f => obtain ⟨opId, work, phase, elapsed, commanded, points, reported⟩ := f; cases work <;> rfl
    have hplace (o : Op) : (match o.work with | .feed (.bandRest _) _ => false | _ => true) = !o.inBandPlace := by
      obtain ⟨serial, owner, work, rest⟩ := o
      cases work with
      | feed source rows => cases source <;> rfl
      | clean strength flush granted => rfl
    rw [placesHeld_eq s fun o ho => inBandPlace_eq_false (hwaiting o ho), ← hflight, List.countP_eq_length_filter]
    congr 2
    exact (funext hplace).symm
  · have hstays (hready : bandReady s b = false) : Waits .queueEntry s :=
      waits_of_command (F := enterQueue) rfl ((enterQueue_band (s := s.clearOut) hb holdest).trans
        (if_neg (ne_true_of_eq_false hready)))
    have hnot (h : ¬(b.state = .reserved ∧ (i.started = true ∨ depthAllows s i b = true) ∧
        (∀ o ∈ s.path.abortWait, o.owner = some b.item) ∧ placeOfBandHeld s b.slot = false)) :
        Waits .queueEntry s :=
      hstays (Bool.eq_false_of_not_eq_true fun hready => h ((bandReady_iff hi).1 hready))
    refine ⟨fun ⟨hreserved, habort, hqueue, hrest, hstart⟩ => ?_, fun h => hnot ?_,
      fun hfresh hopen hwaiting hdepth => hnot ?_, fun hheld => hnot ?_⟩
    · have hplace : placeOfBandHeld s b.slot = false := by
        refine Bool.eq_false_of_not_eq_true fun hheld => ?_
        obtain ⟨o, rows, hin | hin, hwork⟩ := (placeOfBandHeld_iff s b.slot).1 hheld
        · exact hqueue _ hin o rfl rows hwork
        · exact hrest o hin rows hwork
      have hdepth : i.started = true ∨ depthAllows s i b = true := by
        rw [depthAllows_iff hp]
        obtain h | h | h | h := hstart <;> simp only [h, true_or, or_true]
      have hready : bandReady s b = true := (bandReady_iff hi).2 ⟨hreserved, hdepth, habort, hplace⟩
      exact leaves_of_command (F := enterQueue) rfl ((enterQueue_band (s := s.clearOut) hb holdest).trans
        (if_pos hready))
    · rintro ⟨hreserved, -, habort, -⟩
      obtain h | ⟨o, ho, howner⟩ := h
      · exact h hreserved
      · exact howner (habort o ho)
    · rintro ⟨-, hstarted | hallowed, -⟩
      · exact Bool.false_ne_true (hfresh.symm.trans hstarted)
      · obtain h | h | ⟨o, ho, hyounger⟩ := (depthAllows_iff hp i b).1 hallowed
        · exact Nat.not_le.2 hdepth h
        · exact Bool.false_ne_true (hopen.symm.trans h)
        · exact Nat.not_le.2 hyounger (hwaiting o ho)
    · rintro ⟨-, -, -, hfree⟩
      exact Bool.false_ne_true (hfree.symm.trans ((placeOfBandHeld_iff s b.slot).2 hheld))
  · have hentry := enterQueue_op (s := s.clearOut) hwaiting hserial holdest
    refine ⟨fun hready => ?_, fun hwaits => ?_⟩
    · refine leaves_of_command (F := enterQueue) rfl (hentry.trans (if_pos (Bool.eq_true_of_not_eq_false fun h => ?_)))
      obtain ⟨strength, flush, hwork⟩ := (ready_iff o).1 h
      exact hready strength flush hwork
    · exact waits_of_command (F := enterQueue) rfl (hentry.trans (if_neg (by simp [(ready_iff o).2 hwaits])))
  · have hentry := enterAbortFeed_eq (s := s.clearOut) hwait
    exact ⟨fun hfree => leaves_of_command (F := enterAbortFeed) rfl (hentry.trans (if_pos hfree)),
      fun hfull => waits_of_command (F := enterAbortFeed) rfl (hentry.trans (if_neg (Nat.not_lt.2 hfull)))⟩

end Sys2Proof.Machine

/-! ## The take of a BAND (R8, R9, R10, R14, R47, R58, R62) -/

namespace Sys2Proof.Machine

/-! ### Its body and its planes (1.8, R62) -/

theorem mem_channelsOf (mask : Nat) (c : Chan) : c ∈ channelsOf mask ↔ mask / 2 ^ c.val % 2 = 1 := by
  simp [channelsOf, Nat.testBit_eq_decide_div_mod_eq]

/-- The channels of a mask come in ascending order. -/
theorem channelsOf_ascending (mask : Nat) : (channelsOf mask).Pairwise fun c d => c < d :=
  (List.pairwise_lt_finRange 12).sublist List.filter_sublist

theorem bandBody_eq_some_iff (body : List Byte) (length : Nat) (b : BandBody) : bandBody body length = some b ↔
    b = { itemId := u8 body 0, rows := u8 body 1, columns := u16 body 2, index := u32 body 4, mask := u16 body 8,
          check := decide (u8 body 10 = 1), layout := u8 body 11 } ∧
    (1 ≤ b.rows ∧ b.rows ≤ 32) ∧ (1 ≤ b.columns ∧ b.columns ≤ 38400) ∧ b.mask < 4096 ∧ u8 body 10 ≤ 1 ∧
    b.layout ≤ 7 ∧ (b.check = false → b.layout = 0) ∧ (∀ k, 12 ≤ k → k < 16 → u8 body k = 0) ∧
    length = 16 + (channelsOf b.mask).length * b.rows * ((b.columns + 3) / 4) := by
  have hflag (hlow : u8 body 10 ≤ 1) : ¬(u8 body 11 ≠ 0 ∧ u8 body 10 = 0) ↔
      (decide (u8 body 10 = 1) = false → u8 body 11 = 0) := by
    simp only [decide_eq_false_iff_not]
    omega
  have hcheck : (u8 body 10 == 1) = decide (u8 body 10 = 1) := rfl
  simp only [bandBody, maskInRange_iff, zeros_iff, rowBytes, hcheck, Option.ite_none_right_eq_some,
    Option.some.injEq]
  constructor
  · rintro ⟨⟨hrows, hrows', hcolumns, hcolumns', hmask, hlow, hlayout, hplain, hzero, hlength⟩, rfl⟩
    exact ⟨rfl, ⟨hrows, hrows'⟩, ⟨hcolumns, hcolumns'⟩, hmask, hlow, hlayout, (hflag hlow).1 hplain, hzero, hlength⟩
  · rintro ⟨rfl, ⟨hrows, hrows'⟩, ⟨hcolumns, hcolumns'⟩, hmask, hlow, hlayout, hplain, hzero, hlength⟩
    exact ⟨⟨hrows, hrows', hcolumns, hcolumns', hmask, hlow, hlayout, (hflag hlow).2 hplain, hzero, hlength⟩, rfl⟩

/-! ### Its waits (R9, R47) -/

/-- R8, R10, R14: a refused BAND's planes will be dropped; a BAD_RECORD is offered to the fault capture. -/
theorem refuseBand_eq (e : IntakeEntry) (status : Status) (s : State) : refuseBand e status s =
    reply e.tag status .empty (s.onLink fun l => { l with
      rx := .dropping,
      capture := if status = .badRecord ∧ l.capture.armed = true then
        { armed := false, bytes := ([0x14#8, 0#8, e.tag, 0#8] ++ leBytes 4 e.length ++ e.body).take 64,
          length := if e.length + 12 ≤ 254 then e.length + 12 else 255, filling := true }
        else l.capture }) := by
  by_cases hstatus : status = .badRecord
  · cases harmed : s.link.capture.armed with
    | true => simp [refuseBand, capture, hstatus, harmed, State.onLink, bandWire, headerBytes, captureBytes]
    | false => simp [refuseBand, capture, hstatus, harmed, State.onLink]
  · simp [refuseBand, hstatus]

section Waits

variable {s : State} {e : IntakeEntry} {i : Item} {p : MediaProfile}

theorem needsLead_iff (hp : s.tables.mediaProfile = some p) : needsLead s i = true ↔
    i.firstRow = none ∧ s.items.planRow ≠ s.items.cutRef ∧ p.cutterEnabled = true := by
  have hblank : blankRun s = 0 ↔ s.items.planRow = s.items.cutRef := Int.sub_eq_zero
  simp only [needsLead, hp, Bool.and_eq_true, Option.isNone_iff_eq_none, decide_eq_true_eq, ne_eq, hblank, and_assoc]

/-- R47, R49: what the close of a full panel needs. -/
theorem closeRoom_eq_true_iff (hp : s.tables.mediaProfile = some p) (hstops : s.media.stops.length ≤ 32) :
    closeRoom s = true ↔ s.tables.lock ≠ some .mediaProfile ∧
      s.media.stops.length + (if p.cutterEnabled = false then 0 else if p.gutter = 0 then 1 else 2) ≤ 32 ∧
      (p.gutter = 0 ∨ placesHeld s + s.path.abortWait.length < 4) := by
  have hpanel : (if p.cutterEnabled = false then 0 else if p.gutter = 0 then 1 else 2) = panelStops p := by
    cases h : p.cutterEnabled <;> simp [panelStops, h]
  rw [hpanel, ← placeFreeForIntake_iff]
  by_cases hlock : s.tables.lock = some .mediaProfile
  · simp [closeRoom, hp, locked, hlock]
  · simp only [closeRoom_iff hp hlock hstops, ne_eq, hlock, not_false_eq_true, true_and]

theorem bandTables_eq_some_iff (s : State) (check : Bool) (m : Vector MapEntry 12) : bandTables s check = some m ↔
    s.tables.channelMap = some m ∧ s.tables.drop ≠ none ∧
      (check = true → s.tables.patch ≠ none ∧ s.tables.tolerance ≠ none) := by
  simp only [bandTables, Option.ite_none_right_eq_some, Option.isSome_iff_ne_none]
  cases check <;> simp [and_comm, and_assoc]

/-- R62, R28: a BAND of which a table is absent. -/
theorem bandTables_eq_none {check : Bool} (h : s.tables.channelMap = none ∨ s.tables.drop = none ∨
    (check = true ∧ (s.tables.patch = none ∨ s.tables.tolerance = none))) : bandTables s check = none := by
  by_contra hsome
  obtain ⟨m, hm⟩ := Option.ne_none_iff_exists'.1 hsome
  obtain ⟨hmap, hdrop, hcheck⟩ := (bandTables_eq_some_iff s check m).1 hm
  obtain h | h | ⟨h, hnone⟩ := h
  · simp [h] at hmap
  · exact hdrop h
  · exact hnone.elim (hcheck h).1 (hcheck h).2

/-- R9, R47: when the owner can take a BAND (log 33). -/
theorem canTakeBand_iff (e : IntakeEntry) (s : State) : canTakeBand e s = true ↔ s.path.store.length < 4 ∧
    ∀ i, itemById s (u8 e.body 0) = some i → (needsLead s i = true → s.media.stops.length < 32) ∧
      (closesPanel s i = true → closeRoom s = true) := by
  have hroom : 0 < stopRoom s ↔ s.media.stops.length < 32 := by
    rw [stopRoom, stopPlaces]
    omega
  cases hi : itemById s (u8 e.body 0) with
  | none => simp [canTakeBand, hi]
  | some i =>
    simp only [canTakeBand, hi, Bool.and_eq_true, decide_eq_true_eq, Bool.or_eq_true, Bool.not_eq_true', hroom,
      Option.some.injEq, forall_eq', ← Bool.not_eq_true, ← imp_iff_not_or]

end Waits

/-! ### Its checks, in their order (R47, R62) -/

section Judge

variable {e : IntakeEntry} {b : BandBody} {s : State}

theorem judgeBand_malformed (h : bandBody e.body e.length = none) : judgeBand e s = refuseBand e .badRecord s := by
  simp only [judgeBand, h]

theorem judgeBand_noTable (hbody : bandBody e.body e.length = some b) (h : bandTables s b.check = none) :
    judgeBand e s = refuseBand e .noTable s := by
  simp only [judgeBand, hbody, h]

variable {m : Vector MapEntry 12}

/-- R62, check 3: a channel that is not enabled, or a band index still in the store. -/
theorem bandClashes_iff (s : State) (b : BandBody) (m : Vector MapEntry 12) : bandClashes s b m = true ↔
    (∃ c ∈ channelsOf b.mask, m[c].enabled = false) ∨
      ∃ a ∈ s.path.store, a.itemId = b.itemId ∧ a.index = b.index := by
  simp [bandClashes]

section Tables

variable (hbody : bandBody e.body e.length = some b) (hm : bandTables s b.check = some m)

include hbody hm

theorem judgeBand_clash (h : bandClashes s b m = true) : judgeBand e s = refuseBand e .badRecord s := by
  simp only [judgeBand, hbody, hm, h, if_true]

theorem judgeBand_item (h : bandClashes s b m = false) : judgeBand e s = judgeBandItem e b m s := by
  simp only [judgeBand, hbody, hm, h, Bool.false_eq_true, if_false]

end Tables

/-- R47, check 1: the item a BAND names must be open. -/
theorem judgeBandItem_unknown (h : ∀ i, itemById s b.itemId = some i → i.isOpen = false) :
    judgeBandItem e b m s = refuseBand e .unknownRef s := by
  cases hi : itemById s b.itemId with
  | none => simp only [judgeBandItem, hi]
  | some i => simp only [judgeBandItem, hi, h i hi, if_true]

variable {i : Item} {p : MediaProfile} (hi : itemById s b.itemId = some i) (hopen : i.isOpen = true)
  (hp : s.tables.mediaProfile = some p)

include hi hopen hp

theorem judgeBandItem_open : judgeBandItem e b m s =
    if i.openRows < p.maxPanel ∧ p.maxPanel < i.openRows + b.rows then refuseBand e .badRecord s
    else if i.rowsReceived + b.rows ≤ i.allowance then acceptBand e b m i s
    else if 32 ≤ s.media.roll.remaining - s.media.roll.reserved then acceptBand e b m i (extendReservation i.uid s)
    else abortItem i.uid .noMedia (refuseBand e .noMedia s) := by
  have hstraddles : straddles s i b.rows = true ↔ i.openRows < p.maxPanel ∧ p.maxPanel < i.openRows + b.rows := by
    simp only [straddles, hp, Bool.and_eq_true, decide_eq_true_eq]
  by_cases h : i.openRows < p.maxPanel ∧ p.maxPanel < i.openRows + b.rows
  · simp only [judgeBandItem, hi, hopen, Bool.true_eq_false, if_false, if_pos (hstraddles.2 h), if_pos h]
  · simp only [judgeBandItem, hi, hopen, Bool.true_eq_false, if_false, if_neg (mt hstraddles.1 h), if_neg h]
    rfl

end Judge

/-- Settles O35: the take of a BAND. -/
theorem bandTaken : Obligations.BandTaken := by
  refine ⟨refuseBand_eq, mem_channelsOf, channelsOf_ascending, bandBody_eq_some_iff, fun i p s hp hstops =>
    ⟨needsLead_iff hp, (closesPanel_iff hp).trans Iff.rfl, closeRoom_eq_true_iff hp hstops⟩, bandTables_eq_some_iff,
    fun s e rest hready hk => ?_⟩
  have hexec : exec .band s = command (take .band canTakeBand judgeBand) s := rfl
  have hwaits (h : ¬(s.path.store.length < 4 ∧ ∀ i, itemById s (u8 e.body 0) = some i →
      (needsLead s i = true → s.media.stops.length < 32) ∧ (closesPanel s i = true → closeRoom s = true))) :
      Waits .band s :=
    waits_of_not_can hexec hready hk (Bool.eq_false_of_not_eq_true fun hcan =>
      h ((canTakeBand_iff e s.clearOut).1 hcan))
  refine ⟨fun hfull => hwaits fun ⟨hroom, _⟩ => Nat.not_le.2 hroom hfull, fun i hi =>
    ⟨fun hlead hfull => hwaits fun ⟨_, hitem⟩ => Nat.not_le.2 ((hitem i hi).1 hlead) hfull,
      fun hcloses hnone => hwaits fun ⟨_, hitem⟩ => Bool.false_ne_true (hnone.symm.trans ((hitem i hi).2 hcloses))⟩,
    fun hroom hitem => ?_⟩
  have hleaves {t : State} (h : judgeBand e (afterTake s rest) = t) : Leaves .band s t :=
    leaves_of_can hexec hready hk ((canTakeBand_iff e s.clearOut).2 ⟨hroom, hitem⟩) h
  refine ⟨fun hbad => hleaves (judgeBand_malformed hbad), fun b hbody => ⟨fun hnone =>
    hleaves (judgeBand_noTable hbody (bandTables_eq_none (s := afterTake s rest) hnone)), fun m hm => ⟨fun hclash =>
      hleaves (judgeBand_clash (s := afterTake s rest) hbody hm ((bandClashes_iff _ b m).2 hclash)),
      fun henabled hfresh => ?_⟩⟩⟩
  have hclear : bandClashes (afterTake s rest) b m = false := by
    refine Bool.eq_false_of_not_eq_true fun hclash => ?_
    obtain ⟨c, hc, hoff⟩ | ⟨a, ha, hsame⟩ := (bandClashes_iff _ b m).1 hclash
    · exact Bool.false_ne_true (hoff.symm.trans (henabled c hc))
    · exact hfresh a ha hsame
  have hjudged {t : State} (h : judgeBandItem e b m (afterTake s rest) = t) : Leaves .band s t :=
    hleaves ((judgeBand_item (s := afterTake s rest) hbody hm hclear).trans h)
  refine ⟨fun hclosed => hjudged (judgeBandItem_unknown hclosed), fun i p hi hopen hp => ?_⟩
  have hbranch := judgeBandItem_open (s := afterTake s rest) (e := e) (m := m) hi hopen hp
  refine ⟨fun hlow hhigh => hjudged (hbranch.trans (if_pos ⟨hlow, hhigh⟩)), fun hfits => ?_⟩
  rw [if_neg hfits] at hbranch
  refine ⟨fun hrows => hjudged (hbranch.trans (if_pos hrows)), fun hbeyond => ?_⟩
  rw [if_neg (Nat.not_le.2 hbeyond)] at hbranch
  exact ⟨fun hshort => hjudged (hbranch.trans (if_neg (Nat.not_le.2 hshort))),
    fun hfree => hjudged (hbranch.trans (if_pos hfree))⟩

end Sys2Proof.Machine

/-! ## Notices in a row, and the accounts under a request (R11, R66, R86, R115) -/

namespace Sys2Proof.Machine

/-! ### Notices in a row -/

/-- R11: the notices `ns` are raised one after another. -/
def raiseAll (ns : List Notice) (s : State) : State := ns.foldl (fun v n => raise n v) s

theorem raiseAll_append (ns ms : List Notice) (s : State) :
    raiseAll (ns ++ ms) s = raiseAll ms (raiseAll ns s) := List.foldl_append

/-- R11: a notice changes the return queue alone, by what that queue, the committed levels and the moment are. -/
theorem raise_eq_of_link (n : Notice) {s t : State} (hl : t.link = s.link) (ht : t.tables = s.tables)
    (hn : t.now = s.now) : raise n t = { t with link := (raise n s).link } := by
  rw [← raise_link_congr n hl ht hn]
  unfold raise
  dsimp only
  split <;> rfl

/-- Notices raised in a state with the same link port, levels and moment have the same effect. -/
theorem raiseAll_eq_of_link (ns : List Notice) {s t : State} (hl : t.link = s.link) (ht : t.tables = s.tables)
    (hn : t.now = s.now) : raiseAll ns t = { t with link := (raiseAll ns s).link } := by
  induction ns generalizing s t with
  | nil => exact hl ▸ rfl
  | cons n ns ih =>
    have hraised := raise_eq_of_link n hl ht hn
    have hrest := ih (s := raise n s) (t := raise n t) (by rw [hraised]) (by simp [ht]) (by simp [hn])
    have hcons (u : State) : raiseAll (n :: ns) u = raiseAll ns (raise n u) := rfl
    rw [hcons, hcons, hrest, hraised]

/-- Raised notices change the link port alone. -/
theorem raiseAll_eq (ns : List Notice) (s : State) : raiseAll ns s = { s with link := (raiseAll ns s).link } :=
  raiseAll_eq_of_link ns rfl rfl rfl

/-- Raised notices leave what the ink station does, and the other way round. -/
theorem raiseAll_onInk (ns : List Notice) (f : InkStation → InkStation) (s : State) :
    raiseAll ns (s.onInk f) = (raiseAll ns s).onInk f := by
  rw [raiseAll_eq_of_link ns (s := s) (t := s.onInk f) rfl rfl rfl, raiseAll_eq ns s]
  rfl

/-! ### The accounts under a list of amounts (R66, R86) -/

/-- What a run over some amounts, each on a channel of its own, makes of the accounts. -/
theorem foldl_mapAccount {α : Type} (chan : α → Chan) (f : α → Account → Account) {l : List α}
    (h : (l.map chan).Nodup) (s : State) :
    (∀ a ∈ l, account (l.foldl (fun s a => mapAccount (chan a) (f a) s) s) (chan a) = f a (account s (chan a))) ∧
    (∀ c, c ∉ l.map chan → account (l.foldl (fun s a => mapAccount (chan a) (f a) s) s) c = account s c) := by
  induction l generalizing s with
  | nil => simp
  | cons b l ih =>
    rw [List.map_cons, List.nodup_cons] at h
    obtain ⟨hfresh, hnodup⟩ := h
    obtain ⟨hnamed, hother⟩ := ih hnodup (mapAccount (chan b) (f b) s)
    simp only [List.foldl_cons, List.map_cons, List.mem_cons, not_or]
    refine ⟨fun a ha => ?_, fun c hc => ?_⟩
    · obtain rfl | ha := ha
      · rw [hother _ hfresh, account_mapAccount]
      · have hne : chan a ≠ chan b := fun heq => hfresh (heq ▸ List.mem_map_of_mem ha)
        rw [hnamed a ha, account_mapAccount_of_ne hne]
    · rw [hother c hc.2, account_mapAccount_of_ne hc.1]

theorem amountOn_of_mem {amounts : List (Chan × Nat)} (h : (amounts.map Prod.fst).Nodup) {a : Chan × Nat}
    (ha : a ∈ amounts) : amountOn amounts a.1 = a.2 := by
  induction amounts with
  | nil => simp at ha
  | cons b amounts ih =>
    rw [List.map_cons, List.nodup_cons] at h
    obtain ⟨hfresh, hnodup⟩ := h
    obtain rfl | ha := List.mem_cons.1 ha
    · simp [amountOn]
    · have hne : b.1 ≠ a.1 := fun heq => hfresh (heq ▸ List.mem_map_of_mem ha)
      rw [← ih hnodup ha]
      simp [amountOn, hne]

theorem amountOn_of_not_mem {amounts : List (Chan × Nat)} {c : Chan} (h : c ∉ amounts.map Prod.fst) :
    amountOn amounts c = 0 := by
  have hnone : (amounts.find? fun a => a.1 == c) = none :=
    List.find?_eq_none.2 fun a ha hac => h (beq_iff_eq.1 hac ▸ List.mem_map_of_mem ha)
  rw [amountOn, hnone]
  rfl

section Amounts

variable {amounts : List (Chan × Nat)} (h : (amounts.map Prod.fst).Nodup)

include h

/-- R66: a grant adds to each channel what the request names on it. -/
theorem account_grantInk (s : State) (c : Chan) : (grantInk amounts s).ink.accounts[c] =
    { s.ink.accounts[c] with reserved := s.ink.accounts[c].reserved + amountOn amounts c } := by
  obtain ⟨hnamed, hother⟩ := foldl_mapAccount Prod.fst (fun a => Account.grant a.2) h s
  by_cases hc : c ∈ amounts.map Prod.fst
  · obtain ⟨a, ha, rfl⟩ := List.mem_map.1 hc
    exact (hnamed a ha).trans (by rw [amountOn_of_mem h ha]; rfl)
  · exact (hother c hc).trans (by rw [amountOn_of_not_mem hc]; rfl)

/-- R67, R86: a release takes from each channel what the request names on it. -/
theorem account_releaseInk (s : State) (c : Chan) : (releaseInk amounts s).ink.accounts[c] =
    { s.ink.accounts[c] with reserved := s.ink.accounts[c].reserved - amountOn amounts c } := by
  obtain ⟨hnamed, hother⟩ := foldl_mapAccount Prod.fst (fun a => Account.release a.2) h s
  by_cases hc : c ∈ amounts.map Prod.fst
  · obtain ⟨a, ha, rfl⟩ := List.mem_map.1 hc
    exact (hnamed a ha).trans (by rw [amountOn_of_mem h ha]; rfl)
  · exact (hother c hc).trans (by rw [amountOn_of_not_mem hc]; rfl)

end Amounts

/-- A grant, and a release, touch the accounts alone. -/
theorem foldl_mapAccount_eq {α : Type} (chan : α → Chan) (f : α → Account → Account) (l : List α) (s : State) :
    l.foldl (fun s a => mapAccount (chan a) (f a) s) s =
      s.onInk fun k => { k with
        accounts := (l.foldl (fun s a => mapAccount (chan a) (f a) s) s).ink.accounts } := by
  induction l generalizing s with
  | nil => rfl
  | cons b l ih => exact ih (mapAccount (chan b) (f b) s)

/-! ### The wait flags, channel by channel (R115) -/

section Flags

variable {f : Chan → State → State} {notice : Chan → State → Option Notice} {flag : Chan → State → Bool}
  (hstep : ∀ c s, f c s = raiseAll (notice c s).toList (setWait c (flag c s) s))
  (hlocal : ∀ c (s t : State), t.ink.accounts = s.ink.accounts → t.ink.slots = s.ink.slots →
    t.ink.waits[c] = s.ink.waits[c] → notice c t = notice c s ∧ flag c t = flag c s)

include hstep hlocal

/-- R115: a run over some channels that sets one wait flag a channel raises its notices in their order. -/
theorem forChannels_waitFlags {cs : List Chan} (h : cs.Nodup) (s : State) : forChannels cs f s =
    (raiseAll (cs.filterMap fun c => notice c s) s).onInk fun k => { k with
      waits := cs.foldl (fun w c => w.set c.val (flag c s)) k.waits } := by
  induction cs generalizing s with
  | nil => rfl
  | cons c cs ih =>
    rw [List.nodup_cons] at h
    obtain ⟨hfresh, hnodup⟩ := h
    have hink : (f c s).ink = (setWait c (flag c s) s).ink := by rw [hstep, raiseAll_eq]
    have hsame (d : Chan) (hd : d ∈ cs) : notice d (f c s) = notice d s ∧ flag d (f c s) = flag d s := by
      have hne : c.val ≠ d.val := fun heq => hfresh (Fin.ext heq ▸ hd)
      refine hlocal d s (f c s) (by rw [hink]; rfl) (by rw [hink]; rfl) ?_
      simp [hink, setWait, Vector.getElem_set_ne _ _ hne]
    have hnotices : (cs.filterMap fun d => notice d (f c s)) = cs.filterMap fun d => notice d s :=
      List.filterMap_congr fun d hd => (hsame d hd).1
    have hflags (w : Vector Bool 12) : cs.foldl (fun w d => w.set d.val (flag d (f c s))) w =
        cs.foldl (fun w d => w.set d.val (flag d s)) w :=
      List.foldl_ext _ _ _ fun w d hd => by rw [(hsame d hd).2]
    have hrun : forChannels (c :: cs) f s = forChannels cs f (f c s) := rfl
    have hall : ((c :: cs).filterMap fun d => notice d s) =
        (notice c s).toList ++ cs.filterMap fun d => notice d s := by
      cases hc : notice c s <;> simp [hc]
    rw [hrun, ih hnodup, hnotices, hall, raiseAll_append]
    simp only [hflags]
    rw [hstep, setWait, raiseAll_onInk, raiseAll_onInk]
    rfl

/-- R115: what a run over every channel makes of the flags. -/
theorem forChannels_allFlags (s : State) : forChannels (List.finRange 12) f s =
    (raiseAll ((List.finRange 12).filterMap fun c => notice c s) s).onInk fun k => { k with
      waits := .ofFn fun c => flag c s } := by
  have hset (cs : List Chan) (w : Vector Bool 12) (d : Chan) :
      (cs.foldl (fun w c => w.set c.val (flag c s)) w)[d] = if d ∈ cs then flag d s else w[d] := by
    induction cs generalizing w with
    | nil => simp
    | cons c cs ih =>
      rw [List.foldl_cons, ih]
      by_cases hd : d ∈ cs
      · simp [hd]
      · by_cases heq : c = d
        · subst heq
          simp [hd]
        · have hval : c.val ≠ d.val := fun h => heq (Fin.ext h)
          simp [hd, Ne.symm heq, Vector.getElem_set_ne _ _ hval]
  rw [forChannels_waitFlags hstep hlocal (List.nodup_finRange 12)]
  congr 1
  funext k
  congr 1
  ext n hn
  have hn' := hset (List.finRange 12) k.waits ⟨n, hn⟩
  simpa using hn'

end Flags

/-- R115: the notice of a flag that ends. -/
def endNotice (who : Asker) (amounts : List (Chan × Nat)) (c : Chan) (s : State) : Option Notice :=
  if s.ink.waits[c] then some (.waitEnd (waitBody who amounts c s)) else none

/-- R115: the notice of one channel at a decline. -/
def declineNotice (who : Asker) (amounts : List (Chan × Nat)) (c : Chan) (s : State) : Option Notice :=
  if (account s c).available < amountOn amounts c then
    (if s.ink.waits[c] then none else some (.waitStart (waitBody who amounts c s)))
  else endNotice who amounts c s

theorem setWait_self {c : Chan} {v : Bool} {s : State} (h : s.ink.waits[c] = v) : setWait c v s = s := by
  have hself : s.ink.waits.set c.val v = s.ink.waits := by
    subst h
    simp
  simp only [setWait, State.onInk, hself]

theorem endWait_eq (who : Asker) (amounts : List (Chan × Nat)) (c : Chan) (s : State) :
    endWait who amounts c s = raiseAll (endNotice who amounts c s).toList (setWait c false s) := by
  unfold endWait endNotice
  split
  · rfl
  · next h => exact (setWait_self (Bool.eq_false_of_not_eq_true h)).symm

theorem declineWait_eq (who : Asker) (amounts : List (Chan × Nat)) (c : Chan) (s : State) :
    declineWait who amounts c s = raiseAll (declineNotice who amounts c s).toList
      (setWait c (decide ((account s c).available < amountOn amounts c)) s) := by
  unfold declineWait declineNotice
  by_cases h : (account s c).available < amountOn amounts c
  · simp only [if_pos h, decide_eq_true h, startWait]
    split
    · next hset => exact (setWait_self hset).symm
    · rfl
  · simp only [if_neg h, decide_eq_false h, endWait_eq]

theorem account_of_accounts {s t : State} (h : t.ink.accounts = s.ink.accounts) (c : Chan) :
    account t c = account s c := by
  rw [account, h, account]

theorem waitBody_congr (who : Asker) (amounts : List (Chan × Nat)) {c : Chan} {s t : State}
    (haccounts : t.ink.accounts = s.ink.accounts) (hslots : t.ink.slots = s.ink.slots) :
    waitBody who amounts c t = waitBody who amounts c s := by
  simp only [waitBody, account, slot, haccounts, hslots]

theorem endNotice_congr (who : Asker) (amounts : List (Chan × Nat)) {c : Chan} {s t : State}
    (haccounts : t.ink.accounts = s.ink.accounts) (hslots : t.ink.slots = s.ink.slots)
    (hwaits : t.ink.waits[c] = s.ink.waits[c]) : endNotice who amounts c t = endNotice who amounts c s := by
  simp only [endNotice, waitBody_congr who amounts haccounts hslots, hwaits]

theorem declineNotice_congr (who : Asker) (amounts : List (Chan × Nat)) {c : Chan} {s t : State}
    (haccounts : t.ink.accounts = s.ink.accounts) (hslots : t.ink.slots = s.ink.slots)
    (hwaits : t.ink.waits[c] = s.ink.waits[c]) :
    declineNotice who amounts c t = declineNotice who amounts c s := by
  simp only [declineNotice, waitBody_congr who amounts haccounts hslots, endNotice_congr who amounts haccounts hslots
    hwaits, hwaits]
  rw [account_of_accounts haccounts]

/-- R115: every set flag is cleared, its WAIT_END showing the accounts as they then are. -/
theorem endWaits_eq (who : Asker) (amounts : List (Chan × Nat)) (s : State) : endWaits who amounts s =
    (raiseAll (waitEnds who amounts s.ink.accounts s) s).onInk fun k => { k with
      waits := Vector.replicate 12 false, waitAsker := none } := by
  have hclear : (Vector.ofFn fun _ => false : Vector Bool 12) = Vector.replicate 12 false := by
    ext n hn
    simp
  rw [endWaits, forChannels_allFlags (endWait_eq who amounts) (flag := fun _ _ => false) fun c s t haccounts hslots
    hwaits => ⟨endNotice_congr who amounts haccounts hslots hwaits, rfl⟩, hclear]
  rfl

/-- R115: the flags of a decline stand on the channels whose amount exceeds their available ink. -/
theorem declineWaits_eq (serial : Nat) (who : Asker) (amounts : List (Chan × Nat)) (s : State) :
    declineWaits serial who amounts s =
      (raiseAll (declineNotices who amounts s) s).onInk fun k => { k with
        waits := .ofFn fun c => decide ((account s c).available < amountOn amounts c),
        waitAsker := some serial } := by
  rw [declineWaits, forChannels_allFlags (declineWait_eq who amounts)
    (flag := fun c s => decide ((account s c).available < amountOn amounts c)) fun c s t haccounts hslots hwaits =>
      ⟨declineNotice_congr who amounts haccounts hslots hwaits, by rw [account_of_accounts haccounts]⟩]
  rfl

end Sys2Proof.Machine

/-! ## INK_REQUEST (R66, R84, R86, R115) -/

namespace Sys2Proof.Machine

/-! ### The asker (R66) -/

/-- R66: the CLEANs that wait for an answer. -/
theorem filterMap_request? {ops cleans : List Op} (h : cleans = ops.filter fun o => match o.work with
    | .clean _ _ false => true
    | _ => false) :
    ops.filterMap Op.request? = cleans.filterMap Op.request? ∧
      ∀ o ∈ cleans, ∃ flush,
        o.request? = some { serial := o.serial, who := .clean, amounts := flush, ready := true } := by
  subst h
  induction ops with
  | nil => simp
  | cons o ops ih =>
    obtain ⟨hall, hasks⟩ := ih
    obtain ⟨serial, owner, work, rest⟩ := o
    match work with
    | .feed source rows => exact ⟨hall, hasks⟩
    | .clean strength flush true => exact ⟨hall, hasks⟩
    | .clean strength flush false =>
      refine ⟨?_, fun o ho => ?_⟩
      · simp [Op.request?, hall]
      · obtain rfl | ho := List.mem_cons.1 ho
        · exact ⟨flush, rfl⟩
        · exact hasks o ho

section Asker

variable {s : State} {cleans : List Op} {oldest : Option Band}
  (hcleans : s.path.waiting.filterMap Op.request? = cleans.filterMap Op.request?)
  (holdest : oldest = s.path.store.find? fun b => !b.holdsInk)

include hcleans holdest

theorem asker_none (hnone : oldest = none) (hempty : cleans = []) : asker s = none := by
  subst hempty
  simp only [asker, ← holdest, hnone, hcleans, List.filterMap_nil, List.head?_nil, Option.map_none]

/-- R66: the band asks, where no CLEAN that asks is older. -/
theorem asker_band {b : Band} (hb : oldest = some b)
    (hasks : ∀ o ∈ cleans, ∃ flush,
      o.request? = some { serial := o.serial, who := .clean, amounts := flush, ready := true })
    (hage : ∀ o ∈ cleans.head?, b.serial ≤ o.serial) : asker s = some b.request := by
  cases cleans with
  | nil => simp only [asker, ← holdest, hb, hcleans, List.filterMap_nil, List.head?_nil, Option.map_some]
  | cons o more =>
    obtain ⟨flush, ho⟩ := hasks o (by simp)
    have hyounger : ¬o.serial < b.serial := Nat.not_lt.2 (hage o rfl)
    simp only [asker, ← holdest, hb, hcleans, List.filterMap_cons, ho, List.head?_cons, Option.map_some]
    exact if_neg hyounger

/-- R66: the oldest CLEAN that asks, where no band that asks is older. -/
theorem asker_clean {o : Op} {more : List Op} {r : Request} (ho : cleans = o :: more) (hr : o.request? = some r)
    (hage : ∀ b, oldest = some b → r.serial < b.serial) : asker s = some r := by
  subst ho
  cases hb : oldest with
  | none => simp only [asker, ← holdest, hb, hcleans, List.filterMap_cons, hr, List.head?_cons, Option.map_none]
  | some b =>
    simp only [asker, ← holdest, hb, hcleans, List.filterMap_cons, hr, List.head?_cons, Option.map_some]
    exact if_pos (hage b hb)

end Asker

/-! ### The answer (R66, R86, R115) -/

theorem grantable_iff (s : State) (amounts : List (Chan × Nat)) : grantable s amounts = true ↔
    ∀ a ∈ amounts, a.2 = 0 ∨ a.2 ≤ s.ink.accounts[a.1].subTank - (150000 + s.ink.accounts[a.1].reserved) := by
  simp only [grantable, List.all_eq_true, Bool.or_eq_true, beq_iff_eq, decide_eq_true_eq]
  rfl

theorem waitEnds_congr (who : Asker) (amounts : List (Chan × Nat)) (accounts : Vector Account 12) {s t : State}
    (hwaits : t.ink.waits = s.ink.waits) (hslots : t.ink.slots = s.ink.slots) :
    waitEnds who amounts accounts t = waitEnds who amounts accounts s := by
  simp only [waitEnds, waitOf, hwaits, hslots]

theorem declineNotices_congr (who : Asker) (amounts : List (Chan × Nat)) {s t : State} (h : t.ink = s.ink) :
    declineNotices who amounts t = declineNotices who amounts s := by
  simp only [declineNotices, waitOf, h]

/-- R66: the asker in the state of its answer. -/
theorem settleAsker_spec (r : Request) (granted : Bool) (s : State) :
    (settleAsker r granted s).ink = s.ink ∧
    settleAsker r granted s = { s with path := (settleAsker r granted s).path } ∧
    (settleAsker r granted s).path.queue = s.path.queue ∧ (settleAsker r granted s).path.flight = s.path.flight ∧
    (∀ id index, r.who = .band id index → (settleAsker r granted s).path.store = s.path.store.map fun b =>
      if b.serial = r.serial then { b with state := if granted then .reserved else .waitInk } else b) ∧
    (r.who = .clean → (settleAsker r granted s).path.store = s.path.store ∧
      (granted = true → (settleAsker r granted s).path.waiting = s.path.waiting.map (Op.markGranted r.serial)) ∧
      (granted = false → settleAsker r granted s = s)) := by
  unfold settleAsker
  cases r.who with
  | band id index => simp [mapBand, State.onPath]
  | clean => cases granted <;> simp [State.onPath]

section Answer

variable {r : Request} {s : State}

/-- R66: a grant is booked and its asker told before the wait flags are cleared. -/
def granted (r : Request) (s : State) : State := settleAsker r true (grantInk r.amounts s)

theorem answerRequest_granted (h : grantable s r.amounts = true) : answerRequest r s =
    (raiseAll (waitEnds r.who r.amounts (granted r s).ink.accounts (granted r s)) (granted r s)).onInk fun k => { k with
      waits := Vector.replicate 12 false, waitAsker := none } :=
  (if_pos h).trans (endWaits_eq r.who r.amounts (granted r s))

theorem answerRequest_declined (h : grantable s r.amounts = false) : answerRequest r s =
    (raiseAll (declineNotices r.who r.amounts (settleAsker r false s)) (settleAsker r false s)).onInk fun k => { k with
      waits := .ofFn fun c => decide ((account (settleAsker r false s) c).available < amountOn r.amounts c),
      waitAsker := some r.serial } :=
  (if_neg (by simp [h])).trans (declineWaits_eq r.serial r.who r.amounts (settleAsker r false s))

theorem answerRequest_keeps (r : Request) (s : State) : (answerRequest r s).ink.slots = s.ink.slots ∧
    (answerRequest r s).path.queue = s.path.queue ∧ (answerRequest r s).path.flight = s.path.flight := by
  have hgrant : (grantInk r.amounts s).ink.slots = s.ink.slots := by
    rw [grantInk, foldl_mapAccount_eq]
    rfl
  cases h : grantable s r.amounts with
  | true =>
    obtain ⟨hink, -, hqueue, hflight, -⟩ := settleAsker_spec r true (grantInk r.amounts s)
    rw [answerRequest_granted h, raiseAll_eq]
    refine ⟨?_, ?_, ?_⟩
    · simpa [granted, hink] using hgrant
    · simpa [granted] using hqueue
    · simpa [granted] using hflight
  | false =>
    obtain ⟨hink, -, hqueue, hflight, -⟩ := settleAsker_spec r false s
    rw [answerRequest_declined h, raiseAll_eq]
    exact ⟨show (settleAsker r false s).ink.slots = _ by rw [hink], hqueue, hflight⟩

/-- R66, R115: what a grant leaves: the accounts, the flags, the return queue and the asker. -/
theorem answerRequest_granted_spec (h : grantable s r.amounts = true) (hnodup : (r.amounts.map Prod.fst).Nodup) :
    (∀ c : Chan, (answerRequest r s).ink.accounts[c] =
      { s.ink.accounts[c] with reserved := s.ink.accounts[c].reserved + amountOn r.amounts c }) ∧
    (answerRequest r s).ink.waits = Vector.replicate 12 false ∧ (answerRequest r s).ink.waitAsker = none ∧
    (answerRequest r s).link = (raiseAll (waitEnds r.who r.amounts (answerRequest r s).ink.accounts s) s).link ∧
    (answerRequest r s).path = (settleAsker r true s).path := by
  have hgrant : grantInk r.amounts s = s.onInk fun k => { k with accounts := (grantInk r.amounts s).ink.accounts } :=
    foldl_mapAccount_eq Prod.fst (fun a => Account.grant a.2) r.amounts s
  have hasker : granted r s =
      (settleAsker r true s).onInk fun k => { k with accounts := (grantInk r.amounts s).ink.accounts } := by
    rw [granted, hgrant]
    unfold settleAsker
    cases r.who <;> rfl
  obtain ⟨-, hrest, -⟩ := settleAsker_spec r true s
  have haccounts : (answerRequest r s).ink.accounts = (grantInk r.amounts s).ink.accounts := by
    rw [answerRequest_granted h, raiseAll_eq, hasker]
    rfl
  have hnotices : waitEnds r.who r.amounts (granted r s).ink.accounts (granted r s) =
      waitEnds r.who r.amounts (answerRequest r s).ink.accounts s := by
    have hbooked : (granted r s).ink.accounts = (grantInk r.amounts s).ink.accounts := by rw [hasker]; rfl
    rw [hbooked, haccounts]
    exact waitEnds_congr _ _ _ (by rw [hasker]; simp) (by rw [hasker]; simp)
  refine ⟨fun c => ?_, ?_, ?_, ?_, ?_⟩
  · rw [haccounts]
    exact account_grantInk hnodup s c
  · rw [answerRequest_granted h]
    rfl
  · rw [answerRequest_granted h]
    rfl
  · rw [← hnotices, answerRequest_granted h]
    rw [raiseAll_eq_of_link (s := s) (t := granted r s)]
    · rfl
    all_goals
      rw [hasker, hrest]
      rfl
  · rw [answerRequest_granted h, raiseAll_eq, hasker]
    rfl

/-- R66, R115: what a decline leaves. -/
theorem answerRequest_declined_spec (h : grantable s r.amounts = false) :
    (answerRequest r s).ink.accounts = s.ink.accounts ∧
    (∀ c : Chan, (answerRequest r s).ink.waits[c] = decide ((account s c).available < amountOn r.amounts c)) ∧
    (answerRequest r s).ink.waitAsker = some r.serial ∧
    (answerRequest r s).link = (raiseAll (declineNotices r.who r.amounts s) s).link ∧
    (answerRequest r s).path = (settleAsker r false s).path := by
  obtain ⟨hink, hrest, -⟩ := settleAsker_spec r false s
  have haccount (c : Chan) : account (settleAsker r false s) c = account s c := account_congr hink c
  rw [answerRequest_declined h, declineNotices_congr r.who r.amounts hink,
    raiseAll_eq_of_link _ (s := s) (t := settleAsker r false s) (by rw [hrest]) (by rw [hrest]) (by rw [hrest])]
  refine ⟨?_, fun c => ?_, rfl, rfl, rfl⟩
  · exact show (settleAsker r false s).ink.accounts = _ by rw [hink]
  · simp [haccount]

end Answer

theorem exec_inkRequest (s : State) : exec .inkRequest s = execInkRequest s := rfl

/-- R129: the look at the run-out wait leaves all of the media but that wait. -/
theorem keepRunOut_media (s : State) :
    (keepRunOut s).media = { s.media with runOut := (keepRunOut s).media.runOut } := by
  unfold keepRunOut
  split <;> rfl

theorem onlyChanges_answerRequest (r : Request) (s : State) :
    OnlyChanges [.link, .path, .ink, .media] s (keepRunOut (answerRequest r s.clearOut)) := by
  refine ⟨by simp, by simp, fun b hb => ?_⟩
  cases b <;> simp_all [SameBlock]

/-- Settles O39: the asker, and the answer to its request. -/
theorem inkRequested : Obligations.InkRequested := by
  refine ⟨fun cleans oldest s hcleans holdest => ?_, fun r s hr => ⟨fun h => ?_, fun hready hlock hnodup => ?_⟩⟩
  · have hholds (b : Band) : (b.state != .reserved && b.state != .queued && b.state != .inFlight) = !b.holdsInk := by
      simp only [Band.holdsInk, Bool.not_or, bne]
    simp only [hholds] at holdest
    obtain ⟨hall, hasks⟩ := filterMap_request? hcleans
    refine ⟨fun hnone hempty => ⟨asker_none hall holdest hnone hempty, ?_⟩,
      fun b hb hage => asker_band hall holdest hb hasks hage, fun o more strength flush ho hwork hage => ?_⟩
    · refine waits_of_command (exec_inkRequest s) ?_
      simp only [show asker s.clearOut = none from asker_none hall holdest hnone hempty]
    · exact asker_clean hall holdest ho (by simp only [Op.request?, hwork]) hage
  · refine waits_of_command (exec_inkRequest s) ?_
    simp only [show asker s.clearOut = some r from hr]
    refine if_neg fun ⟨hready, hfree⟩ => ?_
    obtain h | h := h
    · exact Bool.false_ne_true (h.symm.trans hready)
    · simp [locked, h] at hfree
  · have hfree : locked s.clearOut .channelMap = false := by simpa [locked] using hlock
    have hexec : exec .inkRequest s = .next (keepRunOut (answerRequest r s.clearOut)) := by
      refine leaves_of_command (exec_inkRequest s) ?_
      simp only [show asker s.clearOut = some r from hr]
      exact if_pos ⟨hready, hfree⟩
    obtain ⟨hslots, hqueue, hflight⟩ := answerRequest_keeps r s.clearOut
    refine ⟨_, hexec, onlyChanges_answerRequest r s, ?_, ?_, ?_, ?_, fun hfits => ?_, fun hshort => ?_⟩
    · rw [keepRunOut_media]
      simp
    · simpa using hslots
    · simpa using hqueue
    · simpa using hflight
    · have hgrantable : grantable s.clearOut r.amounts = true := (grantable_iff _ _).2 hfits
      obtain ⟨haccounts, hwaits, hasker, hlink, hpath⟩ := answerRequest_granted_spec hgrantable hnodup
      obtain ⟨-, -, -, -, hband, hclean⟩ := settleAsker_spec r true s.clearOut
      simp only [keepRunOut_frame]
      refine ⟨haccounts, fun c => by simp [hwaits], hasker, ?_, fun id index hwho => ?_, fun hwho => ?_⟩
      · rw [hlink, raiseAll_eq_of_link (s := s) (t := s.clearOut) _ rfl rfl rfl]
        rfl
      · rw [hpath]
        exact hband id index hwho
      · obtain ⟨hstore, hmarked, -⟩ := hclean hwho
        rw [hpath]
        exact ⟨hstore, hmarked rfl⟩
    · have hnot : grantable s.clearOut r.amounts = false := by
        refine Bool.eq_false_of_not_eq_true fun hgrantable => ?_
        obtain ⟨a, ha, hsome, hbeyond⟩ := hshort
        exact ((grantable_iff _ _).1 hgrantable a ha).elim hsome (Nat.not_le.2 hbeyond)
      obtain ⟨haccounts, hwaits, hasker, hlink, hpath⟩ := answerRequest_declined_spec hnot
      obtain ⟨-, -, -, -, hband, hclean⟩ := settleAsker_spec r false s.clearOut
      simp only [keepRunOut_frame]
      refine ⟨haccounts, hwaits, hasker, ?_, fun id index hwho => ?_, fun hwho => ?_⟩
      · rw [hlink, raiseAll_eq_of_link (s := s) (t := s.clearOut) _ rfl rfl rfl]
        rfl
      · rw [hpath]
        exact hband id index hwho
      · obtain ⟨-, -, hsame⟩ := hclean hwho
        rw [hpath, hsame rfl]
        rfl

end Sys2Proof.Machine

/-! ## The planes of a band at its count (R64, R65) -/

namespace Sys2Proof.Machine

/-! ### One byte: four pixels of two bits (1.8, R64) -/

theorem pixel_lt (b : Byte) (k : Nat) : pixel b k < 4 := Nat.mod_lt _ (by decide)

theorem mapLevel_val (levels : Vector Nat 4) (k : Fin 4) : mapLevel levels k.val = levels[k] := by
  simp [mapLevel, List.getD_eq_getElem?_getD]

theorem mapLevel_lt {levels : Vector Nat 4} (h : ∀ k : Fin 4, levels[k] ≤ 3) {sent : Nat} (hsent : sent < 4) :
    mapLevel levels sent < 4 :=
  Nat.lt_succ_of_le ((mapLevel_val levels ⟨sent, hsent⟩).trans_le (h ⟨sent, hsent⟩))

/-- The four base-4 digits of a byte are its pixels. -/
theorem digit_of_sum {d0 d1 d2 d3 : Nat} (h0 : d0 < 4) (h1 : d1 < 4) (h2 : d2 < 4) (h3 : d3 < 4) {k : Nat}
    (hk : k < 4) :
    pixel (BitVec.ofNat 8 (0 + d0 * 4 ^ 0 + d1 * 4 ^ 1 + d2 * 4 ^ 2 + d3 * 4 ^ 3)) k = [d0, d1, d2, d3].getD k 0 := by
  have hbyte : (0 + d0 * 4 ^ 0 + d1 * 4 ^ 1 + d2 * 4 ^ 2 + d3 * 4 ^ 3) % 2 ^ 8 =
      d0 + 4 * d1 + 16 * d2 + 64 * d3 := by omega
  rw [pixel, BitVec.toNat_ofNat, hbyte]
  match k, hk with
  | 0, _ => simp; omega
  | 1, _ => simp; omega
  | 2, _ => simp; omega
  | 3, _ => simp; omega

/-- R64: the pixels of a byte before the end of the row are rewritten through the level map, the padding is left. -/
theorem pixel_mapByte {levels : Vector Nat 4} (h : ∀ k : Fin 4, levels[k] ≤ 3) (n : Nat) (b : Byte) {k : Nat}
    (hk : k < 4) : pixel (mapByte levels n b) k = if k < n then mapLevel levels (pixel b k) else pixel b k := by
  have hdigit (j : Nat) : (if j < n then mapLevel levels (pixel b j) else pixel b j) < 4 := by
    split
    · exact mapLevel_lt h (pixel_lt b j)
    · exact pixel_lt b j
  have hdigits := digit_of_sum (hdigit 0) (hdigit 1) (hdigit 2) (hdigit 3) hk
  refine Eq.trans hdigits ?_
  match k, hk with
  | 0, _ | 1, _ | 2, _ | 3, _ => rfl

/-! ### One row -/

theorem length_mapRow (levels : Vector Nat 4) (columns : Nat) (row : List Byte) :
    (mapRow levels columns row).length = row.length := by
  induction row generalizing columns with
  | nil => rfl
  | cons b row ih => simp [mapRow, ih]

theorem getD_mapRow (levels : Vector Nat 4) (columns : Nat) (row : List Byte) {j : Nat} (hj : j < row.length) :
    (mapRow levels columns row).getD j 0#8 = mapByte levels (min (columns - 4 * j) 4) (row.getD j 0#8) := by
  induction row generalizing columns j with
  | nil => simp at hj
  | cons b row ih =>
    cases j with
    | zero => rfl
    | succ j =>
      have hrest : columns - 4 * (j + 1) = columns - 4 - 4 * j := by omega
      rw [hrest]
      exact ih (columns - 4) (Nat.lt_of_succ_lt_succ hj)

/-! ### A plane of whole rows -/

section Plane

variable (levels : Vector Nat 4) (columns : Nat)

theorem length_mapPlane {rows : Nat} {plane : List Byte} (h : plane.length = rows * rowBytes columns) :
    (mapPlane levels columns rows plane).length = plane.length := by
  induction rows generalizing plane with
  | zero => simp [mapPlane, h]
  | succ rows ih =>
    rw [Nat.succ_mul] at h
    rw [mapPlane, List.length_append, length_mapRow, ih (by rw [List.length_drop]; omega), List.length_take,
      List.length_drop]
    omega

/-- R64: byte `j` of row `r` of a rewritten plane. -/
theorem getD_mapPlane {rows : Nat} {plane : List Byte} (h : plane.length = rows * rowBytes columns) {r j : Nat}
    (hr : r < rows) (hj : j < rowBytes columns) :
    (mapPlane levels columns rows plane).getD (r * rowBytes columns + j) 0#8 =
      mapByte levels (min (columns - 4 * j) 4) (plane.getD (r * rowBytes columns + j) 0#8) := by
  induction rows generalizing plane r with
  | zero => simp at hr
  | succ rows ih =>
    rw [Nat.succ_mul] at h
    have hfirst : (mapRow levels columns (plane.take (rowBytes columns))).length = rowBytes columns := by
      rw [length_mapRow, List.length_take]
      omega
    cases r with
    | zero =>
      have htake : j < (plane.take (rowBytes columns)).length := by
        rw [List.length_take]
        omega
      rw [mapPlane, Nat.zero_mul, Nat.zero_add, List.getD_append _ _ _ _ (by omega),
        getD_mapRow levels columns _ htake]
      simp [List.getD_eq_getElem?_getD, hj]
    | succ r =>
      have hindex : (r + 1) * rowBytes columns + j = rowBytes columns + (r * rowBytes columns + j) := by
        rw [Nat.succ_mul]
        omega
      rw [mapPlane, hindex, List.getD_append_right _ _ _ _ (by omega), hfirst, Nat.add_sub_cancel_left,
        ih (by rw [List.length_drop]; omega) (Nat.lt_of_succ_lt_succ hr)]
      simp [List.getD_eq_getElem?_getD]

/-- R64: the level of a pixel of a rewritten plane. -/
theorem levelAt_mapPlane (hlevels : ∀ k : Fin 4, levels[k] ≤ 3) {rows : Nat} {plane : List Byte}
    (h : plane.length = rows * rowBytes columns) {r x : Nat} (hr : r < rows) (hx : x < 4 * rowBytes columns) :
    levelAt columns (mapPlane levels columns rows plane) r x =
      if x < columns then mapLevel levels (levelAt columns plane r x) else levelAt columns plane r x := by
  have hj : x / 4 < rowBytes columns := by omega
  have hpixel : levelAt columns (mapPlane levels columns rows plane) r x =
      pixel ((mapPlane levels columns rows plane).getD (r * rowBytes columns + x / 4) 0#8) (x % 4) := rfl
  have hplace : x % 4 < min (columns - 4 * (x / 4)) 4 ↔ x < columns := by omega
  rw [hpixel, getD_mapPlane levels columns h hr hj, pixel_mapByte hlevels _ _ (Nat.mod_lt _ (by decide))]
  simp only [hplace]
  rfl

end Plane

/-! ### The drop counts (R64) -/

theorem length_filter_range_split (p : Nat → Bool) {m n : Nat} (h : m ≤ n) :
    ((List.range n).filter p).length =
      ((List.range m).filter p).length + ((List.range (n - m)).filter fun k => p (m + k)).length := by
  obtain ⟨k, rfl⟩ := Nat.exists_eq_add_of_le h
  rw [Nat.add_sub_cancel_left, List.range_add, List.filter_append, List.length_append, List.filter_map,
    List.length_map]
  rfl

/-- R64: the pixels of a level in a row, which ends in the row's last byte. -/
theorem countRow_eq (level columns : Nat) {row : List Byte} (h : columns ≤ 4 * row.length) :
    countRow level columns row =
      ((List.range columns).filter fun x => pixel (row.getD (x / 4) 0#8) (x % 4) == level).length := by
  induction row generalizing columns with
  | nil =>
    obtain rfl : columns = 0 := by simpa using h
    rfl
  | cons b row ih =>
    rw [List.length_cons] at h
    rw [countRow, length_filter_range_split _ (Nat.min_le_left columns 4), ih (columns - 4) (by omega)]
    congr 1
    · refine congrArg List.length (List.filter_congr fun x hx => ?_)
      have hlt : x < 4 := (List.mem_range.1 hx).trans_le (Nat.min_le_right _ _)
      rw [Nat.div_eq_of_lt hlt, Nat.mod_eq_of_lt hlt]
      rfl
    · obtain hshort | hlong := Nat.le_total columns 4
      · simp [Nat.sub_eq_zero_of_le hshort, Nat.min_eq_left hshort]
      · rw [Nat.min_eq_right hlong]
        refine congrArg List.length (List.filter_congr fun x _ => ?_)
        rw [show (4 + x) / 4 = x / 4 + 1 by omega, show (4 + x) % 4 = x % 4 by omega]
        rfl

/-- R64: the pixels of a level in the first rows of a plane. -/
theorem countRows_eq (level columns : Nat) {n : Nat} {plane : List Byte} (h : n * rowBytes columns ≤ plane.length) :
    countRows level columns n plane = ((List.range n).map fun r =>
      ((List.range columns).filter fun x => levelAt columns plane r x == level).length).sum := by
  induction n generalizing plane with
  | zero => rfl
  | succ n ih =>
    rw [Nat.succ_mul] at h
    have hrow : columns ≤ 4 * (plane.take (rowBytes columns)).length := by
      have hwhole : columns ≤ 4 * rowBytes columns := by
        rw [rowBytes]
        omega
      rw [List.length_take]
      omega
    rw [countRows, countRow_eq level columns hrow, ih (by rw [List.length_drop]; omega), List.range_succ_eq_map,
      List.map_cons, List.sum_cons, List.map_map]
    congr 1
    · refine congrArg List.length (List.filter_congr fun x hx => ?_)
      have hbyte : x / 4 < rowBytes columns := by
        have := List.mem_range.1 hx
        rw [rowBytes]
        omega
      simp [levelAt, pixel, List.getD_eq_getElem?_getD, hbyte]
    · refine congrArg List.sum (List.map_congr_left fun r _ => congrArg List.length (List.filter_congr fun x _ => ?_))
      have hindex : (r + 1) * rowBytes columns + x / 4 = rowBytes columns + (r * rowBytes columns + x / 4) := by
        rw [Nat.succ_mul]
        omega
      have hlevel : levelAt columns (plane.drop (rowBytes columns)) r x = levelAt columns plane (r + 1) x := by
        change ((plane.drop (rowBytes columns)).getD (r * rowBytes columns + x / 4) 0#8).toNat / _ % 4 =
          (plane.getD ((r + 1) * rowBytes columns + x / 4) 0#8).toNat / _ % 4
        rw [hindex]
        simp [List.getD_eq_getElem?_getD]
      rw [hlevel]

/-- R64: quarter `q` holds the rows from 8q on, at most eight. -/
theorem filter_range_quarter (rows q : Nat) :
    ((List.range rows).filter fun r => r / 8 == q) =
      (List.range (min 8 (rows - 8 * q))).map fun r => 8 * q + r := by
  refine List.Pairwise.eq_of_mem_iff (r := (· < ·)) ?_ ?_ fun r => ?_
  · exact (List.pairwise_lt_range).sublist List.filter_sublist
  · rw [List.pairwise_map]
    exact (List.pairwise_lt_range).imp fun h => Nat.add_lt_add_left h _
  · simp only [List.mem_filter, List.mem_range, beq_iff_eq, List.mem_map]
    constructor
    · rintro ⟨hrow, hquarter⟩
      exact ⟨r - 8 * q, by omega, by omega⟩
    · rintro ⟨k, hk, rfl⟩
      omega

/-- R64: the counts of a plane of whole rows. -/
theorem dropCounts_eq {rows columns : Nat} {plane : List Byte} (h : plane.length = rows * rowBytes columns) (q : Fin 4)
    (l : Fin 3) : (dropCounts rows columns plane)[q][l] =
      (((List.range rows).filter fun r => r / 8 == q.val).map fun r =>
        ((List.range columns).filter fun x => levelAt columns plane r x == l.val + 1).length).sum := by
  have hfits : min 8 (rows - 8 * q.val) * rowBytes columns ≤ (plane.drop (8 * q.val * rowBytes columns)).length := by
    rw [List.length_drop, h, ← Nat.sub_mul]
    exact Nat.mul_le_mul_right _ (Nat.min_le_right _ _)
  have hlevel (r x : Nat) : levelAt columns (plane.drop (8 * q.val * rowBytes columns)) r x =
      levelAt columns plane (8 * q.val + r) x := by
    change ((plane.drop (8 * q.val * rowBytes columns)).getD (r * rowBytes columns + x / 4) 0#8).toNat / _ % 4 =
      (plane.getD ((8 * q.val + r) * rowBytes columns + x / 4) 0#8).toNat / _ % 4
    rw [Nat.add_mul]
    simp [List.getD_eq_getElem?_getD, Nat.add_assoc]
  rw [filter_range_quarter, List.map_map]
  simp only [dropCounts, Fin.getElem_fin, Vector.getElem_ofFn, countRows_eq _ columns hfits, hlevel]
  rfl

/-! ### One channel (R65) -/

theorem ceilDiv_bounds (n : Nat) : 10000 * ceilDiv n dplPerNl < n + 10000 ∧ n ≤ 10000 * ceilDiv n dplPerNl := by
  simp only [ceilDiv, dplPerNl]
  omega

/-- R65: the demand of all four quarters. -/
theorem quarterDemand_four (c : BandChannel) : c.quarterDemand 4 =
    ((List.finRange 4).map fun q => ((List.finRange 3).map fun l => c.counts[q][l] * c.volumes[l]).sum).sum := by
  refine congrArg List.sum (List.map_congr_left fun q _ => ?_)
  rw [if_pos q.isLt]

/-- R64, R65, R23: one channel once it has been counted. -/
theorem counted_spec (rows columns : Nat) (drop : Vector DropEntry 12) (c : BandChannel) :
    ∃ d : BandChannel, d = c.counted rows columns drop ∧ d.chan = c.chan ∧ d.headRow = c.headRow ∧
      d.volumes = drop[c.chan].volumes ∧
      (c.plane.length = rows * ((columns + 3) / 4) → (∀ k : Fin 4, drop[c.chan].levels[k] ≤ 3) →
        d.plane.length = c.plane.length ∧
        (∀ (r x : Nat) (k : Fin 4), r < rows → x < columns → levelAt columns c.plane r x = k.val →
          levelAt columns d.plane r x = drop[c.chan].levels[k]) ∧
        (∀ r x : Nat, r < rows → columns ≤ x → x < 4 * ((columns + 3) / 4) →
          levelAt columns d.plane r x = levelAt columns c.plane r x) ∧
        ∀ (q : Fin 4) (l : Fin 3), d.counts[q][l] =
          (((List.range rows).filter fun r => r / 8 == q.val).map fun r =>
            ((List.range columns).filter fun x => levelAt columns d.plane r x == l.val + 1).length).sum) ∧
      d.demand = ((List.finRange 4).map fun q => ((List.finRange 3).map fun l =>
        d.counts[q][l] * drop[c.chan].volumes[l]).sum).sum ∧
      10000 * d.reserve < d.demand + 10000 ∧ d.demand ≤ 10000 * d.reserve := by
  refine ⟨_, rfl, rfl, rfl, rfl, fun hplane hlevels => ?_, quarterDemand_four _, ceilDiv_bounds _⟩
  have hlength := length_mapPlane drop[c.chan].levels columns hplane
  refine ⟨hlength, fun r x k hr hx hk => ?_, fun r x hr hlow hhigh => ?_,
    fun q l => dropCounts_eq (hlength.trans hplane) q l⟩
  · have hpixel := levelAt_mapPlane drop[c.chan].levels columns hlevels hplane hr (x := x) (by rw [rowBytes]; omega)
    rw [if_pos hx, hk, mapLevel_val] at hpixel
    exact hpixel
  · exact (levelAt_mapPlane drop[c.chan].levels columns hlevels hplane hr hhigh).trans (if_neg (Nat.not_lt.2 hlow))

end Sys2Proof.Machine

/-! ## COUNT_START, COUNT_COMPLETION and MEASURE_STOP_PLACEMENT (R64, R65, R147), and a discard (R67) -/

namespace Sys2Proof.Machine

theorem exec_countStart (s : State) : exec .countStart s = execCountStart s := rfl

theorem exec_countCompletion (s : State) : exec .countCompletion s = execCountCompletion s := rfl

theorem exec_measureStopPlacement (s : State) : exec .measureStopPlacement s = execMeasureStopPlacement s := rfl

/-! ### The start of a count (R64) -/

section Start

variable {s : State} {older younger : List Band} {b : Band} (hstore : s.path.store = older ++ b :: younger)
  (hb : b.state = .filled) (hfirst : ∀ a ∈ older, a.state ≠ .filled)

include hstore hb hfirst

theorem find?_filled : (s.path.store.find? fun a => a.state == .filled) = some b := by
  have hnone : (older.find? fun a => a.state == .filled) = none :=
    List.find?_eq_none.2 fun a ha => by simpa using hfirst a ha
  rw [hstore, List.find?_append, hnone, Option.none_or, List.find?_cons_of_pos (by simp [hb])]

/-- R64: no older band is FILLING. -/
theorem countNext_some (h : ∀ a ∈ older ++ younger, a.serial < b.serial → a.state ≠ .filling) :
    countNext s = some b := by
  have hnone : (s.path.store.any fun a => a.state == .filling && decide (a.serial < b.serial)) = false := by
    rw [List.any_eq_false]
    intro a ha hold
    simp only [Bool.and_eq_true, beq_iff_eq, decide_eq_true_eq] at hold
    obtain ⟨hfilling, hage⟩ := hold
    rw [hstore, List.mem_append, List.mem_cons] at ha
    obtain ha | rfl | ha := ha
    · exact h a (by simp [ha]) hage hfilling
    · exact Nat.lt_irrefl _ hage
    · exact h a (by simp [ha]) hage hfilling
  simp only [countNext, find?_filled hstore hb hfirst, hnone, Bool.false_eq_true, if_false]

theorem countNext_none (h : ∃ a ∈ older, a.state = .filling ∧ a.serial < b.serial) : countNext s = none := by
  have hany : (s.path.store.any fun a => a.state == .filling && decide (a.serial < b.serial)) = true := by
    obtain ⟨a, ha, hfilling, hage⟩ := h
    exact List.any_eq_true.2 ⟨a, by simp [hstore, ha], by simp [hfilling, hage]⟩
  simp only [countNext, find?_filled hstore hb hfirst, hany, if_true]

end Start

section Start

variable {s : State} {b : Band} {drop : Vector DropEntry 12}

theorem countStart_starts (hidle : s.path.count = none) (hdrop : s.tables.drop = some drop)
    (hnext : countNext s = some b) (hlock : s.tables.lock ≠ some .drop) :
    Leaves .countStart s (s.clearOut.onPath fun p => { p with
      count := some { band := b.serial, drop := drop },
      store := p.store.map fun a => if a.serial = b.serial then { a with state := .counting } else a }) := by
  have hfree : ¬locked s .drop = true := by simpa [locked] using hlock
  refine leaves_of_command (exec_countStart s) ?_
  simp only [State.clearOut_path, State.clearOut_tables, hidle, hdrop, show countNext s.clearOut = some b from hnext]
  exact if_neg hfree

theorem countStart_waits (h : countNext s = none ∨ s.tables.lock = some .drop) : Waits .countStart s := by
  refine waits_of_command (exec_countStart s) ?_
  split
  · next b drop _ hnext _ =>
    refine if_pos ?_
    obtain hnone | hlock := h
    · exact absurd (hnext.symm.trans hnone) (by simp)
    · simp [locked, hlock]
  · rfl

end Start

/-! ### Its completion (R65, R147) -/

section Completion

variable {s : State} {j : CountJob} {b : Band} {i : Item}

/-- R65: the band counted under the DROP content of its start. -/
def countedIn (j : CountJob) (s : State) : State :=
  s.onPath fun p => { p with
    count := none,
    store := p.store.map fun a => if a.serial = j.band then
      { a with state := .counted, channels := a.channels.map (BandChannel.counted a.rows a.columns j.drop) } else a }

theorem completeCount_aborted (hb : findBand s j.band = some b) (hi : findItem s b.item = some i)
    (hfate : i.fate = .aborted) : completeCount j s = advanceItem b.item (joinAbortFeed b.item (discardRows s b)
      (discardBand b (s.onPath fun p => { p with count := none }))) := by
  have hband : findBand (s.onPath fun p => { p with count := none }) j.band = some b := hb
  have haborted : itemAborted (s.onPath fun p => { p with count := none }) b.item = true := by
    have hitem : findItem (s.onPath fun p => { p with count := none }) b.item = some i := hi
    simp [itemAborted, hitem, hfate]
  simp only [completeCount, hband, haborted, if_true]
  rfl

theorem completeCount_counted (hb : findBand s j.band = some b) (hi : findItem s b.item = some i)
    (hfate : i.fate = .complete) :
    completeCount j s = if b.check then handStrip b (countedIn j s) else countedIn j s := by
  have hband : findBand (s.onPath fun p => { p with count := none }) j.band = some b := hb
  have hserial : b.serial = j.band := by simpa using List.find?_some hb
  have hlive : itemAborted (s.onPath fun p => { p with count := none }) b.item = false := by
    have hitem : findItem (s.onPath fun p => { p with count := none }) b.item = some i := hi
    simp [itemAborted, hitem, hfate]
  simp only [completeCount, hband, hlive, Bool.false_eq_true, if_false, hserial]
  rfl

/-- R147: the stop of a strip goes in at once where the list has a place and no strip waits. -/
theorem handStrip_placed {p : MediaProfile} (hp : s.tables.mediaProfile = some p) (hroom : s.media.stops.length < 32)
    (hnone : s.colour.strips = []) (b : Band) : handStrip b s =
      (s.onMedia fun k => { k with
        nextStop := k.nextStop + 1, stops := insertInOrder (measureStop s b p) k.stops }).onPath fun q => { q with
          store := q.store.map fun a => if a.serial = b.serial then { a with stopPlaced := true } else a } := by
  have hplace : (takeStopId s).media.stops.length < stopPlaces ∧ (takeStopId s).colour.strips = [] := ⟨hroom, hnone⟩
  simp only [handStrip, hp, if_pos hplace, placeStrip, insertStop, if_pos hplace.1]
  rfl

theorem handStrip_waits {p : MediaProfile} (hp : s.tables.mediaProfile = some p)
    (h : 32 ≤ s.media.stops.length ∨ s.colour.strips ≠ []) (b : Band) : handStrip b s =
      (s.onMedia fun k => { k with nextStop := k.nextStop + 1 }).onColour fun k => { k with
        strips := k.strips ++ [{ band := b.serial, stop := measureStop s b p }] } := by
  have hplace : ¬((takeStopId s).media.stops.length < stopPlaces ∧ (takeStopId s).colour.strips = []) := by
    rintro ⟨hroom, hnone⟩
    exact h.elim (Nat.not_le.2 hroom) fun hsome => hsome hnone
  simp only [handStrip, hp, if_neg hplace]
  rfl

theorem countCompletion_leaves {t : State} (hj : s.path.count = some j) (h : completeCount j s.clearOut = t) :
    Leaves .countCompletion s t := by
  refine leaves_of_command (exec_countCompletion s) ?_
  simp only [State.clearOut_path, hj, h]

end Completion

/-- R147: the stop of the oldest waiting strip goes in once the list has a place. -/
theorem measureStopPlacement_places {s : State} {w : Strip} {more : List Strip} (h : s.colour.strips = w :: more)
    (hroom : s.media.stops.length < 32) : Leaves .measureStopPlacement s
      (((s.clearOut.onColour fun k => { k with strips := more }).onMedia fun k => { k with
        stops := insertInOrder w.stop k.stops }).onPath fun q => { q with
          store := q.store.map fun a => if a.serial = w.band then { a with stopPlaced := true } else a }) := by
  have hplace : s.clearOut.media.stops.length < stopPlaces := hroom
  refine leaves_of_command (exec_measureStopPlacement s) ?_
  rw [State.clearOut_colour, h]
  exact (if_pos hplace).trans (congrArg (mapBand w.band fun b => { b with stopPlaced := true }) (if_pos hplace))

theorem measureStopPlacement_waits {s : State} {w : Strip} {more : List Strip} (h : s.colour.strips = w :: more)
    (hfull : 32 ≤ s.media.stops.length) : Waits .measureStopPlacement s := by
  have hplace : ¬s.clearOut.media.stops.length < stopPlaces := Nat.not_lt.2 hfull
  refine waits_of_command (exec_measureStopPlacement s) ?_
  simp only [State.clearOut_colour, h]
  exact if_neg hplace

/-! ### A discard (R67, R50, R115) -/

section Discard

variable {b : Band} {bound : Op → Bool} {s : State}

theorem isGutterOf_iff (b : Band) (o : Op) : o.isGutterOf b.serial = true ↔ GutterOf b o := by
  obtain ⟨serial, owner, work, rest⟩ := o
  match work with
  | .feed (.gutter n) rows => simp [Op.isGutterOf, GutterOf]
  | .feed .record rows | .feed .abort rows | .feed .runOut rows | .feed (.bandRest n) rows | .clean _ _ _ =>
    simp [Op.isGutterOf, GutterOf]

theorem isGutterOf_eq (h : ∀ o, bound o = true ↔ GutterOf b o) : Op.isGutterOf b.serial = bound :=
  funext fun o => Bool.eq_iff_iff.2 ((isGutterOf_iff b o).trans (h o).symm)

/-- R50: the gutters bound to a band that is not yet queued are given up. -/
theorem waiting_without_lost (b : Band) (s : State) :
    (s.path.waiting.filter fun o => !(lostGutters s b).contains o) =
      if b.state = .queued then s.path.waiting else s.path.waiting.filter fun o => !o.isGutterOf b.serial := by
  unfold lostGutters
  split
  · simp
  · refine List.filter_congr fun o ho => ?_
    rw [Bool.not_inj_iff, Bool.eq_iff_iff, List.contains_iff_mem, List.mem_filter]
    exact and_iff_right ho

variable {accounts : Vector Account 12} {amounts : List (Chan × Nat)}
  (hnodup : (b.channels.map BandChannel.chan).Nodup)
  (hamounts : amounts = b.channels.map fun c => (c.chan, c.reserve))
  (hheld : b.state = .reserved ∨ b.state = .queued ∨ b.state = .inFlight → ∀ c : Chan, accounts[c] =
    { s.ink.accounts[c] with reserved := s.ink.accounts[c].reserved - amountOn amounts c })
  (hfree : b.state ≠ .reserved → b.state ≠ .queued → b.state ≠ .inFlight → accounts = s.ink.accounts)

include hnodup hamounts hheld hfree

/-- R67, R86: a discarded band gives up the reservation it holds. -/
theorem reservation_released {d : State} (hink : d.ink = s.ink) :
    (if b.holdsInk then releaseInk b.amounts d else d) = d.onInk fun k => { k with accounts := accounts } := by
  have hholds : b.holdsInk = true ↔ b.state = .reserved ∨ b.state = .queued ∨ b.state = .inFlight := by
    simp [Band.holdsInk, or_assoc]
  by_cases h : b.holdsInk = true
  · have hchans : (b.amounts.map Prod.fst).Nodup := by
      rw [Band.amounts, List.map_map]
      exact hnodup
    have heq : (releaseInk b.amounts d).ink.accounts = accounts := by
      refine Vector.ext fun n hn => ?_
      have hnamed : b.amounts = amounts := hamounts.symm
      have haccount := account_releaseInk hchans d ⟨n, hn⟩
      rw [hink] at haccount
      rw [hnamed] at haccount ⊢
      exact haccount.trans (hheld (hholds.1 h) ⟨n, hn⟩).symm
    rw [if_pos h, ← heq]
    exact foldl_mapAccount_eq Prod.fst (fun a => Account.release a.2) b.amounts d
  · rw [hholds, not_or, not_or] at h
    obtain ⟨hreserved, hqueued, hflight⟩ := h
    rw [hfree hreserved hqueued hflight, ← hink, if_neg (by simp [hholds, hreserved, hqueued, hflight])]
    rfl

variable {waiting : List Op} (hbound : ∀ o, bound o = true ↔ GutterOf b o)
  (hwaiting : waiting = if b.state = .queued then s.path.waiting else s.path.waiting.filter fun o => !bound o)

include hbound hwaiting

/-- R67, R50, R63, R147: what the discard of a band leaves before its ink waits are looked at. -/
theorem rowsWasted_bandDropped : rowsWasted b (bandDropped b s) = discarded b waiting accounts s := by
  have hleft : (s.path.waiting.filter fun o => !(lostGutters s b).contains o) = waiting := by
    rw [waiting_without_lost, isGutterOf_eq hbound, hwaiting]
  have hwithout : (s.onPath fun p => { p with
      waiting := p.waiting.filter fun o => !(lostGutters s b).contains o }) =
        s.onPath fun p => { p with waiting := waiting } := by
    simp only [State.onPath, hleft]
  rw [bandDropped, hwithout, reservation_released hnodup hamounts hheld hfree (by simp [dropBand])]
  rfl

/-- R67, R115: the band that set the wait flags clears them at its discard. -/
theorem discardBand_discarded : (s.ink.waitAsker ≠ some b.serial → discardBand b s = discarded b waiting accounts s) ∧
    (s.ink.waitAsker = some b.serial → discardBand b s =
      { (waitEnds (.band b.itemId b.index) amounts accounts s).foldl (fun v n => raise n v)
          (discarded b waiting accounts s) with
        ink := { (discarded b waiting accounts s).ink with
          waits := Vector.replicate 12 false, waitAsker := none } }) := by
  have hwasted := rowsWasted_bandDropped hnodup hamounts hheld hfree hbound hwaiting
  rw [discardBand_eq, hwasted]
  refine ⟨fun h => if_neg h, fun h => (if_pos h).trans ?_⟩
  have hnamed : b.amounts = amounts := hamounts.symm
  have hink : (raiseAll (waitEnds (.band b.itemId b.index) amounts accounts s) (discarded b waiting accounts s)).ink =
      (discarded b waiting accounts s).ink := by rw [raiseAll_eq]
  rw [endWaits_eq, hnamed]
  change State.onInk _ (raiseAll (waitEnds (.band b.itemId b.index) amounts accounts s)
    (discarded b waiting accounts s)) = _
  rw [State.onInk, hink]
  rfl

end Discard

/-- R50, R55: the rows that a discard adds to the abort feed. -/
theorem discardRows_eq {b : Band} {bound : Op → Bool} (hbound : ∀ o, bound o = true ↔ GutterOf b o) (s : State) :
    (b.state = .queued → discardRows s b = b.rows) ∧
    (b.state ≠ .queued → discardRows s b = b.rows + ((s.path.waiting.filter bound).map fun o =>
      match o.work with
      | .feed _ n => n
      | .clean _ _ _ => 0).sum) := by
  refine ⟨fun h => ?_, fun h => ?_⟩
  · simp [discardRows, lostGutters, h]
  · rw [discardRows, lostGutters, if_neg h, isGutterOf_eq hbound]
    rfl

/-- Settles O38: the start and the end of a count, the stops of strips, and what a discard does. -/
theorem bandCounted : Obligations.BandCounted := by
  refine ⟨fun older younger b drop s hidle hdrop hstore hb hfirst => ⟨fun hlock hage => ?_, fun h => ?_⟩,
    fun j b i s hj hb hi => ⟨fun hfate => ?_, fun hfate => ⟨_, rfl, fun hcheck => ?_, fun hcheck p hp =>
      ⟨_, rfl, fun hroom hnone => ?_, fun hfull => ?_⟩⟩⟩, counted_spec, fun w more s h =>
        ⟨measureStopPlacement_places h, measureStopPlacement_waits h⟩,
    fun b bound waiting accounts amounts s u hnodup hbound hamounts hwaiting hheld hfree hu => ?_⟩
  · exact countStart_starts hidle hdrop (countNext_some hstore hb hfirst hage) hlock
  · exact countStart_waits (h.symm.imp_left (countNext_none hstore hb hfirst))
  · exact countCompletion_leaves hj (completeCount_aborted (s := s.clearOut) hb hi hfate)
  · exact countCompletion_leaves hj
      ((completeCount_counted (s := s.clearOut) hb hi hfate).trans (if_neg (by simp [hcheck])))
  · exact countCompletion_leaves hj ((completeCount_counted (s := s.clearOut) hb hi hfate).trans ((if_pos hcheck).trans
      (handStrip_placed (s := countedIn j s.clearOut) hp hroom hnone b)))
  · exact countCompletion_leaves hj ((completeCount_counted (s := s.clearOut) hb hi hfate).trans ((if_pos hcheck).trans
      (handStrip_waits (s := countedIn j s.clearOut) hp hfull b)))
  · obtain ⟨hqueued, hother⟩ := discardRows_eq hbound s
    subst hu
    exact ⟨hqueued, hother, discardBand_discarded hnodup hamounts hheld hfree hbound hwaiting⟩

end Sys2Proof.Machine

/-! ## The moves of an item do not look at what stands at the sensor (R52) -/

namespace Sys2Proof.Machine

/-- The state with another scan record, waiting measure action, overrun and media position. -/
def State.withSensor (scan : Option Scan) (measure : Option Nat) (overrun : Nat) (position : Row) (s : State) : State :=
  { s with
    colour := { s.colour with scan := scan, measure := measure },
    media := { s.media with overrun := overrun, roll := { s.media.roll with position := position } } }

/-- A state has the scan record, measure action, overrun and position that it has. -/
theorem withSensor_self (s : State) :
    s.withSensor s.colour.scan s.colour.measure s.media.overrun s.media.roll.position = s := rfl

section Sensor

variable (c : Option Scan) (m : Option Nat) (n : Nat) (p : Row) (s : State)

theorem withSensor_frame :
    (s.withSensor c m n p).now = s.now ∧ (s.withSensor c m n p).tables = s.tables ∧
    (s.withSensor c m n p).items = s.items ∧ (s.withSensor c m n p).link = s.link ∧
    (s.withSensor c m n p).costing = s.costing := ⟨rfl, rfl, rfl, rfl, rfl⟩

theorem onItems_withSensor (f : ItemManager → ItemManager) :
    (s.withSensor c m n p).onItems f = (s.onItems f).withSensor c m n p := rfl
theorem onCosting_withSensor (f : Costing → Costing) :
    (s.withSensor c m n p).onCosting f = (s.onCosting f).withSensor c m n p := rfl
theorem mapItem_withSensor (u : Nat) (f : Item → Item) :
    mapItem u f (s.withSensor c m n p) = (mapItem u f s).withSensor c m n p := rfl
theorem mapJob_withSensor (k : Nat) (f : Job → Job) :
    mapJob k f (s.withSensor c m n p) = (mapJob k f s).withSensor c m n p := rfl
theorem findItem_withSensor (u : Nat) : findItem (s.withSensor c m n p) u = findItem s u := rfl

theorem raise_withSensor (k : Notice) : raise k (s.withSensor c m n p) = (raise k s).withSensor c m n p := by
  rw [raise_eq_of_link k (s := s) (t := s.withSensor c m n p) rfl rfl rfl, raise_eq_of_link k (s := s) rfl rfl rfl]
  rfl

theorem raiseItem_withSensor (k : ItemCode) (u : Nat) :
    raiseItem k u (s.withSensor c m n p) = (raiseItem k u s).withSensor c m n p := by
  simp only [raiseItem, findItem_withSensor, raise_withSensor]
  split <;> rfl

theorem settleJob_withSensor (k : Nat) :
    settleJob k (s.withSensor c m n p) = (settleJob k s).withSensor c m n p := by
  have hjob : findJob (s.withSensor c m n p) k = findJob s k := rfl
  simp only [settleJob, hjob, withSensor_frame, mapJob_withSensor, onCosting_withSensor]
  (repeat' split) <;> rfl

theorem releaseReservation_withSensor (u : Nat) :
    releaseReservation u (s.withSensor c m n p) = (releaseReservation u s).withSensor c m n p := by
  simp only [releaseReservation, findItem_withSensor]
  split <;> rfl

theorem countPrint_withSensor (i : Item) :
    countPrint i (s.withSensor c m n p) = (countPrint i s).withSensor c m n p := by
  unfold countPrint
  split <;> rfl

theorem closeItem_withSensor (u : Nat) :
    closeItem u (s.withSensor c m n p) = (closeItem u s).withSensor c m n p := by
  simp only [closeItem, findItem_withSensor, releaseReservation_withSensor, mapJob_withSensor, countPrint_withSensor,
    onItems_withSensor, settleJob_withSensor]
  split <;> rfl

theorem priceItem_withSensor (u : Nat) :
    priceItem u (s.withSensor c m n p) = (priceItem u s).withSensor c m n p := by
  simp only [priceItem, findItem_withSensor, withSensor_frame, onCosting_withSensor, raise_withSensor,
    mapJob_withSensor, closeItem_withSensor]
  split <;> rfl

theorem toSettling_withSensor (u : Nat) :
    toSettling u (s.withSensor c m n p) = (toSettling u s).withSensor c m n p := by
  have hband : hasBand (s.withSensor c m n p) u = hasBand s u := rfl
  simp only [toSettling, findItem_withSensor, hband, mapItem_withSensor, raiseItem_withSensor]
  (repeat' split) <;> rfl

theorem toCosting_withSensor (u : Nat) :
    toCosting u (s.withSensor c m n p) = (toCosting u s).withSensor c m n p := by
  have hbusy (i : Item) : itemBusy (s.withSensor c m n p) i = itemBusy s i := rfl
  have hprice (s : State) : priceReadable (s.withSensor c m n p) = priceReadable s := rfl
  simp only [toCosting, findItem_withSensor, hbusy, hprice, mapItem_withSensor, raiseItem_withSensor, withSensor_frame,
    onCosting_withSensor, priceItem_withSensor]
  (repeat' split) <;> rfl

/-- R52: the moves of an item do not look at the sensor, the overrun or the position, and leave them. -/
theorem advanceItem_withSensor (u : Nat) :
    advanceItem u (s.withSensor c m n p) = (advanceItem u s).withSensor c m n p := by
  rw [advanceItem, toSettling_withSensor, toCosting_withSensor, advanceItem]

end Sensor

/-- R52: the moves of an item leave what stands at the sensor, the overrun and the position. -/
theorem advanceItem_sensor (u : Nat) (s : State) :
    (advanceItem u s).colour.scan = s.colour.scan ∧ (advanceItem u s).colour.measure = s.colour.measure ∧
    (advanceItem u s).media.overrun = s.media.overrun ∧
    (advanceItem u s).media.roll.position = s.media.roll.position := by
  have hself := advanceItem_withSensor s.colour.scan s.colour.measure s.media.overrun s.media.roll.position s u
  rw [withSensor_self] at hself
  rw [hself]
  exact ⟨rfl, rfl, rfl, rfl⟩

end Sys2Proof.Machine

/-! ## The end of an operation in flight (R46, R56, R75 to R77, R124, R127) -/

namespace Sys2Proof.Machine

/-! ### The end of a move (R46, R124, R127) -/

/-- R81, R124: the engine once the slip of a move has been looked at. -/
def slippedEngine (f : Flight) (s : State) : Engine :=
  if slipNotices f s ≠ [] ∧ s.path.engine = .running then .paused else s.path.engine

theorem moveEnded_eq (f : Flight) (notes : List Notice) (engine : Engine) (seen : Bool) (u : State) :
    moveEnded f notes engine seen u = { u with
      link := (raiseAll notes u).link,
      items := { u.items with planRow := u.items.planRow + ((u.media.rowsMoved : Int) - f.commanded) },
      path := { u.path with
        flight := none, queue := u.media.remainder.toList.map QEntry.op ++ u.path.queue, engine := engine,
        readySeen := seen },
      media := { u.media with remainder := none, rowsMoved := 0 } } := by
  have hfold : notes.foldl (fun v n => raise n v) u = { u with link := (raiseAll notes u).link } := raiseAll_eq notes u
  rw [moveEnded, hfold]

/-- A notice raised before the end of a move stands in front of the move's own. -/
theorem moveEnded_raise (f : Flight) (n : Notice) (notes : List Notice) (engine : Engine) (seen : Bool) (u : State) :
    moveEnded f notes engine seen (raise n u) = moveEnded f (n :: notes) engine seen u := by
  have hall : raiseAll notes (raise n u) = raiseAll (n :: notes) u := rfl
  simp [moveEnded_eq, hall]

/-- What a move ends in says what is in flight, of the engine, and of its ready seen. -/
theorem moveEnded_onPath (f : Flight) (notes : List Notice) (engine : Engine) (seen : Bool) (flight : Option Flight)
    (engine' : Engine) (seen' : Bool) (u : State) :
    moveEnded f notes engine seen
      (u.onPath fun p => { p with flight := flight, engine := engine', readySeen := seen' }) =
    moveEnded f notes engine seen u := by
  simp only [moveEnded_eq, raiseAll_eq_of_link notes (s := u) (t := u.onPath _) rfl rfl rfl]
  rfl

/-- R124: which slip notices there are depends on the rows moved, the roll and the operation alone. -/
theorem slipNotices_congr (f : Flight) {s t : State} (hmoved : t.media.rowsMoved = s.media.rowsMoved)
    (hroll : t.media.roll = s.media.roll) : slipNotices f t = slipNotices f s := by
  rw [slipNotices, hmoved, hroll, slipNotices]

section EndMove

variable {f : Flight} {s : State} (hmoves : f.work.movesMedia = true) (hidle : s.path.flight = none)

include hmoves hidle

/-- R76: an ABORTED compares nothing. -/
theorem endMove_aborted (d : Nat) :
    endMove f (.aborted d) s = moveEnded f [] s.path.engine s.path.readySeen s := by
  cases hrest : s.media.remainder <;>
    simp [endMove, hmoves, Ending.compares, queueRemainder, movePlan, moveEnded_eq, hrest, State.onMedia, State.onItems,
      State.onPath, raiseAll, ← hidle]

/-- R124, R81: a DONE and a HEAD_FAULT raise a slip, which pauses a RUNNING engine. -/
theorem endMove_compares {e : Ending} (he : e.compares = true) :
    endMove f e s = moveEnded f (slipNotices f s) (slippedEngine f s) s.path.readySeen s := by
  generalize ht : (movePlan ((s.media.rowsMoved : Int) - f.commanded) s).onMedia
    (fun m => { m with rowsMoved := 0 }) = t
  by_cases hslip : 2 < ((s.media.rowsMoved : Int) - f.commanded).natAbs
  · generalize hn : Notice.feedSlip
      { op := some (f.opId, f.work.kind), commanded := some f.commanded, moved := s.media.rowsMoved,
        difference := (s.media.rowsMoved : Int) - f.commanded, position := s.media.roll.position } = n
    have hnotes : slipNotices f s = [n] := by rw [slipNotices, if_pos hslip, hn]
    have hend : endMove f e s = queueRemainder (pauseEngine (raise n t)) := by
      subst hn ht
      simp only [endMove, hmoves, he, hslip, and_self, if_true]
      rfl
    have hraise : raise n t = { t with link := (raiseAll [n] s).link } :=
      raise_eq_of_link n (by rw [← ht]; rfl) (by rw [← ht]; rfl) (by rw [← ht]; rfl)
    have hengine : slippedEngine f s = if s.path.engine = .running then .paused else s.path.engine := by
      simp [slippedEngine, hnotes]
    rw [hend, hraise, moveEnded_eq, hnotes, hengine, ← ht]
    cases hrest : s.media.remainder <;> by_cases hrun : s.path.engine = .running <;>
      simp [pauseEngine, queueRemainder, movePlan, hrest, hrun, State.onMedia, State.onItems, State.onPath, ← hidle]
  · have hnotes : slipNotices f s = [] := if_neg hslip
    have hengine : slippedEngine f s = s.path.engine := by simp [slippedEngine, hnotes]
    have hend : endMove f e s = queueRemainder t := by
      subst ht
      simp only [endMove, hmoves, he, hslip, and_false, if_true, if_false]
    rw [hend, moveEnded_eq, hnotes, hengine, ← ht]
    cases hrest : s.media.remainder <;>
      simp [queueRemainder, movePlan, hrest, State.onMedia, State.onItems, State.onPath, raiseAll, ← hidle]

end EndMove

/-! ### The end of a FEED (R56, R75 to R77) -/

theorem ofAbortFeed_iff (u : Nat) (o : Op) :
    o.ofAbortFeed u = true ↔ o.owner = some u ∧ ∃ n, o.work = .feed .abort n := by
  obtain ⟨serial, owner, work, rest⟩ := o
  cases work with
  | clean _ _ _ => simp [Op.ofAbortFeed]
  | feed source rows => cases source <;> simp [Op.ofAbortFeed]

/-- The operations still held once a move has ended: its remainder stands in the queue. -/
theorem liveOps_moveEnded (f : Flight) (notes : List Notice) (engine : Engine) (seen : Bool) (s : State)
    (p : Op → Bool) : (liveOps (moveEnded f notes engine seen s)).any p =
      (s.path.waiting ++ s.path.abortWait ++ s.path.queue.filterMap QEntry.op? ++ s.media.remainder.toList).any p := by
  cases hrest : s.media.remainder <;>
    simp [liveOps, flightOp, moveEnded_eq, hrest, QEntry.op?, Bool.or_comm, Bool.or_left_comm]

/-- R56: the abort feed rows of an item go to 0 with its last abort FEED. -/
theorem endAbortFeed_moveEnded {f : Flight} {notes : List Notice} {engine : Engine} {seen : Bool} {o : Op}
    {live : List Item} {s : State} (h : LiveAfterFeed o s live) :
    endAbortFeed (.op o) (moveEnded f notes engine seen s) =
      moveEnded f notes engine seen (s.onItems fun m => { m with live := live }) := by
  obtain ⟨others, rfl, hlast, hkept⟩ := h
  have hlink (l : List Item) : raiseAll notes (s.onItems fun m => { m with live := l }) =
      { s.onItems fun m => { m with live := l } with link := (raiseAll notes s).link } :=
    raiseAll_eq_of_link notes rfl rfl rfl
  have hset (l : List Item) : moveEnded f notes engine seen (s.onItems fun m => { m with live := l }) =
      (moveEnded f notes engine seen s).onItems fun m => { m with live := l } := by
    simp only [moveEnded_eq, hlink]
    rfl
  have hstays : (o.owner = none ∨ (∀ n, o.work ≠ .feed .abort n) ∨ _) →
      moveEnded f notes engine seen s = moveEnded f notes engine seen (s.onItems fun m => { m with live := live }) :=
    fun hcase => by rw [hkept hcase]; rfl
  unfold endAbortFeed
  dsimp only
  split
  · next uid howner =>
    rw [liveOps_moveEnded]
    split
    · next hlastFeed =>
      obtain ⟨hmine, hnone⟩ := hlastFeed
      obtain ⟨-, n, hwork⟩ := (ofAbortFeed_iff uid o).1 hmine
      rw [List.any_eq_false] at hnone
      rw [hset, hlast uid n howner hwork fun w hw hwowner k hwork =>
        hnone w hw ((ofAbortFeed_iff uid w).2 ⟨hwowner, k, hwork⟩)]
      simp [mapItem, moveEnded_eq, State.onItems]
    · next hnot =>
      refine hstays (.inr ?_)
      by_cases hmine : ∃ n, o.work = .feed .abort n
      · have hany := Bool.eq_true_of_not_eq_false fun hnone => hnot ⟨(ofAbortFeed_iff uid o).2 ⟨howner, hmine⟩, hnone⟩
        obtain ⟨w, hw, hother⟩ := List.any_eq_true.1 hany
        obtain ⟨hwowner, hfeed⟩ := (ofAbortFeed_iff uid w).1 hother
        exact .inr ⟨w, hw, hwowner.trans howner.symm, hfeed⟩
      · exact .inl fun n hwork => hmine ⟨n, hwork⟩
  · next howner => exact hstays (.inl howner)

/-! ### What stands at the sensor (R148, R151) -/

section Sensor

variable {s t : State}

theorem NoStripAtSensor.congr (h : NoStripAtSensor s) (hscan : t.colour.scan = s.colour.scan)
    (hmeasure : t.colour.measure = s.colour.measure) : NoStripAtSensor t := by
  rw [NoStripAtSensor, hscan, hmeasure]
  exact h

theorem endScan_of_none (cause : EndCause) (h : ∀ c, s.colour.scan = some c → c.ended ≠ none) :
    endScan cause s = s := by
  unfold endScan
  split
  · next c hc => exact if_neg (by simpa using h c hc)
  · rfl

theorem endMeasureUnread_of_none (h : s.colour.measure = none) : endMeasureUnread s = s := by
  simp only [endMeasureUnread, h]

/-- R76, R77: with no strip at the sensor the end of an operation is the operation's own. -/
theorem sensorEnd_of_none (cause : EndCause) (h : NoStripAtSensor s) :
    endMeasureUnread (endScan cause s) = s := by
  rw [endScan_of_none cause h.1, endMeasureUnread_of_none h.2]

end Sensor

/-! ### The messages that end an operation (R75, R76, R77) -/

/-- R77: the link IDLE and the engine in FAULT, before the operation that was in flight ends. -/
def faulted (s : State) : State := s.onPath fun p => { p with flight := none, engine := .fault, readySeen := false }

section Messages

variable {f : Flight} {s : State} (hf : s.path.flight = some f)

include hf

theorem leaves_done {since : Time} (hphase : f.phase = .running since) (hpoints : f.reported = f.points.length) :
    Leaves (.done f.opId) s (finishDone f s.clearOut) := by
  refine leaves_of_flight rfl hf ?_
  simp only [hphase, hpoints, if_true]

theorem leaves_done_fault (h : ∀ since, f.phase = .running since → f.reported ≠ f.points.length) :
    Leaves (.done f.opId) s (headFault .protocol s.clearOut) := by
  refine leaves_of_flight rfl hf ?_
  cases hphase : f.phase with
  | running since => exact if_neg (h since hphase)
  | offering n t => rfl
  | pausedAt => rfl

theorem leaves_aborted (d : Nat) (h : ∀ n t, f.phase ≠ .offering n t) :
    Leaves (.aborted f.opId d) s (finishAborted f d s.clearOut) := by
  refine leaves_of_flight rfl hf ?_
  cases hphase : f.phase with
  | offering n t => exact absurd hphase (h n t)
  | running since => rfl
  | pausedAt => rfl

theorem leaves_aborted_fault {n : Nat} {t : Time} (d : Nat) (h : f.phase = .offering n t) :
    Leaves (.aborted f.opId d) s (headFault .protocol s.clearOut) := by
  refine leaves_of_flight rfl hf ?_
  simp only [h]

/-- R77: a HEAD_FAULT of an operation in flight. -/
theorem headFault_of_flight (cause : FaultCause) : headFault cause s =
    raise (.headFault cause (some (flightRef s f))) (endMeasureUnread (endScan .fault (endFlight f .fault
      (faulted s)))) := by
  simp only [headFault, hf, Option.map_some]
  rfl

end Messages

/-! ### A FEED, whole -/

section Feed

variable {f : Flight} {o : Op} {source : FeedSource} {rows : Nat} {live : List Item} {s : State}
  (hwork : f.work = .op o) (hfeed : o.work = .feed source rows) (hlive : LiveAfterFeed o s live)

include hwork hfeed

theorem movesMedia_of_feed : f.work.movesMedia = true := by
  obtain ⟨serial, owner, work, rest⟩ := o
  subst hfeed
  rw [hwork]
  rfl

/-- R75 to R77: a FEED has no effect of its own but its move. -/
theorem endFlight_feed {e : Ending} {notes : List Notice} {engine : Engine} {seen : Bool}
    (hlive : LiveAfterFeed o s live) (hmove : endMove f e s = moveEnded f notes engine seen s) :
    endFlight f e s = afterOwner o (moveEnded f notes engine seen (s.onItems fun m => { m with live := live })) := by
  have hnone : completeWork f.work e s = s := by
    obtain ⟨serial, owner, work, rest⟩ := o
    subst hfeed
    rw [hwork]
    rfl
  have howner : workOwner s f.work = o.owner := by rw [hwork]; rfl
  simp only [endFlight, hnone, howner, hmove]
  rw [hwork, endAbortFeed_moveEnded hlive]
  rfl

omit hwork hfeed in
/-- What is in flight, and the engine before, have no part in what the end of a FEED leaves. -/
theorem moveEnded_feed (notes : List Notice) (engine : Engine) (seen : Bool) (engine' : Engine) (seen' : Bool) :
    moveEnded f notes engine seen
      ((s.clearOut.onPath fun p => { p with flight := none, engine := engine', readySeen := seen' }).onItems
        fun m => { m with live := live }) = feedLeft f notes engine seen live s :=
  moveEnded_onPath f notes engine seen none engine' seen' (s.clearOut.onItems fun m => { m with live := live })

include hlive

theorem endFlight_feed_done : endFlight f .done (linkIdle s.clearOut) =
    afterOwner o (feedLeft f (slipNotices f s) (slippedEngine f s) s.path.readySeen live s) := by
  rw [endFlight_feed hwork hfeed (s := linkIdle s.clearOut) hlive
    (endMove_compares (movesMedia_of_feed hwork hfeed) rfl rfl)]
  exact congrArg (afterOwner o) (moveEnded_feed _ _ _ s.path.engine s.path.readySeen)

theorem endFlight_feed_aborted (n : Notice) (d : Nat) : endFlight f (.aborted d) (raise n (linkIdle s.clearOut)) =
    afterOwner o (feedLeft f [n] s.path.engine s.path.readySeen live s) := by
  have hraise := raise_eq_of_link n (s := linkIdle s.clearOut) rfl rfl rfl
  have hlive' : LiveAfterFeed o (raise n (linkIdle s.clearOut)) live := by
    rw [hraise]
    exact hlive
  have hpath : (raise n (linkIdle s.clearOut)).path = (linkIdle s.clearOut).path := by rw [hraise]
  have hitems : (raise n (linkIdle s.clearOut)).onItems (fun m => { m with live := live }) =
      raise n ((linkIdle s.clearOut).onItems fun m => { m with live := live }) := by
    rw [raise_eq_of_link n (s := linkIdle s.clearOut) (t := (linkIdle s.clearOut).onItems _) rfl rfl rfl, hraise]
    rfl
  rw [endFlight_feed hwork hfeed hlive' (endMove_aborted (movesMedia_of_feed hwork hfeed) (by rw [hpath]; rfl) d),
    hitems, moveEnded_raise, hpath]
  exact congrArg (afterOwner o) (moveEnded_feed _ _ _ s.path.engine s.path.readySeen)

theorem endFlight_feed_fault :
    endFlight f .fault (faulted s.clearOut) =
    afterOwner o (feedLeft f (slipNotices f s) .fault false live s) := by
  rw [endFlight_feed hwork hfeed (s := faulted s.clearOut) hlive
    (endMove_compares (movesMedia_of_feed hwork hfeed) rfl rfl)]
  have hengine : slippedEngine f (faulted s.clearOut) = .fault := by simp [slippedEngine, faulted]
  rw [hengine]
  exact congrArg (afterOwner o) (moveEnded_feed _ _ _ .fault false)

omit hwork hfeed hlive in
/-- R52, R56: the end of a FEED leaves what stands at the sensor. -/
theorem feedLeft_sensor (notes : List Notice) (engine : Engine) (seen : Bool) :
    (afterOwner o (feedLeft f notes engine seen live s)).colour.scan = s.colour.scan ∧
    (afterOwner o (feedLeft f notes engine seen live s)).colour.measure = s.colour.measure := by
  have hleft : (feedLeft f notes engine seen live s).colour = s.colour := by rw [feedLeft, moveEnded_eq]; rfl
  unfold afterOwner
  split
  · obtain ⟨hscan, hmeasure, -⟩ := advanceItem_sensor ‹Nat› (feedLeft f notes engine seen live s)
    rw [hscan, hmeasure, hleft]
    exact ⟨rfl, rfl⟩
  · rw [hleft]
    exact ⟨rfl, rfl⟩

end Feed

end Sys2Proof.Machine

/-! ## What a refill leaves of a slot (R93, R107, R109) -/

namespace Sys2Proof.Machine

/-- R109, R110: the write-back test starts a due write, or notes that it waits for the one in flight. -/
theorem slot_writeTest (c : Chan) (s : State) : slot (writeTest c s) c = { slot s c with cart := { (slot s c).cart with
    write := if (slot s c).cart.writeNeeded = true ∧ (slot s c).cart.write = none then
      some { value := (slot s c).cart.estimate.getD 0, since := s.now } else (slot s c).cart.write,
    writeDue := if (slot s c).cart.writeNeeded then (slot s c).cart.write.isSome else (slot s c).cart.writeDue } } := by
  have hsend (o : Output) (t : State) : slot (t.send o) c = slot t c := rfl
  unfold writeTest startWrite
  dsimp only
  by_cases hneeded : (slot s c).cart.writeNeeded = true
  · cases hwrite : (slot s c).cart.write <;> simp [hneeded, hwrite, hsend]
  · simp [hneeded]

section Refill

variable {c : Chan} {s t v : State}

/-- R93, R107, R109: the slot of a cartridge that has given `drawn` nL. -/
theorem slot_refill {e drawn : Nat} {due : Bool} (hs : (slot s c).cart.supplies = true)
    (he : (slot s c).cart.estimate = some e) (hdrawn : drawn = min (2000000 - (account s c).subTank) e)
    (hpos : 0 < drawn)
    (hdue : due = (decide ((e - drawn + 999999) / 1000000 < (slot s c).cart.lastMl) &&
      decide ((slot s c).cart.writeFailures < 3))) :
    slot (refill c s) c = { slot s c with cart := { (slot s c).cart with
      estimate := some (e - drawn), state := stateAfter (slot s c).cart.state (e - drawn) (lowMark s c),
      write := if due = true ∧ (slot s c).cart.write = none then some { value := e - drawn, since := s.now }
        else (slot s c).cart.write,
      writeDue := if due then (slot s c).cart.write.isSome else (slot s c).cart.writeDue } } := by
  have hlow (u : State) (h : u.tables = s.tables) : lowMark u c = lowMark s c := by simp only [lowMark, h]
  have hvolume : min (subTankFull - (account s c).subTank) ((slot s c).cart.estimate.getD 0) = drawn := by
    rw [he, hdrawn]
    rfl
  simp only [refill, hvolume, hs, hpos, and_self, if_true, slot_writeTest, replaceCart_spec]
  have hceil : ceilDiv (e - drawn) nlPerMl = (e - drawn + 999999) / 1000000 := by
    rw [ceilDiv, nlPerMl, Nat.add_sub_assoc (by decide)]
  simp [he, hlow, Cartridge.writeNeeded, hceil, ← hdue, loweredState_eq_stateAfter ((supplies_iff _).1 hs)]

/-- R93: what the refill of a channel, in its turn `v` among the channels, has done to it. -/
theorem refilled_of_turn {before : Nat} (hnow : v.now = s.now) (htables : v.tables = s.tables)
    (hslot : slot v c = slot s c) (hbefore : (account v c).subTank = before)
    (hrefilled : (account v c).refilled = (account s c).refilled) (hlast : slot t c = slot (refill c v) c)
    (hlastAccount : account t c = account (refill c v) c) : Refilled c before s t := by
  have hlow : lowMark v c = lowMark s c := by simp only [lowMark, htables]
  refine ⟨_, _, _, _, rfl, rfl, rfl, rfl, fun hready hlowState => ?_, fun e drawn due hstate he hdrawn hdue => ?_⟩
  · have hnot : (slot v c).cart.supplies = false := by
      rw [hslot, Bool.eq_false_iff, ne_eq, supplies_iff]
      exact fun h => h.elim hready hlowState
    have hstays := refill_of_nothing c v fun h => absurd h (by simp [hnot])
    rw [hstays] at hlast hlastAccount
    exact ⟨(congrArg Account.subTank hlastAccount).trans hbefore,
      (congrArg Account.refilled hlastAccount).trans hrefilled,
      congrArg Slot.cart (hlast.trans hslot)⟩
  · have hs : (slot v c).cart.supplies = true := hslot ▸ (supplies_iff _).2 hstate
    have he' : (slot v c).cart.estimate = some e := hslot ▸ he
    have hdrawn' : drawn = min (2000000 - (account v c).subTank) e := hbefore ▸ hdrawn
    by_cases hnone : drawn = 0
    · have hstays := refill_of_nothing c v fun _ => by rw [he', Option.getD_some, ← hdrawn', hnone]
      rw [hstays] at hlast hlastAccount
      subst hnone
      exact ⟨(congrArg Account.subTank hlastAccount).trans hbefore,
        fun _ => (congrArg Account.refilled hlastAccount).trans hrefilled,
        fun _ => congrArg Slot.cart (hlast.trans hslot), fun h => absurd h (lt_irrefl 0)⟩
    · have hpos := Nat.pos_of_ne_zero hnone
      obtain ⟨-, -, -, -, haccount⟩ := refill_spec c v hs he' hdrawn' hpos
      have hcart := slot_refill hs he' hdrawn' hpos (due := due) (by rw [hslot, hdue]; rfl)
      rw [haccount] at hlastAccount
      rw [hcart, hslot, hlow, hnow] at hlast
      refine ⟨?_, fun hfit => ?_, fun h => absurd h hnone, fun _ => congrArg Slot.cart hlast⟩
      · rw [← hbefore]
        exact congrArg Account.subTank hlastAccount
      · refine (congrArg Account.refilled hlastAccount).trans ?_
        rw [Account.refill, hrefilled]
        exact countOf_of_lt hfit

/-- R93: a run of refills, each channel at most once, leaves of an account all but the sub-tank and the total. -/
theorem refill_keeps (c : Chan) (s : State) :
    (account (refill c s) c).reserved = (account s c).reserved ∧
    (account (refill c s) c).residue = (account s c).residue ∧
    (account (refill c s) c).consumed = (account s c).consumed ∧
    (account (refill c s) c).flushed = (account s c).flushed := by
  unfold refill
  dsimp only
  split
  · simp only [writeTest_spec, replaceCart_spec]
    simp [account_mapAccount, Account.refill]
  · exact ⟨rfl, rfl, rfl, rfl⟩

/-- R93: a refill concerns no cartridge's serial: the recent cartridge list stands. -/
theorem recent_forRefill (cs : List Chan) (s : State) : (forChannels cs refill s).ink.recent = s.ink.recent := by
  induction cs generalizing s with
  | nil => rfl
  | cons c cs ih => exact (ih (refill c s)).trans (recent_refill c s)

/-- R93: what a run of refills over distinct channels has done to one of them. -/
theorem refilled_forChannels {cs : List Chan} (hnodup : cs.Nodup) (hc : c ∈ cs) (v : State) :
    ∃ u, SameAt c v u ∧ SameAt c (refill c u) (forChannels cs refill v) := by
  obtain ⟨first, rest, rfl⟩ := List.append_of_mem hc
  obtain ⟨hu, hlast⟩ := forChannels_at onChannel_refill hnodup v
  exact ⟨_, hu, hlast⟩

end Refill

/-! ### Changes of some blocks -/

section OnlyChanges

variable {bs : List Block} {r s t : State}

theorem OnlyChanges.same (h : OnlyChanges bs s t) {b : Block} (hb : b ∉ bs) : SameBlock b s t := h.2.2 b hb

theorem OnlyChanges.trans (hr : OnlyChanges bs r s) (hs : OnlyChanges bs s t) : OnlyChanges bs r t := by
  obtain ⟨hnow, hpending, hblocks⟩ := hr
  obtain ⟨hnow', hpending', hblocks'⟩ := hs
  refine ⟨hnow'.trans hnow, hpending'.trans hpending, fun b hb => ?_⟩
  have h := hblocks b hb
  have h' := hblocks' b hb
  cases b <;> exact Eq.trans h' h

theorem OnlyChanges.mono {cs : List Block} (h : OnlyChanges bs s t) (hsub : bs ⊆ cs) : OnlyChanges cs s t := by
  obtain ⟨hnow, hpending, hblocks⟩ := h
  exact ⟨hnow, hpending, fun b hb => hblocks b fun hmem => hb (hsub hmem)⟩

theorem onlyChanges_raise (n : Notice) (s : State) : OnlyChanges [.link] s (raise n s) := by
  refine ⟨by simp, by simp, fun b hb => ?_⟩
  cases b with
  | link => exact absurd (by simp) hb
  | _ => simp [SameBlock]

theorem onlyChanges_keepRunOut (s : State) : OnlyChanges [.media] s (keepRunOut s) := by
  refine ⟨by simp, by simp, fun b hb => ?_⟩
  cases b with
  | media => exact absurd (by simp) hb
  | _ => simp [SameBlock]

end OnlyChanges

end Sys2Proof.Machine

/-! ## The end of a CLEAN (R91, R92, R93) -/

namespace Sys2Proof.Machine

/-- What notes that an operation has ended: the link IDLE, the engine as it then is. -/
theorem onlyChanges_idle (s : State) (flight : Option Flight) (engine : Engine) (seen : Bool) :
    OnlyChanges [.link, .path] s
      (s.clearOut.onPath fun p => { p with flight := flight, engine := engine, readySeen := seen }) := by
  refine ⟨rfl, rfl, fun b hb => ?_⟩
  cases b with
  | path => exact absurd (by simp) hb
  | _ => rfl

section Clean

variable {flush : List (Chan × Nat)} {s t v : State}

/-- R91: what the flush of a CLEAN leaves of the accounts. -/
theorem account_flushAccounts (hnodup : (flush.map Prod.fst).Nodup) (v : State) :
    (∀ a ∈ flush, ∃ new, new = account (flushAccounts (flush.filter fun a => decide (0 < a.2)) v) a.1 ∧
      new.subTank = (account v a.1).subTank - a.2 ∧ new.reserved = (account v a.1).reserved - a.2 ∧
      new.residue = (account v a.1).residue ∧ new.consumed = (account v a.1).consumed ∧
      new.refilled = (account v a.1).refilled ∧
      ((account v a.1).flushed + a.2 < 2 ^ 64 → new.flushed = (account v a.1).flushed + a.2)) ∧
    ∀ c, c ∉ flush.map Prod.fst →
      account (flushAccounts (flush.filter fun a => decide (0 < a.2)) v) c = account v c := by
  have hused : ((flush.filter fun a => decide (0 < a.2)).map Prod.fst).Nodup :=
    hnodup.sublist (List.filter_sublist.map _)
  obtain ⟨hnamed, hother⟩ := foldl_mapAccount Prod.fst (fun a => Account.flush a.2) hused v
  have hothers {c : Chan} (hc : ∀ a ∈ flush, 0 < a.2 → a.1 ≠ c) :
      account (flushAccounts (flush.filter fun a => decide (0 < a.2)) v) c = account v c :=
    hother c fun hmem => by
      obtain ⟨a, ha, hac⟩ := List.mem_map.1 hmem
      rw [List.mem_filter, decide_eq_true_iff] at ha
      exact hc a ha.1 ha.2 hac
  refine ⟨fun a ha => ⟨_, rfl, ?_⟩, fun c hc => hothers fun a ha _ hac => hc (hac ▸ List.mem_map_of_mem ha)⟩
  by_cases hpos : 0 < a.2
  · have hflushed : account (flushAccounts (flush.filter fun a => decide (0 < a.2)) v) a.1 =
        Account.flush a.2 (account v a.1) := hnamed a (List.mem_filter.2 ⟨ha, decide_eq_true hpos⟩)
    rw [hflushed]
    exact ⟨rfl, rfl, rfl, rfl, rfl, fun hfit => countOf_of_lt hfit⟩
  · have hsame := hothers (c := a.1) fun b hb hbpos hba =>
      hpos (List.inj_on_of_nodup_map hnodup hb ha hba ▸ hbpos)
    simp [hsame, Nat.eq_zero_of_not_pos hpos]

/-- R91, R92, R93: the end of a CLEAN, in a state `v` that has noted the end of the operation. -/
theorem cleanEnded_spendClean (hnodup : (flush.map Prod.fst).Nodup) (hv : OnlyChanges [.link, .path] s v)
    (hidle : v.path.flight = none) (ht : OnlyChanges [.link, .media] (spendClean flush v) t) :
    CleanEnded flush s t := by
  generalize hused : (flush.filter fun a => decide (0 < a.2)) = used
  generalize hw : chargeFlush used (flushAccounts used v) = w
  have hspent : spendClean flush v = forChannels (flush.map Prod.fst) refill w := by subst hused hw; rfl
  have hvitems : v.items = s.items := hv.same (b := .items) (by simp)
  have hvink : v.ink = s.ink := hv.same (b := .ink) (by simp)
  have htink : t.ink = (spendClean flush v).ink := ht.same (b := .ink) (by simp)
  have htitems : t.items = (spendClean flush v).items := ht.same (b := .items) (by simp)
  have hwslot (c : Chan) : slot w c = slot s c := by
    have hslots : w.ink.slots = v.ink.slots := by
      have hcharged : w.ink = (flushAccounts used v).ink := by rw [← hw]; simp
      rw [hcharged, flushAccounts, foldl_mapAccount_eq Prod.fst fun a => Account.flush a.2]
      rfl
    rw [slot, hslots, hvink, slot]
  have hwaccount (c : Chan) : account w c = account (flushAccounts used v) c :=
    account_congr (by rw [← hw]; simp) c
  obtain ⟨hnamed, hother⟩ := account_flushAccounts hnodup v
  rw [hused] at hnamed hother
  have hvaccount (c : Chan) : account v c = account s c := account_congr hvink c
  have hitems : t.items = (chargeFlush used (flushAccounts used v)).items := by
    rw [htitems, hspent, ← hw]
    simp
  have hopen : openItem (flushAccounts used v) = openItem s := by simp [openItem, hvitems]
  have hjob : openJob (flushAccounts used v) = openJob s := by simp [openJob, hvitems]
  have hflushed : (flushAccounts used v).items = s.items := by simp [hvitems]
  refine ⟨?_, fun a ha => ?_, fun c hc => ?_, fun i hi => ?_, fun j hi hj => ?_, fun hi hj => ?_, ?_⟩
  · have hpath : t.path = (spendClean flush v).path := ht.same (b := .path) (by simp)
    rw [hpath]
    simpa using hidle
  · obtain ⟨u, ⟨hnow, htables, hslot, haccount, -⟩, -, -, hlast, hlastAccount, -⟩ :=
      refilled_forChannels hnodup (List.mem_map_of_mem (f := Prod.fst) ha) w
    rw [← hspent, ← slot_congr htink] at hlast
    rw [← hspent, ← account_congr htink] at hlastAccount
    obtain ⟨new, hnew, htank, hreserved, hresidue, hconsumed, hrefilled, htotal⟩ := hnamed a ha
    rw [← hwaccount, ← haccount] at hnew
    rw [hvaccount] at htank hreserved hresidue hconsumed hrefilled htotal
    subst hnew
    obtain ⟨hkreserved, hkresidue, hkconsumed, hkflushed⟩ := refill_keeps a.1 u
    rw [← hlastAccount] at hkreserved hkresidue hkconsumed hkflushed
    have hwnow : w.now = s.now := by rw [← hw]; simp [hv.1]
    have hwtables : w.tables = s.tables := by
      have hvtables : v.tables = s.tables := hv.same (b := .tables) (by simp)
      rw [← hw]
      simp [hvtables]
    exact ⟨_, _, rfl, rfl, hkreserved.trans hreserved, hkresidue.trans hresidue, hkconsumed.trans hconsumed,
      fun hfit => hkflushed.trans (htotal hfit),
      refilled_of_turn (hnow.trans hwnow) (htables.trans hwtables) (hslot.trans (hwslot a.1)) htank hrefilled hlast
        hlastAccount⟩
  · obtain ⟨-, -, -, haccount, -⟩ := forChannels_sameAt onChannel_refill hc w
    rw [← hspent, ← account_congr htink, hwaccount, hother c hc, hvaccount] at haccount
    exact haccount
  · rw [hitems, chargeFlush, hopen, hi]
    simp [mapItem, hvitems, hused]
  · rw [hitems, chargeFlush, hopen, hi, hjob, hj]
    simp [mapJob, hvitems, hused]
  · rw [hitems, chargeFlush, hopen, hi, hjob, hj, hflushed]
  · have hspendOnly : OnlyChanges [.link, .items, .path, .ink, .media] v (spendClean flush v) := by
      refine ⟨by simp, by simp, fun b hb => ?_⟩
      cases b with
      | link | items | path | ink | media => exact absurd (by simp) hb
      | tables | cutter | colour | costing => simp [SameBlock]
    exact ((hv.mono (by simp)).trans hspendOnly).trans (ht.mono (by simp))

/-! ### The three ways it ends -/

section Work

variable {f : Flight} {o : Op} {strength : Nat} {granted : Bool} (hwork : f.work = .op o)
  (hclean : o.work = .clean strength flush granted) (howner : o.owner = none)

include hwork hclean howner

/-- R75 to R77: a CLEAN moves no media and has no owner. -/
theorem endFlight_clean (e : Ending) (v : State) : endFlight f e v = spendClean flush v := by
  obtain ⟨serial, owner, work, rest⟩ := o
  subst hclean howner
  simp only [endFlight, hwork, workOwner]
  simp only [endMove, hwork]
  rfl

variable (hf : s.path.flight = some f) (hnodup : (flush.map Prod.fst).Nodup) (hsensor : NoStripAtSensor s)

include hf hnodup

theorem done_clean {since : Time} (hphase : f.phase = .running since) (hpoints : f.reported = f.points.length) :
    ∃ t, exec (.done f.opId) s = .next t ∧ t.path.engine = s.path.engine ∧ CleanEnded flush s t := by
  have hrunOut : f.work.isRunOut = false := by
    obtain ⟨serial, owner, work, rest⟩ := o
    subst hclean
    rw [hwork]
    rfl
  have hdone : finishDone f s.clearOut = spendClean flush (linkIdle s.clearOut) := by
    simp only [finishDone, endFlight_clean hwork hclean howner, hrunOut, Bool.false_eq_true, false_and, if_false]
  refine ⟨_, leaves_done hf hphase hpoints, ?_, ?_⟩
  · rw [hdone]
    simp [linkIdle]
  · rw [hdone]
    exact cleanEnded_spendClean hnodup (onlyChanges_idle s none s.path.engine s.path.readySeen) rfl
      ((onlyChanges_keepRunOut _).mono (by simp))

include hsensor

theorem aborted_clean (d : Nat) (hphase : ∀ n t, f.phase ≠ .offering n t) :
    ∃ t, exec (.aborted f.opId d) s = .next t ∧ t.path.engine = s.path.engine ∧ CleanEnded flush s t := by
  generalize hn : Notice.opAborted (flightRef s.clearOut f) (abortedRows s.clearOut f d) = n
  have hidle : OnlyChanges [.link, .path] s (raise n (linkIdle s.clearOut)) :=
    (onlyChanges_idle s none s.path.engine s.path.readySeen).trans ((onlyChanges_raise n _).mono (by simp))
  have hspent : NoStripAtSensor (spendClean flush (raise n (linkIdle s.clearOut))) :=
    hsensor.congr (by simp [linkIdle]) (by simp [linkIdle])
  have haborted : finishAborted f d s.clearOut = spendClean flush (raise n (linkIdle s.clearOut)) := by
    simp only [finishAborted, hn, endFlight_clean hwork hclean howner, sensorEnd_of_none .aborted hspent]
  refine ⟨_, leaves_aborted hf d hphase, ?_, ?_⟩
  · rw [haborted]
    simp [linkIdle]
  · rw [haborted]
    exact cleanEnded_spendClean hnodup hidle (by simp [linkIdle]) ((onlyChanges_keepRunOut _).mono (by simp))

theorem fault_clean (cause : FaultCause) : ∃ t, headFault cause s.clearOut = t ∧ t.path.engine = .fault ∧
    t.path.readySeen = false ∧ CleanEnded flush s t := by
  have hidle : OnlyChanges [.link, .path] s (faulted s.clearOut) := onlyChanges_idle s none .fault false
  have hspent : NoStripAtSensor (spendClean flush (faulted s.clearOut)) :=
    hsensor.congr (by simp [faulted]) (by simp [faulted])
  refine ⟨_, headFault_of_flight (s := s.clearOut) hf cause, ?_, ?_, ?_⟩ <;>
    rw [endFlight_clean hwork hclean howner, sensorEnd_of_none .fault hspent]
  · simp [faulted]
  · simp [faulted]
  · exact cleanEnded_spendClean hnodup hidle rfl ((onlyChanges_raise _ _).mono (by simp))

end Work

end Clean

end Sys2Proof.Machine

/-! ## The end of a VERIFY part (R168 to R170) -/

namespace Sys2Proof.Machine

/-! ### What a part is judged by (R169, R170) -/

theorem foldl_max_bounds (l : List Nat) (m : Nat) :
    m ≤ l.foldl max m ∧ (∀ x ∈ l, x ≤ l.foldl max m) ∧ (l.foldl max m = m ∨ l.foldl max m ∈ l) := by
  induction l generalizing m with
  | nil => simp
  | cons a l ih =>
    obtain ⟨hle, hall, hpick⟩ := ih (max m a)
    refine ⟨(le_max_left m a).trans hle, fun x hx => ?_, ?_⟩
    · obtain rfl | hx := List.mem_cons.1 hx
      · exact (le_max_right m x).trans hle
      · exact hall x hx
    · rw [List.foldl_cons, List.mem_cons]
      obtain hpick | hpick := hpick
      · obtain hm | ha := max_choice m a
        · exact .inl (hpick.trans hm)
        · exact .inr (.inl (hpick.trans ha))
      · exact .inr (.inr hpick)

theorem foldl_min_bounds (l : List Nat) (m : Nat) :
    l.foldl min m ≤ m ∧ (∀ x ∈ l, l.foldl min m ≤ x) ∧ (l.foldl min m = m ∨ l.foldl min m ∈ l) := by
  induction l generalizing m with
  | nil => simp
  | cons a l ih =>
    obtain ⟨hle, hall, hpick⟩ := ih (min m a)
    refine ⟨hle.trans (min_le_left m a), fun x hx => ?_, ?_⟩
    · obtain rfl | hx := List.mem_cons.1 hx
      · exact hle.trans (min_le_right m x)
      · exact hall x hx
    · rw [List.foldl_cons, List.mem_cons]
      obtain hpick | hpick := hpick
      · obtain hm | ha := min_choice m a
        · exact .inl (hpick.trans hm)
        · exact .inr (.inl (hpick.trans ha))
      · exact .inr (.inr hpick)

/-- R169: the readings of a part are whole. -/
theorem partWhole_iff (p : Part) (v : Verify) : partWhole v p = true ↔ ReadingsWhole p v := by
  have hreads (g : Filter) : p.reads g = true ↔ (p = .lamp → g = 3) := by cases p <;> simp [Part.reads]
  simp only [ReadingsWhole, ← hreads]
  simp [partWhole, ← imp_iff_not_or, ← Bool.not_eq_true]

section Judged

variable {p : Part} {v : Verify} {mean : Filter → Nat} (hmean : ∀ g : Filter, HalfUp (v.readings[g]).sum 8 (mean g))

include hmean

theorem partMean_eq : partMean v = mean := funext fun g => (hmean g).eq_roundHalfUp

variable (hrange : ∀ x ∈ v.readings[(3 : Filter)], x ≤ 65535)

include hrange

/-- R169: the condition of a part. -/
theorem partPasses_iff (cal : Calibration) : partPasses cal v p = true ↔ PartMeets p cal v mean := by
  cases p with
  | white => simp [partPasses, PartMeets, partMean_eq hmean, and_assoc]
  | dark => simp [partPasses, PartMeets, partMean_eq hmean]
  | lamp =>
    obtain ⟨-, hmax, hmaxPick⟩ := foldl_max_bounds v.readings[(3 : Filter)] 0
    obtain ⟨-, hmin, hminPick⟩ := foldl_min_bounds v.readings[(3 : Filter)] 65535
    simp only [partPasses, PartMeets, decide_eq_true_iff]
    refine ⟨fun h a ha b hb => ?_, fun h => ?_⟩
    · have hb' := hmax b hb
      have ha' := hmin a ha
      omega
    · obtain hlow | hlow := hminPick
      · obtain hhigh | hhigh := hmaxPick
        · omega
        · have hle := hrange _ hhigh
          omega
      · obtain hhigh | hhigh := hmaxPick
        · omega
        · exact h _ hlow _ hhigh

/-- R170: the figures of a judged part. -/
theorem partFigures_eq {figures : List Nat} (h : FiguresOf p v mean figures) : partFigures v p = figures := by
  cases p with
  | white | dark =>
    rw [show figures = [mean 0, mean 1, mean 2, mean 3] from h, ← partMean_eq hmean]
    rfl
  | lamp =>
    obtain ⟨lo, hi, rfl, hlo, hhi, hall⟩ := h
    obtain ⟨-, hmax, hmaxPick⟩ := foldl_max_bounds v.readings[(3 : Filter)] 0
    obtain ⟨-, hmin, hminPick⟩ := foldl_min_bounds v.readings[(3 : Filter)] 65535
    have hlowest : v.readings[(3 : Filter)].foldl min 65535 = lo := by
      refine le_antisymm (hmin lo hlo) ?_
      obtain heq | hmem := hminPick
      · rw [heq]
        exact hrange lo hlo
      · exact (hall _ hmem).1
    have hhighest : v.readings[(3 : Filter)].foldl max 0 = hi := by
      refine le_antisymm ?_ (hmax hi hhi)
      obtain heq | hmem := hmaxPick
      · rw [heq]
        exact Nat.zero_le hi
      · exact (hall _ hmem).2
    rw [partFigures, hlowest, hhighest]

end Judged

/-- R166, R169: what a part that passes stores. -/
theorem store_eq_calibrated {v : Verify} {mean : Filter → Nat}
    (hmean : ∀ g : Filter, HalfUp (v.readings[g]).sum 8 (mean g)) (p : Part) (cal : Calibration) :
    cal.store v p = calibrated p mean cal := by
  have hvalues : Vector.ofFn (partMean v) = #v[mean 0, mean 1, mean 2, mean 3] := by
    rw [partMean_eq hmean]
    rfl
  cases p <;> simp [Calibration.store, calibrated, hvalues]

/-! ### What the outcome of a part leaves (R170) -/

/-- R168, R170: the outcome of a part moves its test on, or ends it. -/
theorem partEnded_eq {run : TestRun} {s : State} (hcode : run.code = 2 ∨ run.code = 3 ∨ run.code = 4 ∨ run.code = 5)
    (htest : s.colour.verify.test = some run) (o : PartOutcome) :
    partEnded o s = partLeft run o s.colour.cal s := by
  simp only [partEnded, htest, partLeft]
  obtain ⟨part, failure, figures⟩ := o
  obtain ⟨code, outcomes, current⟩ := run
  cases failure with
  | some failure => rfl
  | none => obtain rfl | rfl | rfl | rfl := hcode <;> cases part <;> rfl

/-- R170: the calibration record that a part leaves is the one it names. -/
theorem partLeft_onCal (run : TestRun) (o : PartOutcome) (cal : Calibration) (f : Calibration → Calibration)
    (s : State) : partLeft run o cal (s.onColour fun k => { k with cal := f k.cal }) = partLeft run o cal s := by
  unfold partLeft
  dsimp only
  split <;> rfl

/-- The end of a part leaves the head link, what waits at the sensor, and the state of the engine. -/
theorem partLeft_spec (run : TestRun) (o : PartOutcome) (cal : Calibration) (s : State) :
    (partLeft run o cal s).colour.scan = s.colour.scan ∧ (partLeft run o cal s).colour.measure = s.colour.measure := by
  unfold partLeft
  dsimp only
  split <;> simp

/-- R169: the readings of a part have been discarded. -/
def readingsDropped (s : State) : State :=
  s.onColour fun k => { k with verify := { k.verify with readings := Vector.replicate 4 [], malformed := false } }

section Judge

variable {p : Part} {run : TestRun} {u : State} (hcode : run.code = 2 ∨ run.code = 3 ∨ run.code = 4 ∨ run.code = 5)
  (htest : u.colour.verify.test = some run)

include hcode htest

/-- R169: a part whose readings are not whole has no figures (log 46). -/
theorem judgePart_unread (h : ¬ReadingsWhole p u.colour.verify) :
    judgePart p u = partLeft run { part := p, failure := some .readings, figures := [] } u.colour.cal u := by
  have hwhole : partWhole u.colour.verify p = false := by rwa [← Bool.not_eq_true, partWhole_iff]
  rw [judgePart, if_pos hwhole, partEnded_eq hcode htest]

/-- R169: a part that fails unjudged has no figures (log 46). -/
theorem failPart_eq (cause : PartFailure) : failPart p cause u =
    partLeft run { part := p, failure := some cause, figures := [] } u.colour.cal (readingsDropped u) := by
  rw [failPart, partEnded_eq hcode (run := run) (by exact htest)]
  rfl

variable (hwhole : ReadingsWhole p u.colour.verify) {mean : Filter → Nat} {figures : List Nat}
  (hmean : ∀ g : Filter, HalfUp (u.colour.verify.readings[g]).sum 8 (mean g))
  (hrange : ∀ x ∈ u.colour.verify.readings[(3 : Filter)], x ≤ 65535)
  (hfigures : FiguresOf p u.colour.verify mean figures)

include hwhole hmean hrange hfigures

theorem judgePart_passes (h : PartMeets p u.colour.cal u.colour.verify mean) :
    judgePart p u = partLeft run { part := p, failure := none, figures := figures }
      (calibrated p mean u.colour.cal) u := by
  rw [judgePart, if_neg (by simp [(partWhole_iff p _).2 hwhole]), if_pos ((partPasses_iff hmean hrange _).2 h),
    partFigures_eq hmean hrange hfigures, partEnded_eq hcode (run := run) (by exact htest), partLeft_onCal,
    ← store_eq_calibrated hmean]
  rfl

theorem judgePart_fails (h : ¬PartMeets p u.colour.cal u.colour.verify mean) :
    judgePart p u = partLeft run { part := p, failure := some .condition, figures := figures } u.colour.cal u := by
  rw [judgePart, if_neg (by simp [(partWhole_iff p _).2 hwhole]), if_neg (by rwa [partPasses_iff hmean hrange]),
    partFigures_eq hmean hrange hfigures, partEnded_eq hcode htest]

end Judge

/-! ### The three ways a part ends -/

section Verify

variable {f : Flight} {p : Part} {run : TestRun} {s : State} (hf : s.path.flight = some f) (hwork : f.work = .verify p)

include hwork

/-- R75 to R77: a VERIFY moves no media and has no owner. -/
theorem endFlight_verify (e : Ending) (v : State) : endFlight f e v = completeWork (.verify p) e v := by
  simp only [endFlight, endMove, hwork]
  rfl

theorem finishDone_verify (v : State) : finishDone f v = judgePart p (linkIdle v) := by
  have hrunOut : f.work.isRunOut = false := by rw [hwork]; rfl
  simp only [finishDone, endFlight_verify hwork, hrunOut, Bool.false_eq_true, false_and, if_false]
  rfl

theorem flightRef_verify (s : State) : flightRef s f = { opId := f.opId, kind := .verify, owner := none } := by
  simp only [flightRef, hwork]
  rfl

variable (hcode : run.code = 2 ∨ run.code = 3 ∨ run.code = 4 ∨ run.code = 5)
  (htest : s.colour.verify.test = some run) (hsensor : NoStripAtSensor s)

include hcode htest hsensor

/-- R76, R169: an ABORTED fails the part, whose readings are discarded. -/
theorem finishAborted_verify (d : Nat) : finishAborted f d s.clearOut =
    partLeft run { part := p, failure := some .aborted, figures := [] } s.colour.cal
      (readingsDropped (raise (.opAborted { opId := f.opId, kind := .verify, owner := none } d)
        (linkIdle s.clearOut))) := by
  have hrows : abortedRows s.clearOut f d = d := by simp only [abortedRows, hwork]
  simp only [finishAborted, hrows, flightRef_verify hwork]
  generalize hu : raise (.opAborted { opId := f.opId, kind := .verify, owner := none } d) (linkIdle s.clearOut) = u
  have hcolour : u.colour = s.colour := by rw [← hu]; simp [linkIdle]
  have hend : endFlight f (.aborted d) u =
      partLeft run { part := p, failure := some .aborted, figures := [] } s.colour.cal (readingsDropped u) := by
    rw [endFlight_verify hwork, ← hcolour]
    exact failPart_eq hcode (hcolour ▸ htest) .aborted
  have hdropped : (readingsDropped u).colour.scan = s.colour.scan ∧
      (readingsDropped u).colour.measure = s.colour.measure := by rw [← hcolour]; exact ⟨rfl, rfl⟩
  obtain ⟨hscan, hmeasure⟩ := partLeft_spec run { part := p, failure := some .aborted, figures := [] } s.colour.cal
    (readingsDropped u)
  rw [hend]
  exact sensorEnd_of_none .aborted (hsensor.congr (hscan.trans hdropped.1) (hmeasure.trans hdropped.2))

include hf

/-- R77, R169: so does a HEAD_FAULT. -/
theorem headFault_verify (cause : FaultCause) : headFault cause s.clearOut =
    raise (.headFault cause (some { opId := f.opId, kind := .verify, owner := none }))
      (partLeft run { part := p, failure := some .fault, figures := [] } s.colour.cal
        (readingsDropped (faulted s.clearOut))) := by
  have hend : endFlight f .fault (faulted s.clearOut) =
      partLeft run { part := p, failure := some .fault, figures := [] } s.colour.cal
        (readingsDropped (faulted s.clearOut)) := by
    rw [endFlight_verify hwork]
    exact failPart_eq (u := faulted s.clearOut) hcode htest .fault
  obtain ⟨hscan, hmeasure⟩ := partLeft_spec run { part := p, failure := some .fault, figures := [] } s.colour.cal
    (readingsDropped (faulted s.clearOut))
  rw [headFault_of_flight (s := s.clearOut) hf, flightRef_verify hwork, hend,
    sensorEnd_of_none .fault (hsensor.congr hscan hmeasure)]

end Verify

end Sys2Proof.Machine

/-! ## The ends of FEED, CLEAN and VERIFY, whole (R75 to R77, R91 to R93, R124, R127, R129, R169, R170) -/

namespace Sys2Proof.Machine

/-- R77: the limits of the running timer but a BAND's. -/
theorem runLimit_of_kind {k : OpKind} {n : Nat}
    (h : k = .feed ∧ 10000 ≤ n ∨ k = .clean ∧ 60000 ≤ n ∨ k = .verify ∧ 15000 ≤ n) : runLimit k ≤ n := by
  obtain ⟨rfl, h⟩ | ⟨rfl, h⟩ | ⟨rfl, h⟩ := h <;> exact h

section Feed

variable {f : Flight} {o : Op} {source : FeedSource} {rows : Nat} {live : List Item} {s : State}
  (hwork : f.work = .op o) (hfeed : o.work = .feed source rows)

include hwork hfeed

theorem isRunOut_of_feed : f.work.isRunOut = true ↔ source = .runOut := by
  obtain ⟨serial, owner, work, rest⟩ := o
  subst hfeed
  rw [hwork]
  cases source <;> simp [FlightWork.isRunOut]

theorem flightRef_feed (s : State) : flightRef s f =
    { opId := f.opId, kind := .feed, owner := o.owner.bind fun u => (findItem s u).map Item.id } := by
  obtain ⟨serial, owner, work, rest⟩ := o
  subst hfeed
  simp only [flightRef, hwork]
  rfl

variable (hf : s.path.flight = some f) (hlive : LiveAfterFeed o s live)

include hlive

/-- R75, R129: a DONE of a FEED; a run-out FEED is followed at once by the next. -/
theorem finishDone_feed {u : State}
    (hu : u = afterOwner o (feedLeft f (slipNotices f s) (slippedEngine f s) s.path.readySeen live s)) :
    (source ≠ .runOut ∨ runOutReady u = false → finishDone f s.clearOut = u) ∧
    (source = .runOut → runOutReady u = true → finishDone f s.clearOut = queueRunOut u) := by
  have hrunOut := isRunOut_of_feed hwork hfeed
  simp only [finishDone, endFlight_feed_done hwork hfeed hlive, ← hu, hrunOut]
  refine ⟨fun h => if_neg fun ⟨hsource, hready⟩ => ?_, fun hsource hready => if_pos ⟨hsource, hready⟩⟩
  obtain h | h := h
  · exact h hsource
  · simp [h] at hready

/-- R76: an ABORTED of a FEED with no strip at the sensor. -/
theorem finishAborted_feed (hsensor : NoStripAtSensor s) (d : Nat) : finishAborted f d s.clearOut =
    afterOwner o (feedLeft f [.opAborted (flightRef s f) d] s.path.engine s.path.readySeen live s) := by
  have hrows : abortedRows s.clearOut f d = d := by simp only [abortedRows, hwork]
  have href : flightRef s.clearOut f = flightRef s f := rfl
  obtain ⟨hscan, hmeasure⟩ := feedLeft_sensor (f := f) (o := o) (live := live) (s := s)
    [.opAborted (flightRef s f) d] s.path.engine s.path.readySeen
  rw [finishAborted, hrows, href, endFlight_feed_aborted hwork hfeed hlive,
    sensorEnd_of_none .aborted (hsensor.congr hscan hmeasure)]

include hf

/-- R77: a HEAD_FAULT of a FEED with no strip at the sensor. -/
theorem headFault_feed (hsensor : NoStripAtSensor s) (cause : FaultCause) : headFault cause s.clearOut =
    raise (.headFault cause (some (flightRef s f)))
      (afterOwner o (feedLeft f (slipNotices f s) .fault false live s)) := by
  have href : flightRef s.clearOut f = flightRef s f := rfl
  obtain ⟨hscan, hmeasure⟩ := feedLeft_sensor (f := f) (o := o) (live := live) (s := s)
    (slipNotices f s) .fault false
  rw [headFault_of_flight (s := s.clearOut) hf, href, endFlight_feed_fault hwork hfeed hlive,
    sensorEnd_of_none .fault (hsensor.congr hscan hmeasure)]

end Feed

/-- Settles O47, by the kind of the operation and the way it ends. -/
theorem otherOperationsEnd : Obligations.OtherOperationsEnd := by
  refine ⟨fun opId rows s hother => ⟨waits_of_other rfl hother, waits_of_other rfl hother⟩,
    fun f s hf hphase => leaves_done_fault hf hphase,
    fun f n d deadline s hf hphase => leaves_aborted_fault hf d hphase,
    fun f since s hf hphase hlimit => runningTimerLimit_reached hf hphase (runLimit_of_kind hlimit),
    fun f o source rows ref live s hf hwork hfeed hlive href => ?_,
    fun f o strength flush granted s hf hwork hclean howner hnodup hsensor => ?_,
    fun f p run mean ref s u hf hwork htest hcode href hu => ?_⟩
  · have href' : flightRef s f = ref := (flightRef_feed hwork hfeed s).trans href.symm
    refine ⟨fun since engine u hphase hpoints hengine hu => ?_, fun d hsensor hphase => ?_, fun cause hsensor => ?_⟩
    · have hdone := leaves_done hf hphase hpoints
      obtain ⟨hplain, hnext⟩ := finishDone_feed hwork hfeed hlive (u := u) (by rw [hu, hengine]; rfl)
      refine ⟨fun h => hplain h ▸ hdone, fun stop more n hsource hready hstops hn => ?_⟩
      rw [hnext hsource hready, queueRunOut, hstops] at hdone
      subst hn
      exact hdone
    · rw [← href', ← finishAborted_feed hwork hfeed hlive hsensor]
      exact leaves_aborted hf d hphase
    · rw [← href']
      exact headFault_feed hwork hfeed hf hlive hsensor cause
  · exact ⟨fun since hphase hpoints => done_clean hwork hclean howner hf hnodup hphase hpoints,
      fun d hphase => aborted_clean hwork hclean howner hf hnodup hsensor d hphase,
      fun cause => fault_clean hwork hclean howner hf hnodup hsensor cause⟩
  · subst href hu
    refine ⟨fun since hphase hpoints => ?_, fun d v hsensor hphase hv => ?_, fun cause v hsensor hv => ?_⟩
    · have hdone := leaves_done hf hphase hpoints
      rw [finishDone_verify hwork] at hdone
      refine ⟨fun h => judgePart_unread (u := linkIdle s.clearOut) hcode htest h ▸ hdone,
        fun figures hwhole hmean hrange hfigures => ⟨fun h => ?_, fun h => ?_⟩⟩
      · exact judgePart_passes (u := linkIdle s.clearOut) hcode htest hwhole hmean hrange hfigures h ▸ hdone
      · exact judgePart_fails (u := linkIdle s.clearOut) hcode htest hwhole hmean hrange hfigures h ▸ hdone
    · have haborted := leaves_aborted hf d hphase
      rw [finishAborted_verify hwork hcode htest hsensor] at haborted
      exact hv ▸ haborted
    · rw [headFault_verify hf hwork hcode htest hsensor, hv]
      rfl

end Sys2Proof.Machine

/-! ## The settlement of a band (R67, R75 to R77, R87 to R90, R93, R135) -/

namespace Sys2Proof.Machine

/-! ### Volumes per channel -/

/-- What adding amounts to a volume per channel leaves of the channels that no amount names. -/
theorem addVolumes_other {amounts : List (Chan × Nat)} {c : Chan} (h : c ∉ amounts.map Prod.fst) (v : Vector Nat 12) :
    (addVolumes v amounts)[c] = v[c] := by
  induction amounts generalizing v with
  | nil => rfl
  | cons a amounts ih =>
    rw [List.map_cons, List.mem_cons, not_or] at h
    obtain ⟨hne, hrest⟩ := h
    have hval : a.1.val ≠ c.val := fun heq => hne (Fin.ext heq.symm)
    refine (ih hrest _).trans ?_
    simp [Vector.getElem_set_ne _ _ hval]

/-- Each channel gains the amount that names it, while the sum keeps its width. -/
theorem addVolumes_named {amounts : List (Chan × Nat)} (h : (amounts.map Prod.fst).Nodup) {a : Chan × Nat}
    (ha : a ∈ amounts) (v : Vector Nat 12) : (addVolumes v amounts)[a.1] = countOf 64 (v[a.1] + a.2) := by
  induction amounts generalizing v with
  | nil => simp at ha
  | cons b amounts ih =>
    rw [List.map_cons, List.nodup_cons] at h
    obtain ⟨hfresh, hnodup⟩ := h
    obtain rfl | ha := List.mem_cons.1 ha
    · refine (addVolumes_other hfresh _).trans ?_
      simp
    · have hne : b.1 ≠ a.1 := fun heq => hfresh (heq ▸ List.mem_map_of_mem ha)
      have hval : b.1.val ≠ a.1.val := fun heq => hne (Fin.ext heq)
      refine (ih hnodup ha _).trans ?_
      simp [Vector.getElem_set_ne _ _ hval]

/-! ### The parts of a settlement -/

/-- R135: the stops that wait for the band, spelled by their kind. -/
theorem driedStops_eq (b : Band) (s : State) : driedStops b s = s.media.stops.map fun t =>
    if Stop.awaits b t then t.mapCut fun c => { c with notBefore := some (s.now + dryTime s), lastBand := none }
    else t := by
  refine List.map_congr_left fun t _ => ?_
  obtain ⟨uid, position, item, itemId, panel, kind⟩ := t
  cases kind with
  | measure m => simp [Stop.awaits, Stop.cut?]
  | cut c => simp [Stop.awaits, Stop.cut?, Stop.mapCut, and_assoc]

/-- The amounts that a band's end settles (R88). -/
def settledAmounts (b : Band) (e : Ending) : List (Chan × Nat) := b.held.map fun c => (c.chan, settledDemand b e c)

/-- R88 to R90: the image ink of an item once the band has settled. -/
def imageCharged (b : Band) (e : Ending) (k : Item) : Vector Nat 12 :=
  if b.check then k.imageDpl else addVolumes k.imageDpl (settledAmounts b e)

/-- R88 to R90: the check ink of an item once the band has settled. -/
def checkCharged (b : Band) (e : Ending) (k : Item) : Vector Nat 12 :=
  if b.check then addVolumes k.checkDpl (settledAmounts b e) else k.checkDpl

theorem chargedItems_eq (b : Band) (e : Ending) (s : State) :
    chargedItems b (spentRows b e) (imageCharged b e) (checkCharged b e) s = s.items.live.map fun k =>
      if k.uid = b.item then
        (k.chargeInk b.check (settledAmounts b e)).chargeRows b (spentRows b e) (s.now + dryTime s)
      else k := by
  refine List.map_congr_left fun k _ => ?_
  cases hcheck : b.check <;> simp [Item.chargeInk, Item.chargeRows, imageCharged, checkCharged, hcheck]

/-- A channel that holds no reservation is not settled. -/
theorem not_mem_held {b : Band} {c : Chan} (h : ∀ k ∈ b.channels, k.chan = c → k.reserve = 0) :
    c ∉ b.held.map BandChannel.chan := by
  intro hmem
  obtain ⟨k, hk, rfl⟩ := List.mem_map.1 hmem
  rw [Band.held, List.mem_filter, decide_eq_true_iff] at hk
  have hnone := h k hk.1 rfl
  omega

theorem mem_held {b : Band} {c : BandChannel} (hc : c ∈ b.channels) (hpos : 0 < c.reserve) : c ∈ b.held :=
  List.mem_filter.2 ⟨hc, decide_eq_true hpos⟩

theorem settledAmounts_chans (b : Band) (e : Ending) :
    (settledAmounts b e).map Prod.fst = b.held.map BandChannel.chan := by
  simp [settledAmounts]

/-- R87, R93: the state in which the refills of a settlement begin. -/
def settledLevels (b : Band) (e : Ending) (s : State) : State :=
  mapItem b.item (fun i => (i.chargeInk b.check (settledAmounts b e)).chargeRows b (spentRows b e) (s.now + dryTime s))
    (settleAccounts b e s)

theorem settleBand_eq (b : Band) (e : Ending) (s : State) : settleBand b e s =
    mapCuts (Stop.awaits b) (fun c => { c with notBefore := some (s.now + dryTime s), lastBand := none })
      (dropBand b.serial (forChannels (b.held.map BandChannel.chan) refill (settledLevels b e s))) := rfl

@[simp] theorem settledLevels_frame (b : Band) (e : Ending) (s : State) :
    (settledLevels b e s).now = s.now ∧ (settledLevels b e s).pending = s.pending ∧
    (settledLevels b e s).out = s.out ∧ (settledLevels b e s).link = s.link ∧
    (settledLevels b e s).tables = s.tables ∧ (settledLevels b e s).path = s.path ∧
    (settledLevels b e s).media = s.media ∧ (settledLevels b e s).cutter = s.cutter ∧
    (settledLevels b e s).colour = s.colour ∧ (settledLevels b e s).costing = s.costing := by
  simp [settledLevels]

/-- R87: the ink station but for the accounts. -/
theorem settledLevels_ink (b : Band) (e : Ending) (s : State) :
    (settledLevels b e s).ink = { s.ink with accounts := (settledLevels b e s).ink.accounts } := by
  have hink : (settledLevels b e s).ink = (settleAccounts b e s).ink := by simp [settledLevels]
  rw [hink, settleAccounts, foldl_mapAccount_eq BandChannel.chan fun c =>
    Account.settle (settledDemand b e c) c.reserve]
  rfl

section Fields

variable (b : Band) (e : Ending) (s : State)

theorem settleBand_path : (settleBand b e s).path = { s.path with
    store := s.path.store.filter fun a => a.serial != b.serial,
    queue := s.path.queue.filter fun q => q != .band b.serial } := by
  simp [settleBand_eq, dropBand]

theorem settleBand_media : (settleBand b e s).media = { s.media with stops := driedStops b s } := by
  simp [settleBand_eq, mapCuts, driedStops_eq]

theorem settleBand_items : (settleBand b e s).items =
    { s.items with live := chargedItems b (spentRows b e) (imageCharged b e) (checkCharged b e) s } := by
  rw [chargedItems_eq]
  simp [settleBand_eq, settledLevels, mapItem]

theorem settleBand_ink : (settleBand b e s).ink =
    (forChannels (b.held.map BandChannel.chan) refill (settledLevels b e s)).ink := by
  simp [settleBand_eq]

end Fields

/-- An ink station whose list and flags are those of another is that one but for its accounts and slots. -/
theorem inkStation_eq {k l : InkStation} (h : k.recent = l.recent ∧ k.waits = l.waits ∧ k.waitAsker = l.waitAsker) :
    k = { l with accounts := k.accounts, slots := k.slots } := by
  obtain ⟨hrecent, hwaits, hasker⟩ := h
  rw [← hrecent, ← hwaits, ← hasker]

/-! ### The channels of a settlement (R87, R93) -/

section Channels

variable {b : Band} {e : Ending} {s : State}

/-- R88: a channel on which the band holds no reservation is not touched. -/
theorem settleBand_other {c : Chan} (h : ∀ k ∈ b.channels, k.chan = c → k.reserve = 0) :
    account (settleBand b e s) c = account s c ∧ slot (settleBand b e s) c = slot s c := by
  have hlevels : (settledLevels b e s).ink = (settleAccounts b e s).ink := by simp [settledLevels]
  obtain ⟨-, -, hslot, haccount, -⟩ := forChannels_sameAt onChannel_refill (not_mem_held h) (settledLevels b e s)
  have hslots : slot (settledLevels b e s) c = slot s c := by rw [slot, settledLevels_ink, slot]
  have hsettled : account (settleAccounts b e s) c = account s c := by
    have hother (l : List BandChannel) (hl : c ∉ l.map BandChannel.chan) (t : State) :
        account (l.foldl (fun s k => mapAccount k.chan (Account.settle (settledDemand b e k) k.reserve) s) t) c =
          account t c := by
      induction l generalizing t with
      | nil => rfl
      | cons k l ih =>
        rw [List.map_cons, List.mem_cons, not_or] at hl
        exact (ih hl.2 _).trans (account_mapAccount_of_ne hl.1 _ t)
    exact hother b.held (not_mem_held h) s
  exact ⟨(account_congr (settleBand_ink b e s) c).trans (haccount.trans ((account_congr hlevels c).trans hsettled)),
    (slot_congr (settleBand_ink b e s) c).trans (hslot.trans hslots)⟩

/-- R87, R93: a channel on which the band holds a reservation settles its demand, and its cartridge refills it. -/
theorem settleBand_held (hnodup : (b.channels.map BandChannel.chan).Nodup) {c : BandChannel} (hc : c ∈ b.channels)
    (hpos : 0 < c.reserve) : ∃ u, u.now = s.now ∧ u.tables = s.tables ∧ slot u c.chan = slot s c.chan ∧
      account u c.chan = Account.settle (settledDemand b e c) c.reserve (account s c.chan) ∧
      slot (settleBand b e s) c.chan = slot (refill c.chan u) c.chan ∧
      account (settleBand b e s) c.chan = account (refill c.chan u) c.chan := by
  have hheld : (b.held.map BandChannel.chan).Nodup := hnodup.sublist (List.filter_sublist.map _)
  have hlevels : (settledLevels b e s).ink = (settleAccounts b e s).ink := by simp [settledLevels]
  obtain ⟨hnamed, -⟩ := foldl_mapAccount BandChannel.chan
    (fun c => Account.settle (settledDemand b e c) c.reserve) hheld s
  have hsettled := (account_congr hlevels c.chan).trans (hnamed c (mem_held hc hpos))
  have hslots : slot (settledLevels b e s) c.chan = slot s c.chan := by rw [slot, settledLevels_ink, slot]
  obtain ⟨u, ⟨hnow, htables, hslot, haccount, -⟩, -, -, hlast, hlastAccount, -⟩ :=
    refilled_forChannels hheld (List.mem_map_of_mem (mem_held hc hpos)) (settledLevels b e s)
  exact ⟨u, hnow.trans (by simp), htables.trans (by simp), hslot.trans hslots, haccount.trans hsettled,
    (slot_congr (settleBand_ink b e s) c.chan).trans hlast,
    (account_congr (settleBand_ink b e s) c.chan).trans hlastAccount⟩

variable (b e s) in
/-- R93: the recent cartridge list and the wait flags stand. -/
theorem settleBand_inkRest : (settleBand b e s).ink.recent = s.ink.recent ∧
    (settleBand b e s).ink.waits = s.ink.waits ∧ (settleBand b e s).ink.waitAsker = s.ink.waitAsker := by
  obtain ⟨hwaits, hasker⟩ := forChannels_waits onChannel_refill (b.held.map BandChannel.chan) (settledLevels b e s)
  rw [settleBand_ink, recent_forRefill, hwaits, hasker, settledLevels_ink]
  exact ⟨rfl, rfl, rfl⟩

/-- R93: where no cartridge of the band gives ink, the settlement raises and sends nothing. -/
theorem settleBand_quiet (h : ∀ c ∈ b.channels, 0 < c.reserve → (slot s c.chan).cart.supplies = false) :
    (settleBand b e s).link = s.link ∧ (settleBand b e s).out = s.out := by
  have hnone (cs : List Chan) (t : State) (ht : ∀ c ∈ cs, (slot t c).cart.supplies = false) :
      forChannels cs refill t = t := by
    induction cs with
    | nil => rfl
    | cons c cs ih =>
      have hstays := refill_of_nothing c t fun hs => absurd hs (by simp [ht c (by simp)])
      rw [forChannels, List.foldl_cons, hstays]
      exact ih fun d hd => ht d (List.mem_cons_of_mem c hd)
  have hrefills : forChannels (b.held.map BandChannel.chan) refill (settledLevels b e s) = settledLevels b e s := by
    refine hnone _ _ fun c hc => ?_
    obtain ⟨k, hk, rfl⟩ := List.mem_map.1 hc
    rw [Band.held, List.mem_filter, decide_eq_true_iff] at hk
    have hslots : slot (settledLevels b e s) k.chan = slot s k.chan := by rw [slot, settledLevels_ink, slot]
    rw [hslots]
    exact h k hk.1 hk.2
  rw [settleBand_eq, hrefills]
  simp

end Channels

/-! ### What a settlement leaves, before the end of the move -/

/-- The operation that was in flight has stopped, with the notices `first`: the state in which its end takes effect. -/
def Stopped (first : List Notice) (s v : State) : Prop :=
  OnlyChanges [.link, .path] s v ∧
  v.path = { s.path with flight := none, engine := v.path.engine, readySeen := v.path.readySeen } ∧
  v.link = (raiseAll first s).link ∧ v.out = []

theorem stopped_idle (s : State) (engine : Engine) (seen : Bool) :
    Stopped [] s (s.clearOut.onPath fun p => { p with flight := none, engine := engine, readySeen := seen }) :=
  ⟨onlyChanges_idle s none engine seen, rfl, rfl, rfl⟩

theorem Stopped.raise {first : List Notice} {s v : State} (h : Stopped first s v) (n : Notice) :
    Stopped (first ++ [n]) s (raise n v) := by
  obtain ⟨hchanges, hpath, hlink, hout⟩ := h
  have htables : v.tables = s.tables := hchanges.same (b := .tables) (by simp)
  refine ⟨hchanges.trans ((onlyChanges_raise n v).mono (by simp)), by simpa using hpath, ?_, by simpa using hout⟩
  rw [raiseAll_append]
  exact raise_link_congr n hlink (htables.trans (by rw [raiseAll_eq])) (hchanges.1.trans (by rw [raiseAll_eq]))

/-- R67, R75 to R77, R87 to R90, R135: the settlement of a band, in a state that has noted its end. -/
theorem bandGone_settleBand {first : List Notice} {s v : State} (hv : Stopped first s v) (b : Band) (e : Ending) :
    BandGone b (spentRows b e) first s (settleBand b e v) := by
  obtain ⟨hchanges, hpath, hlink, hout⟩ := hv
  have hnow : v.now = s.now := hchanges.1
  have htables : v.tables = s.tables := hchanges.same (b := .tables) (by simp)
  have hitems : v.items = s.items := hchanges.same (b := .items) (by simp)
  have hink : v.ink = s.ink := hchanges.same (b := .ink) (by simp)
  have hmedia : v.media = s.media := hchanges.same (b := .media) (by simp)
  have hcutter : v.cutter = s.cutter := hchanges.same (b := .cutter) (by simp)
  have hcolour : v.colour = s.colour := hchanges.same (b := .colour) (by simp)
  have hcosting : v.costing = s.costing := hchanges.same (b := .costing) (by simp)
  have hdry : dryTime v = dryTime s := by simp only [dryTime, htables]
  have hdried : driedStops b v = driedStops b s := by simp only [driedStops, hmedia, hnow, hdry]
  have hcharged (rows : Nat) (image check : Item → Vector Nat 12) :
      chargedItems b rows image check v = chargedItems b rows image check s := by
    simp only [chargedItems, hitems, hnow, hdry]
  have hother {c : Chan} (h : ∀ x ∈ b.channels, x.chan = c → x.reserve = 0) (d : Vector Nat 12) :
      (addVolumes d (settledAmounts b e))[c] = d[c] :=
    addVolumes_other (settledAmounts_chans b e ▸ not_mem_held h) d
  refine ⟨by simp [hnow], by simp [hchanges.2.1], by simp [htables],
    by simp [hcutter], by simp [hcolour], by simp [hcosting], ?_, ?_, ?_, ?_, fun c h => ?_, fun h => ?_⟩
  · rw [settleBand_path, hpath]
  · rw [settleBand_media, hmedia, hdried]
  · refine ⟨imageCharged b e, checkCharged b e, ?_, fun k => ⟨fun h => if_pos h, fun h => if_neg (by simp [h]),
      fun c h => ⟨?_, ?_⟩⟩⟩
    · rw [settleBand_items, hitems, hcharged]
    · unfold imageCharged
      split
      · rfl
      · exact hother h _
    · unfold checkCharged
      split
      · exact hother h _
      · rfl
  · rw [inkStation_eq (settleBand_inkRest b e v), hink]
  · obtain ⟨haccount, hslot⟩ := settleBand_other (e := e) (s := v) h
    exact ⟨haccount.trans (account_congr hink c), hslot.trans (slot_congr hink c)⟩
  · have hquiet : ∀ c ∈ b.channels, 0 < c.reserve → (slot v c.chan).cart.supplies = false := fun c hc hpos => by
      rw [slot_congr hink]
      exact h c hc hpos
    obtain ⟨hsame, hsent⟩ := settleBand_quiet (e := e) hquiet
    exact ⟨hsame.trans hlink, hsent.trans hout⟩

end Sys2Proof.Machine

/-! ## What follows the settlement of a band (R52, R75 to R77, R148, R151, R152) -/

namespace Sys2Proof.Machine

/-! ### The figures of an item that a settlement writes -/

/-- The figures of an item that the settlement of a band writes. -/
def Item.bandKey (k : Item) : Option Time × Option Nat × Nat × Nat × Nat × Vector Nat 12 × Vector Nat 12 :=
  (k.dryMark, k.lastSettled, k.rowsPrinted, k.imageRows, k.checkRows, k.imageDpl, k.checkDpl)

/-- The live items are those there were, but for what the items `u` have beside the figures of a settlement, and
for those of them that are gone. -/
def ItemMoves (u : Nat) (s t : State) : Prop :=
  t.items.planRow = s.items.planRow ∧
  (∀ k ∈ t.items.live, ∃ k₀ ∈ s.items.live, k.uid = k₀.uid ∧ k.bandKey = k₀.bandKey ∧ (k.uid ≠ u → k = k₀)) ∧
  ∀ k ∈ s.items.live, k.uid ≠ u → k ∈ t.items.live

section ItemMoves

variable {u : Nat} {r s t : State}

theorem ItemMoves.of_live (hplan : t.items.planRow = s.items.planRow) (hlive : t.items.live = s.items.live) :
    ItemMoves u s t := by
  rw [ItemMoves, hlive]
  exact ⟨hplan, fun k hk => ⟨k, hk, rfl, rfl, fun _ => rfl⟩, fun _ hk _ => hk⟩

theorem ItemMoves.of_items (h : t.items = s.items) : ItemMoves u s t := .of_live (by rw [h]) (by rw [h])

theorem ItemMoves.trans (hr : ItemMoves u r s) (hs : ItemMoves u s t) : ItemMoves u r t := by
  obtain ⟨hplan, horigin, hmem⟩ := hr
  obtain ⟨hplan', horigin', hmem'⟩ := hs
  refine ⟨hplan'.trans hplan, fun k hk => ?_, fun k hk hu => hmem' k (hmem k hk hu) hu⟩
  obtain ⟨k₁, hk₁, huid', hkey', hkeep'⟩ := horigin' k hk
  obtain ⟨k₀, hk₀, huid, hkey, hkeep⟩ := horigin k₁ hk₁
  exact ⟨k₀, hk₀, huid'.trans huid, hkey'.trans hkey, fun hu => (hkeep' hu).trans (hkeep (huid' ▸ hu))⟩

theorem itemMoves_mapItem (s : State) {f : Item → Item} (huid : ∀ k, (f k).uid = k.uid)
    (hkey : ∀ k, (f k).bandKey = k.bandKey) : ItemMoves u s (mapItem u f s) := by
  have honly := onlyItem_mapItem (u := u) (g := Item.bandKey) s huid hkey
  exact ⟨rfl, fun k hk => honly.origin hk, fun k hk hu => honly.mem_of_ne hk hu⟩

/-- R52: an item that closes leaves the live items. -/
theorem itemMoves_closeItem (u : Nat) (s : State) : ItemMoves u s (closeItem u s) := by
  cases hi : findItem s u with
  | none => exact .of_items (by simp only [closeItem, hi])
  | some i =>
    obtain ⟨-, rfl⟩ := mem_of_findItem hi
    obtain ⟨hlive, -⟩ := closeItem_spec hi
    have hsettled (n : Nat) (t : State) : (settleJob n t).items.planRow = t.items.planRow := by
      unfold settleJob
      (repeat' split) <;> rfl
    have hplan : (closeItem i.uid s).items.planRow = s.items.planRow := by
      simp [closeItem, hi, hsettled, mapJob, releaseReservation, mapItem]
    refine ⟨hplan, fun k hk => ⟨k, ?_, rfl, rfl, fun _ => rfl⟩, fun k hk hu => ?_⟩
    · rw [hlive] at hk
      exact List.mem_of_mem_filter hk
    · simpa [hlive, hk] using hu

theorem itemMoves_priceItem (u : Nat) (s : State) : ItemMoves u s (priceItem u s) := by
  unfold priceItem
  split
  · dsimp only
    generalize hw : mapJob _ _ _ = w
    have hmoved : ItemMoves u s w := .of_live (by simp [← hw, mapJob]) (by simp [← hw])
    exact hmoved.trans (itemMoves_closeItem u w)
  · exact .of_items rfl

theorem itemMoves_toSettling (u : Nat) (s : State) : ItemMoves u s (toSettling u s) := by
  unfold toSettling
  split
  · split
    · exact .of_items rfl
    · split
      · exact (itemMoves_mapItem s (f := fun k => { k with state := .settling }) (fun _ => rfl) fun _ => rfl).trans
          (.of_items (by simp))
      · split
        · exact itemMoves_mapItem s (f := fun k => { k with under := some .settling }) (fun _ => rfl) fun _ => rfl
        · exact .of_items rfl
  · exact .of_items rfl

theorem itemMoves_toCosting (u : Nat) (s : State) : ItemMoves u s (toCosting u s) := by
  unfold toCosting
  split
  · split
    · dsimp only
      generalize hw : State.onCosting _ _ = w
      have hmoved : ItemMoves u s w := by
        subst hw
        exact (itemMoves_mapItem s (f := fun k => { k with state := .costing }) (fun _ => rfl) fun _ => rfl).trans
          (.of_items (by simp))
      split
      · exact hmoved.trans (itemMoves_priceItem u w)
      · exact hmoved
    · exact .of_items rfl
  · exact .of_items rfl

/-- R52: the moves of an item. -/
theorem itemMoves_advanceItem (u : Nat) (s : State) : ItemMoves u s (advanceItem u s) :=
  (itemMoves_toSettling u s).trans (itemMoves_toCosting u _)

end ItemMoves

/-! ### What stands at the sensor when the operation has ended (R148, R151, R152) -/

/-- The blocks that the moves of an item and the end of an action change. -/
def afterBlocks : List Block := [.link, .items, .media, .colour, .costing]

/-- What follows the settlement of a band leaves of it: the band path, the ink station, the plan row, and of the live
items the figures it has written. -/
def SettledKept (x t : State) : Prop :=
  OnlyChanges afterBlocks x t ∧ t.items.planRow = x.items.planRow ∧
  ∀ k ∈ t.items.live, ∃ k₀ ∈ x.items.live, k.uid = k₀.uid ∧ k.bandKey = k₀.bandKey

/-- Each stop but those `gone` is still in the list, but for its hold. -/
def StopsKept (gone : Nat → Prop) (x t : State) : Prop :=
  ∀ q ∈ x.media.stops, ¬gone q.uid → ∃ w ∈ t.media.stops, w.unheld = q.unheld

section Kept

variable {gone gone' : Nat → Prop} {r s t : State}

theorem SettledKept.trans (hr : SettledKept r s) (hs : SettledKept s t) : SettledKept r t := by
  obtain ⟨hchanges, hplan, hitems⟩ := hr
  obtain ⟨hchanges', hplan', hitems'⟩ := hs
  refine ⟨hchanges.trans hchanges', hplan'.trans hplan, fun k hk => ?_⟩
  obtain ⟨k₁, hk₁, huid', hkey'⟩ := hitems' k hk
  obtain ⟨k₀, hk₀, huid, hkey⟩ := hitems k₁ hk₁
  exact ⟨k₀, hk₀, huid'.trans huid, hkey'.trans hkey⟩

theorem SettledKept.of_moves {u : Nat} (hchanges : OnlyChanges afterBlocks s t) (h : ItemMoves u s t) :
    SettledKept s t := by
  obtain ⟨hplan, horigin, -⟩ := h
  refine ⟨hchanges, hplan, fun k hk => ?_⟩
  obtain ⟨k₀, hk₀, huid, hkey, -⟩ := horigin k hk
  exact ⟨k₀, hk₀, huid, hkey⟩

theorem SettledKept.of_items (hchanges : OnlyChanges afterBlocks s t) (h : t.items = s.items) : SettledKept s t :=
  .of_moves hchanges (.of_items (u := 0) h)

theorem SettledKept.refl (s : State) : SettledKept s s := .of_items ⟨rfl, rfl, fun b _ => by cases b <;> rfl⟩ rfl

theorem unheld_uid {q w : Stop} (h : w.unheld = q.unheld) : w.uid = q.uid := by
  have huid (a : Stop) : a.unheld.uid = a.uid := by
    obtain ⟨uid, position, item, itemId, panel, kind⟩ := a
    cases kind <;> rfl
  rw [← huid w, h, huid q]

theorem StopsKept.trans (hr : StopsKept gone r s) (hs : StopsKept gone' s t) :
    StopsKept (fun n => gone n ∨ gone' n) r t := by
  intro q hq hnot
  rw [not_or] at hnot
  obtain ⟨w, hw, huw⟩ := hr q hq hnot.1
  obtain ⟨z, hz, huz⟩ := hs w hw (unheld_uid huw ▸ hnot.2)
  exact ⟨z, hz, huz.trans huw⟩

theorem StopsKept.of_stops (h : t.media.stops = s.media.stops) : StopsKept gone s t :=
  fun q hq _ => ⟨q, h ▸ hq, rfl⟩

theorem StopsKept.before (h : StopsKept gone r s) (ht : t.media.stops = s.media.stops) : StopsKept gone r t := by
  rw [StopsKept, ht]
  exact h

/-- R129: the look at the run-out wait leaves the stop list. -/
theorem keepRunOut_stops (s : State) : (keepRunOut s).media.stops = s.media.stops := by
  unfold keepRunOut
  split <;> rfl

theorem HoldsOnly.stopsKept (h : HoldsOnly s t) : StopsKept gone s t := by
  intro q hq _
  obtain ⟨w, hw, huw⟩ := List.mem_map.1 (h.2 ▸ List.mem_map_of_mem hq)
  exact ⟨w, hw, huw⟩

end Kept

section Steps

theorem settledKept_raise (n : Notice) (s : State) : SettledKept s (raise n s) :=
  .of_items ((onlyChanges_raise n s).mono (by simp [afterBlocks])) (by simp)

theorem settledKept_keepRunOut (s : State) : SettledKept s (keepRunOut s) :=
  .of_items ((onlyChanges_keepRunOut s).mono (by simp [afterBlocks])) (by simp)

theorem settledKept_advanceItem (u : Nat) (s : State) : SettledKept s (advanceItem u s) := by
  refine .of_moves ⟨by simp, by simp, fun b hb => ?_⟩ (itemMoves_advanceItem u s)
  cases b with
  | link | items | media | colour | costing => exact absurd (by simp [afterBlocks]) hb
  | tables | path | ink | cutter => simp [SameBlock]

theorem settledKept_onColour (f : Colour → Colour) (s : State) : SettledKept s (s.onColour f) := by
  refine .of_items ⟨rfl, rfl, fun b hb => ?_⟩ rfl
  cases b with
  | colour => exact absurd (by simp [afterBlocks]) hb
  | _ => rfl

theorem settledKept_dropStop (uid : Nat) (s : State) : SettledKept s (dropStop uid s) := by
  refine .of_items ⟨rfl, rfl, fun b hb => ?_⟩ rfl
  cases b with
  | media => exact absurd (by simp [afterBlocks]) hb
  | _ => rfl

theorem settledKept_unreadIfMeasure (q : Stop) (s : State) : SettledKept s (unreadIfMeasure q s) := by
  have hrecord (m : MeasureStop) : SettledKept s (recordUnread q m s) := by
    have hmerged : ItemMoves q.item s (mergeVerdict q.item (q.panel.getD 0) .incomplete s) := by
      have hset (v : Verdict) : ItemMoves q.item s (mapItem q.item (setVerdict (q.panel.getD 0) v) s) :=
        itemMoves_mapItem s (fun _ => rfl) fun _ => rfl
      obtain ⟨-, heq⟩ | ⟨i, old, -, -, ⟨-, heq⟩ | ⟨m, -, heq⟩⟩ :=
        mergeVerdict_cases q.item (q.panel.getD 0) .incomplete s
      · exact .of_items (by rw [heq])
      · rw [heq, panelJudged_incomplete]
        exact hset _
      · rw [heq, panelJudged_incomplete]
        exact (hset (old.worse .incomplete)).trans (.of_items (by simp))
    exact .of_moves ((recordUnread_onlyChanges q m s).mono (by simp [afterBlocks]))
      (hmerged.trans (.of_items (by simp [recordUnread])))
  by_cases hscanned : BeingScanned s q
  · rw [unreadIfMeasure_of_scanned hscanned]
    exact .refl _
  · cases hkind : q.kind with
    | cut c =>
      rw [unreadIfMeasure_of_cut hkind]
      exact .refl _
    | measure m =>
      rw [unreadIfMeasure_of_measure hkind hscanned]
      exact hrecord m

theorem stopsKept_dropStop (uid : Nat) (s : State) : StopsKept (· = uid) s (dropStop uid s) := by
  intro q hq hne
  exact ⟨q, List.mem_filter.2 ⟨hq, by simpa using hne⟩, rfl⟩

/-- R128: the end of an action on an IDLE link sends no PROCEED. -/
theorem actionEnded_idle {uid : Nat} {s : State} (hidle : s.path.flight = none) :
    SettledKept s (actionEnded uid none s) ∧ StopsKept (· = uid) s (actionEnded uid none s) ∧
    (actionEnded uid none s).colour.scan = s.colour.scan ∧
    (actionEnded uid none s).colour.measure = s.colour.measure := by
  have hpaused (t : State) (ht : t.path = s.path) : proceed uid t = t := by
    simp only [proceed, ht, hidle]
  unfold actionEnded
  dsimp only
  cases hfind : findStop s uid with
  | none =>
    dsimp only
    rw [hpaused s rfl]
    exact ⟨.refl _, .of_stops rfl, rfl, rfl⟩
  | some q =>
    have huid : q.uid = uid := by simpa [findStop] using List.find?_some hfind
    dsimp only
    rw [hpaused _ (by simp), removeStop, huid]
    obtain ⟨-, hstops, -⟩ := stopsLeft_advanceItem q.item (dropStop uid s)
    obtain ⟨hscan, hmeasure, -⟩ := advanceItem_sensor q.item (dropStop uid s)
    refine ⟨(settledKept_dropStop uid s).trans (settledKept_advanceItem _ _), fun w hw hne => ?_,
      hscan.trans rfl, hmeasure.trans rfl⟩
    rw [hstops]
    exact stopsKept_dropStop uid s w hw hne

end Steps

/-- R148, R151, R152: the end of what stands at the sensor, on an IDLE link. -/
theorem sensorEnd_kept (cause : EndCause) {s : State} (hidle : s.path.flight = none) :
    SettledKept s (endMeasureUnread (endScan cause s)) ∧
    StopsKept (fun n => (∃ c, s.colour.scan = some c ∧ c.stop = n) ∨ s.colour.measure = some n) s
      (endMeasureUnread (endScan cause s)) := by
  have hscan : SettledKept s (endScan cause s) ∧
      StopsKept (fun n => ∃ c, s.colour.scan = some c ∧ c.stop = n) s (endScan cause s) ∧
      (endScan cause s).colour.measure = s.colour.measure := by
    unfold endScan
    split
    · next c hc =>
      split
      · obtain ⟨hkept, hstops, -, hmeasure⟩ := actionEnded_idle (uid := c.stop) (s := s.onColour fun k => { k with
          scan := some { c with
            patches := c.patches.map ScanPatch.close, deadline := none, ended := some cause } }) hidle
        exact ⟨(settledKept_onColour _ s).trans hkept, fun q hq hne => hstops q hq fun h => hne ⟨c, hc, h.symm⟩,
          hmeasure⟩
      · exact ⟨.refl _, .of_stops rfl, rfl⟩
    · exact ⟨.refl _, .of_stops rfl, rfl⟩
  obtain ⟨hkept, hstops, hmeasure⟩ := hscan
  generalize endScan cause s = y at hkept hstops hmeasure
  have hyidle : y.path.flight = none := by
    have hpath : y.path = s.path := hkept.1.same (b := .path) (by simp [afterBlocks])
    rw [hpath, hidle]
  have hunread : SettledKept y (endMeasureUnread y) ∧
      StopsKept (fun n => y.colour.measure = some n) y (endMeasureUnread y) := by
    unfold endMeasureUnread
    split
    · exact ⟨.refl _, .of_stops rfl⟩
    · next uid huid =>
      dsimp only
      split
      · next q hq =>
        obtain ⟨hholds, -⟩ := unreadIfMeasure_spec q (y.onColour fun c => { c with measure := none })
        have hread := settledKept_unreadIfMeasure q (y.onColour fun c => { c with measure := none })
        obtain ⟨hended, hgone, -⟩ := actionEnded_idle (uid := uid)
          (s := unreadIfMeasure q (y.onColour fun c => { c with measure := none })) (by simpa using hyidle)
        refine ⟨((settledKept_onColour _ y).trans hread).trans hended, fun w hw hne => ?_⟩
        obtain ⟨z, hz, huz⟩ := (hholds.stopsKept (gone := fun _ => False)).trans hgone w hw
          (by simpa [huid, eq_comm] using hne)
        exact ⟨z, hz, huz⟩
      · have hsame : proceed uid (y.onColour fun c => { c with measure := none }) =
            y.onColour fun c => { c with measure := none } := by
          simp only [proceed, State.onColour_path, hyidle]
        rw [hsame]
        exact ⟨settledKept_onColour _ y, .of_stops rfl⟩
  rw [hmeasure] at hunread
  exact ⟨hkept.trans hunread.1, hstops.trans hunread.2⟩

end Sys2Proof.Machine

/-! ## The end of a BAND, whole (R75 to R77, R87 to R90, R93, R124, R127, R135) -/

namespace Sys2Proof.Machine

section Band

variable {f : Flight} {b : Band} {e : Ending} {first : List Notice} {s v : State}

/-- R75 to R77: the end of a BAND settles it, ends its move, and looks at its item. -/
theorem endFlight_band (hwork : f.work = .band b.serial) (hband : findBand s b.serial = some b)
    (hv : Stopped first s v) (e : Ending) :
    endFlight f e v = advanceItem b.item (endMove f e (settleBand b e v)) := by
  obtain ⟨-, hpath, -⟩ := hv
  have hfound : findBand v b.serial = some b := by rw [findBand, hpath]; exact hband
  simp only [endFlight, hwork, workOwner, completeWork, hfound, Option.map_some, endAbortFeed]

theorem movesMedia_of_band (hwork : f.work = .band b.serial) : f.work.movesMedia = true := by rw [hwork]; rfl

theorem settleBand_idle (hv : Stopped first s v) : (settleBand b e v).path.flight = none := by
  obtain ⟨-, hpath, -⟩ := hv
  rw [settleBand_path, hpath]

/-- R124: a DONE and a HEAD_FAULT compare the rows moved, which the settlement leaves. -/
theorem endMove_settled (hwork : f.work = .band b.serial) (hv : Stopped first s v) (he : e.compares = true) :
    endMove f e (settleBand b e v) = moveEnded f (slipNotices f s)
      (if slipNotices f s ≠ [] ∧ v.path.engine = .running then .paused else v.path.engine) v.path.readySeen
      (settleBand b e v) := by
  have hmedia : v.media = s.media := hv.1.same (b := .media) (by simp)
  have hnotes : slipNotices f (settleBand b e v) = slipNotices f s :=
    slipNotices_congr f (by rw [settleBand_media, hmedia]) (by rw [settleBand_media, hmedia])
  rw [endMove_compares (movesMedia_of_band hwork) (settleBand_idle hv) he, slippedEngine, hnotes, settleBand_path]

theorem endMove_settled_aborted (hwork : f.work = .band b.serial) (hv : Stopped first s v) (d : Nat) :
    endMove f (.aborted d) (settleBand b (.aborted d) v) =
      moveEnded f [] v.path.engine v.path.readySeen (settleBand b (.aborted d) v) := by
  rw [endMove_aborted (movesMedia_of_band hwork) (settleBand_idle hv), settleBand_path]

/-! ### What is left once the item of the band has been looked at -/

/-- R87 to R90: what the settlement of a band leaves of its item. -/
theorem settled_item (hv : OnlyChanges [.link, .path] s v) (hnodup : (b.channels.map BandChannel.chan).Nodup)
    (huids : (s.items.live.map Item.uid).Nodup) {i : Item} (hi : findItem s b.item = some i) {k : Item}
    (hk : k ∈ (settleBand b e v).items.live) (huid : k.uid = b.item) :
    k.dryMark = some (s.now + dryTime s) ∧ k.lastSettled = some b.serial ∧
    k.rowsPrinted = i.rowsPrinted + spentRows b e ∧
    k.imageRows = i.imageRows + (if b.check then 0 else spentRows b e) ∧
    k.checkRows = i.checkRows + (if b.check then spentRows b e else 0) ∧
    ∀ c ∈ b.channels, 0 < c.reserve →
      (b.check = false → i.imageDpl[c.chan] + settledDemand b e c < 2 ^ 64 →
        k.imageDpl[c.chan] = i.imageDpl[c.chan] + settledDemand b e c) ∧
      (b.check = true → i.checkDpl[c.chan] + settledDemand b e c < 2 ^ 64 →
        k.checkDpl[c.chan] = i.checkDpl[c.chan] + settledDemand b e c) := by
  obtain ⟨hmem, hitem⟩ := mem_of_findItem hi
  have hitems : v.items = s.items := hv.same (b := .items) (by simp)
  have htables : v.tables = s.tables := hv.same (b := .tables) (by simp)
  have hmark : v.now + dryTime v = s.now + dryTime s := by rw [hv.1, dryTime, htables, dryTime]
  rw [settleBand_items, chargedItems, hitems] at hk
  obtain ⟨k₀, hk₀, hcharged⟩ := List.mem_map.1 hk
  have huid₀ : k₀.uid = b.item := by
    by_contra hne
    rw [if_neg hne] at hcharged
    exact hne (hcharged ▸ huid)
  obtain rfl : k₀ = i := List.inj_on_of_nodup_map huids hk₀ hmem (huid₀.trans hitem.symm)
  rw [if_pos huid₀, hmark] at hcharged
  subst hcharged
  refine ⟨rfl, rfl, rfl, rfl, rfl, fun c hc hpos => ?_⟩
  have hamount : (c.chan, settledDemand b e c) ∈ settledAmounts b e :=
    List.mem_map.2 ⟨c, mem_held hc hpos, rfl⟩
  have hchans : ((settledAmounts b e).map Prod.fst).Nodup :=
    settledAmounts_chans b e ▸ hnodup.sublist (List.filter_sublist.map _)
  refine ⟨fun hcheck hfit => ?_, fun hcheck hfit => ?_⟩
  · dsimp only
    rw [imageCharged, if_neg (by simp [hcheck])]
    exact (addVolumes_named hchans hamount _).trans (countOf_of_lt hfit)
  · dsimp only
    rw [checkCharged, if_pos hcheck]
    exact (addVolumes_named hchans hamount _).trans (countOf_of_lt hfit)

/-- R87, R93: what the settlement of a band leaves of a channel on which it holds a reservation. -/
theorem settled_channel (hv : OnlyChanges [.link, .path] s v) (hnodup : (b.channels.map BandChannel.chan).Nodup)
    {c : BandChannel} (hc : c ∈ b.channels) (hpos : 0 < c.reserve) {t : State}
    (ht : t.ink = (settleBand b e v).ink) : ∃ old new x, old = s.ink.accounts[c.chan] ∧
      new = t.ink.accounts[c.chan] ∧ x = settledDemand b e c + old.residue ∧
      new.residue = x % 10000 ∧ new.reserved = old.reserved - c.reserve ∧ new.flushed = old.flushed ∧
      (old.consumed + x / 10000 < 2 ^ 64 → new.consumed = old.consumed + x / 10000) ∧
      Refilled c.chan (old.subTank - x / 10000) s t := by
  have hink : v.ink = s.ink := hv.same (b := .ink) (by simp)
  have htables : v.tables = s.tables := hv.same (b := .tables) (by simp)
  obtain ⟨u, hnow, htables', hslot, haccount, hlast, hlastAccount⟩ := settleBand_held (e := e) (s := v) hnodup hc hpos
  rw [account_congr hink] at haccount
  rw [← account_congr ht] at hlastAccount
  rw [← slot_congr ht] at hlast
  obtain ⟨hreserved, hresidue, hconsumed, hflushed⟩ := refill_keeps c.chan u
  rw [← hlastAccount, haccount] at hreserved hresidue hconsumed hflushed
  refine ⟨account s c.chan, account t c.chan, _, rfl, rfl, rfl, hresidue.trans ?_, hreserved, hflushed, fun hfit => ?_,
    refilled_of_turn (hnow.trans hv.1) (htables'.trans htables) (hslot.trans (slot_congr hink c.chan))
      (by rw [haccount]; rfl) (by rw [haccount]; rfl) hlast hlastAccount⟩
  · exact Nat.mod_eq_sub_mul_div.symm
  · exact hconsumed.trans (countOf_of_lt hfit)

/-- R135: a cut stop that waited for the band has its time once the band has settled, and what follows leaves it. -/
theorem dried_stop {x t : State} {gone : Nat → Prop} (hx : x.media.stops = driedStops b s) (hkept : StopsKept gone x t)
    {u : Stop} (hu : u ∈ s.media.stops) (hitem : u.item = b.item) (hstays : ¬gone u.uid) {c : CutStop}
    (hkind : u.kind = .cut c) (hrole : c.role ≠ .lead) (hnone : c.notBefore = none)
    (hlast : c.lastBand = some b.serial) : ∃ w ∈ t.media.stops, w.uid = u.uid ∧ w.position = u.position ∧
      ∃ d, w.kind = .cut d ∧ d.notBefore = some (s.now + dryTime s) := by
  have hdried : ({ u with kind := .cut { c with notBefore := some (s.now + dryTime s), lastBand := none } } : Stop) ∈
      x.media.stops := by
    rw [hx]
    refine List.mem_map.2 ⟨u, hu, ?_⟩
    simp [hkind, hitem, hrole, hnone, hlast]
  obtain ⟨w, hw, hheld⟩ := hkept _ hdried hstays
  obtain ⟨uid, position, item, itemId, panel, kind⟩ := w
  cases kind with
  | measure m => simp [Stop.unheld, Stop.mapCut] at hheld
  | cut d =>
    simp only [Stop.unheld, Stop.mapCut, Stop.mk.injEq, StopKind.cut.injEq] at hheld
    obtain ⟨huid, hposition, -, -, -, hcut⟩ := hheld
    exact ⟨_, hw, huid, hposition, d, rfl, by simpa using congrArg CutStop.notBefore hcut⟩

/-- R75 to R77, R87 to R90, R93, R135: what the end of a BAND has done once all that follows it is done. -/
theorem bandEnded_of_kept (hv : Stopped first s v) (hnodup : (b.channels.map BandChannel.chan).Nodup)
    (huids : (s.items.live.map Item.uid).Nodup) {i : Item} (hi : findItem s b.item = some i) {notes : List Notice}
    {engine : Engine} {seen : Bool} {x t : State} (hx : x = moveEnded f notes engine seen (settleBand b e v))
    (hkept : SettledKept x t)
    (hstops : StopsKept (fun n => (∃ c, s.colour.scan = some c ∧ c.stop = n) ∨ s.colour.measure = some n) x t)
    (hquiet : NoStripAtSensor s → t.media.stops = x.media.stops ∧ ItemMoves b.item x t) :
    BandEnded f b i (spentRows b e) (settledDemand b e) s t := by
  obtain ⟨hchanges, hpath, -, -⟩ := id hv
  obtain ⟨hafter, hplan, horigin⟩ := hkept
  have hitems : v.items = s.items := hchanges.same (b := .items) (by simp)
  have hmedia : v.media = s.media := hchanges.same (b := .media) (by simp)
  have htables : v.tables = s.tables := hchanges.same (b := .tables) (by simp)
  have hink : v.ink = s.ink := hchanges.same (b := .ink) (by simp)
  have hdried : driedStops b v = driedStops b s := by simp only [driedStops, dryTime, hmedia, hchanges.1, htables]
  have hxink : x.ink = (settleBand b e v).ink := by rw [hx, moveEnded_eq]
  have hxlive : x.items.live = (settleBand b e v).items.live := by rw [hx, moveEnded_eq]
  have hxstops : x.media.stops = driedStops b s := by rw [hx, moveEnded_eq, settleBand_media, hdried]
  have hxstore : x.path.store = s.path.store.filter fun a => a.serial != b.serial := by
    rw [hx, moveEnded_eq, settleBand_path, hpath]
  have hxplan : x.items.planRow = s.items.planRow + ((s.media.rowsMoved : Int) - f.commanded) := by
    rw [hx, moveEnded_eq, settleBand_items, settleBand_media, hitems, hmedia]
  have hpathAfter : t.path = x.path := hafter.same (b := .path) (by simp [afterBlocks])
  have hinkAfter : t.ink = (settleBand b e v).ink := (hafter.same (b := .ink) (by simp [afterBlocks])).trans hxink
  obtain ⟨hrecent, hwaits, hasker⟩ := settleBand_inkRest b e v
  rw [hink] at hrecent hwaits hasker
  have huid : ∀ q ∈ s.items.live, q.uid ≠ b.item → q ∈ x.items.live := fun q hq hne => by
    rw [hxlive, settleBand_items, chargedItems, hitems]
    exact List.mem_map.2 ⟨q, hq, if_neg hne⟩
  refine ⟨?_, fun a ha => ?_, fun a ha hne => ?_, fun c hc hpos => ?_, fun c hc => ?_, ?_, ?_, ?_, fun k hk hkuid => ?_,
    hplan.trans hxplan, fun u hu hitem hscan hmeasure c hkind hrole hnone hlast => ?_, fun hsensor => ?_, ?_⟩
  · rw [hpathAfter, hx, moveEnded_eq]
  · rw [hpathAfter, hxstore] at ha
    simpa using (List.mem_filter.1 ha).2
  · rw [hpathAfter, hxstore]
    exact List.mem_filter.2 ⟨ha, by simpa using hne⟩
  · exact settled_channel hchanges hnodup hc hpos hinkAfter
  · obtain ⟨haccount, hslot⟩ := settleBand_other (e := e) (s := v) hc
    exact ⟨(account_congr hinkAfter c).trans (haccount.trans (account_congr hink c)),
      (slot_congr hinkAfter c).trans (hslot.trans (slot_congr hink c))⟩
  · rw [hinkAfter, hrecent]
  · rw [hinkAfter, hwaits]
  · rw [hinkAfter, hasker]
  · obtain ⟨k₀, hk₀, huid₀, hkey⟩ := horigin k hk
    have hsettled := settled_item hchanges hnodup huids hi (hxlive ▸ hk₀) (huid₀.symm.trans hkuid)
    simp only [Item.bandKey, Prod.mk.injEq] at hkey
    obtain ⟨hdry, hlastSettled, hprinted, himageRows, hcheckRows, himage, hcheck⟩ := hkey
    rw [hdry, hlastSettled, hprinted, himageRows, hcheckRows, himage, hcheck]
    exact hsettled
  · refine dried_stop hxstops hstops hu hitem ?_ hkind hrole hnone hlast
    rintro (⟨a, ha, hstop⟩ | h)
    · exact hscan a ha hstop
    · exact hmeasure h
  · obtain ⟨hlist, -, hback, hothers⟩ := hquiet hsensor
    refine ⟨hlist.trans hxstops, fun k hk hne => hothers k (huid k hk hne) hne, fun k hk hne => ?_⟩
    obtain ⟨k₀, hk₀, -, -, hsame⟩ := hback k hk
    rw [← hsame hne, hxlive, settleBand_items, chargedItems, hitems] at hk₀
    obtain ⟨q, hq, hqk⟩ := List.mem_map.1 hk₀
    have hqne : q.uid ≠ b.item := fun h => by
      rw [if_pos h] at hqk
      exact hne (hqk ▸ h)
    rw [if_neg hqne] at hqk
    exact hqk ▸ hq
  · have hxchanges : OnlyChanges [.link, .items, .path, .ink, .media, .cutter, .colour, .costing] s x := by
      refine ⟨?_, ?_, fun blk hblk => ?_⟩
      · rw [hx, moveEnded_eq]
        simpa using hchanges.1
      · rw [hx, moveEnded_eq]
        simpa using hchanges.2.1
      · cases blk with
        | tables =>
          rw [SameBlock, hx, moveEnded_eq]
          simpa using htables
        | _ => exact absurd (by simp) hblk
    exact hxchanges.trans (hafter.mono (by simp [afterBlocks]))

/-- R52: the item of the band is looked at, which leaves the stops and what stands at the sensor. -/
theorem advanceItem_kept (u : Nat) (x : State) : SettledKept x (advanceItem u x) ∧
    (advanceItem u x).media.stops = x.media.stops ∧ ItemMoves u x (advanceItem u x) ∧
    (advanceItem u x).colour.scan = x.colour.scan ∧ (advanceItem u x).colour.measure = x.colour.measure := by
  obtain ⟨-, hstops, -⟩ := stopsLeft_advanceItem u x
  obtain ⟨hscan, hmeasure, -⟩ := advanceItem_sensor u x
  exact ⟨settledKept_advanceItem u x, hstops, itemMoves_advanceItem u x, hscan, hmeasure⟩

/-- The end of a BAND leaves what stands at the sensor. -/
theorem moveEnded_sensor (hv : Stopped first s v) (notes : List Notice) (engine : Engine) (seen : Bool) :
    (advanceItem b.item (moveEnded f notes engine seen (settleBand b e v))).colour.scan = s.colour.scan ∧
    (advanceItem b.item (moveEnded f notes engine seen (settleBand b e v))).colour.measure = s.colour.measure := by
  obtain ⟨-, -, -, hscan, hmeasure⟩ := advanceItem_kept b.item (moveEnded f notes engine seen (settleBand b e v))
  have hcolour : (moveEnded f notes engine seen (settleBand b e v)).colour = s.colour := by
    have hvcolour : v.colour = s.colour := hv.1.same (b := .colour) (by simp)
    rw [moveEnded_eq]
    simpa using hvcolour
  rw [hscan, hmeasure, hcolour]
  exact ⟨rfl, rfl⟩

/-- The state in which a BAND has ended and its item has been looked at, and what stands at the sensor stays or ends. -/
theorem bandEnded_after (hv : Stopped first s v) (hnodup : (b.channels.map BandChannel.chan).Nodup)
    (huids : (s.items.live.map Item.uid).Nodup) {i : Item} (hi : findItem s b.item = some i) {notes : List Notice}
    {engine : Engine} {seen : Bool} {y z : State}
    (hy : y = advanceItem b.item (moveEnded f notes engine seen (settleBand b e v))) (hkept : SettledKept y z)
    (hstops : StopsKept (fun n => (∃ c, s.colour.scan = some c ∧ c.stop = n) ∨ s.colour.measure = some n) y z)
    (hquiet : NoStripAtSensor s → z.media.stops = y.media.stops ∧ z.items = y.items) :
    BandEnded f b i (spentRows b e) (settledDemand b e) s z ∧ z.path.engine = engine ∧ z.path.readySeen = seen := by
  generalize hx : moveEnded f notes engine seen (settleBand b e v) = x at hy
  obtain ⟨hfirst, hlist, hmoves, -⟩ := hy ▸ advanceItem_kept b.item x
  have hpath : z.path = x.path := (hfirst.trans hkept).1.same (b := .path) (by simp [afterBlocks])
  refine ⟨bandEnded_of_kept hv hnodup huids hi hx.symm (hfirst.trans hkept) ?_ fun hsensor => ?_, ?_, ?_⟩
  · intro q hq hstays
    exact hstops q (hlist ▸ hq) hstays
  · obtain ⟨hsame, hitems⟩ := hquiet hsensor
    exact ⟨hsame.trans hlist, hmoves.trans (.of_items hitems)⟩
  · rw [hpath, ← hx, moveEnded_eq]
  · rw [hpath, ← hx, moveEnded_eq]

/-- R148, R151: what stands at the sensor ends once the item of the band has been looked at. -/
theorem sensorEnd_after (hv : Stopped first s v) (cause : EndCause) {notes : List Notice} {engine : Engine}
    {seen : Bool} {y z : State} (hy : y = advanceItem b.item (moveEnded f notes engine seen (settleBand b e v)))
    (hz : z = endMeasureUnread (endScan cause y)) : SettledKept y z ∧
    StopsKept (fun n => (∃ c, s.colour.scan = some c ∧ c.stop = n) ∨ s.colour.measure = some n) y z ∧
    (NoStripAtSensor s → z = y) := by
  have hidle : y.path.flight = none := by simp [hy, moveEnded_eq]
  obtain ⟨hscan, hmeasure⟩ := hy ▸ moveEnded_sensor (b := b) (f := f) (e := e) hv notes engine seen
  obtain ⟨hkept, hstops⟩ := hz ▸ sensorEnd_kept cause hidle
  rw [hscan, hmeasure] at hstops
  exact ⟨hkept, hstops, fun hsensor => hz.trans (sensorEnd_of_none cause (hsensor.congr hscan hmeasure))⟩

/-! ### The three ways a BAND ends -/

section Ends

variable (hf : s.path.flight = some f) (hwork : f.work = .band b.serial) (hband : findBand s b.serial = some b)

include hwork hband

/-- R75: a DONE of a BAND. -/
theorem finishDone_band : finishDone f s.clearOut = advanceItem b.item (moveEnded f (slipNotices f s)
    (slippedEngine f s) s.path.readySeen (settleBand b .done (linkIdle s.clearOut))) := by
  have hv : Stopped [] s (linkIdle s.clearOut) := stopped_idle s s.path.engine s.path.readySeen
  have hrunOut : f.work.isRunOut = false := by rw [hwork]; rfl
  simp only [finishDone, hrunOut, Bool.false_eq_true, false_and, if_false]
  rw [endFlight_band hwork hband hv, endMove_settled hwork hv rfl]
  rfl

/-- R76: the operation of an ABORTED, before what stands at the sensor ends. -/
theorem endFlight_band_aborted (n : Notice) (d : Nat) :
    endFlight f (.aborted d) (raise n (linkIdle s.clearOut)) =
      advanceItem b.item (moveEnded f [] s.path.engine s.path.readySeen
        (settleBand b (.aborted d) (raise n (linkIdle s.clearOut)))) := by
  have hv : Stopped [n] s (raise n (linkIdle s.clearOut)) := (stopped_idle s s.path.engine s.path.readySeen).raise n
  rw [endFlight_band hwork hband hv, endMove_settled_aborted hwork hv]
  simp [linkIdle]

/-- R77: the operation of a HEAD_FAULT, before what stands at the sensor ends. -/
theorem endFlight_band_fault : endFlight f .fault (faulted s.clearOut) = advanceItem b.item
    (moveEnded f (slipNotices f s) .fault false (settleBand b .fault (faulted s.clearOut))) := by
  have hv : Stopped [] s (faulted s.clearOut) := stopped_idle s .fault false
  rw [endFlight_band hwork hband hv, endMove_settled hwork hv rfl]
  simp [faulted]

theorem abortedRows_band (d : Nat) : abortedRows s.clearOut f d = min d b.rows := by
  have hfound : findBand s.clearOut b.serial = some b := hband
  simp only [abortedRows, hwork, hfound]

theorem flightRef_band {i : Item} (hi : findItem s b.item = some i) :
    flightRef s f = { opId := f.opId, kind := .band, owner := some i.id } := by
  simp only [flightRef, hwork, hband, Option.map_some, Option.bind_some, hi]
  rfl

/-- R76: an ABORTED of a BAND. -/
theorem finishAborted_band (d : Nat) : finishAborted f d s.clearOut =
    endMeasureUnread (endScan .aborted (advanceItem b.item (moveEnded f [] s.path.engine s.path.readySeen
      (settleBand b (.aborted d) (raise (.opAborted (flightRef s f) (min d b.rows)) (linkIdle s.clearOut)))))) := by
  rw [finishAborted, abortedRows_band hwork hband, endFlight_band_aborted hwork hband]
  rfl

include hf

/-- R77: a HEAD_FAULT of a BAND. -/
theorem headFault_band (cause : FaultCause) : headFault cause s.clearOut =
    raise (.headFault cause (some (flightRef s f))) (endMeasureUnread (endScan .fault (advanceItem b.item
      (moveEnded f (slipNotices f s) .fault false (settleBand b .fault (faulted s.clearOut)))))) := by
  rw [headFault_of_flight (s := s.clearOut) hf, endFlight_band_fault hwork hband]
  rfl

end Ends

end Band

section Whole

variable {f : Flight} {b : Band} {i : Item} {s : State} (hf : s.path.flight = some f)
  (hwork : f.work = .band b.serial) (hband : findBand s b.serial = some b)
  (hnodup : (b.channels.map BandChannel.chan).Nodup) (hi : findItem s b.item = some i)
  (huids : (s.items.live.map Item.uid).Nodup)

include hf hwork hband hnodup hi huids

/-- R75: a DONE of a BAND, whole. -/
theorem done_band {since : Time} (hphase : f.phase = .running since) (hpoints : f.reported = f.points.length) :
    ∃ t u, exec (.done f.opId) s = .next t ∧ BandEnded f b i b.rows BandChannel.demand s t ∧
      t.path.engine = slippedEngine f s ∧ BandGone b b.rows [] s u ∧
      t = keepRunOut (advanceItem b.item (moveEnded f (slipNotices f s) (slippedEngine f s) s.path.readySeen u)) := by
  have hv : Stopped [] s (linkIdle s.clearOut) := stopped_idle s s.path.engine s.path.readySeen
  have hdone := leaves_done hf hphase hpoints
  rw [finishDone_band hwork hband] at hdone
  generalize hy : advanceItem b.item _ = y at hdone
  obtain ⟨hended, hengine, -⟩ := bandEnded_after hv hnodup huids hi hy.symm (settledKept_keepRunOut y)
    (.of_stops (keepRunOut_stops y)) fun _ => ⟨keepRunOut_stops y, by simp⟩
  exact ⟨_, _, hdone, hended, hengine, bandGone_settleBand hv b .done, by rw [hy]⟩

/-- R76: an ABORTED of a BAND, whole. -/
theorem aborted_band (d : Nat) (hphase : ∀ n t, f.phase ≠ .offering n t) :
    ∃ t u, exec (.aborted f.opId d) s = .next t ∧ t.path.engine = s.path.engine ∧
      BandEnded f b i (abortedPrints b d) (fun c => c.quarterDemand ((min d b.rows + 7) / 8)) s t ∧
      BandGone b (abortedPrints b d) [.opAborted (flightRef s f) (min d b.rows)] s u ∧
      (NoStripAtSensor s →
        t = keepRunOut (advanceItem b.item (moveEnded f [] s.path.engine s.path.readySeen u))) := by
  have hv := (stopped_idle s s.path.engine s.path.readySeen).raise (.opAborted (flightRef s f) (min d b.rows))
  have haborted := leaves_aborted hf d hphase
  rw [finishAborted_band hwork hband] at haborted
  generalize hy : advanceItem b.item _ = y at haborted
  obtain ⟨hkept, hstops, hquiet⟩ := sensorEnd_after hv .aborted hy.symm rfl
  generalize endMeasureUnread (endScan .aborted y) = z at haborted hkept hstops hquiet
  obtain ⟨hended, hengine, -⟩ := bandEnded_after hv hnodup huids hi hy.symm (hkept.trans (settledKept_keepRunOut z))
    (hstops.before (keepRunOut_stops z)) fun hsensor => ⟨by rw [keepRunOut_stops, hquiet hsensor], by
      rw [hquiet hsensor]; simp⟩
  refine ⟨_, _, haborted, hengine, hended, bandGone_settleBand hv b (.aborted d), fun hsensor => ?_⟩
  rw [hquiet hsensor, ← hy]
  rfl

/-- R77: a HEAD_FAULT of a BAND, whole. -/
theorem fault_band (cause : FaultCause) :
    ∃ t u, t = headFault cause s.clearOut ∧ t.path.engine = .fault ∧ t.path.readySeen = false ∧
      BandEnded f b i b.rows BandChannel.demand s (keepRunOut t) ∧ BandEnded f b i b.rows BandChannel.demand s t ∧
      BandGone b b.rows [] s u ∧
      (NoStripAtSensor s → t = raise (.headFault cause (some (flightRef s f)))
        (advanceItem b.item (moveEnded f (slipNotices f s) .fault false u))) := by
  have hv : Stopped [] s (faulted s.clearOut) := stopped_idle s .fault false
  have hfault := headFault_band hf hwork hband cause
  generalize hy : advanceItem b.item _ = y at hfault
  obtain ⟨hkept, hstops, hquiet⟩ := sensorEnd_after hv .fault hy.symm rfl
  generalize endMeasureUnread (endScan .fault y) = z at hfault hkept hstops hquiet
  generalize ht : raise (.headFault cause (some (flightRef s f))) z = t at hfault
  have hmedia : t.media = z.media := by rw [← ht]; simp
  have hitems : t.items = z.items := by rw [← ht]; simp
  have htkept : SettledKept y t := hkept.trans (ht ▸ settledKept_raise _ z)
  have htstops : t.media.stops = z.media.stops := by rw [hmedia]
  obtain ⟨hended, hengine, hseen⟩ := bandEnded_after hv hnodup huids hi hy.symm htkept (hstops.before htstops)
    fun hsensor => ⟨by rw [htstops, hquiet hsensor], by rw [hitems, hquiet hsensor]⟩
  obtain ⟨hkeptEnded, -⟩ := bandEnded_after hv hnodup huids hi hy.symm (htkept.trans (settledKept_keepRunOut t))
    (hstops.before ((keepRunOut_stops t).trans htstops))
    fun hsensor => ⟨by rw [keepRunOut_stops, htstops, hquiet hsensor], by
      rw [← hquiet hsensor, ← hitems]
      simp⟩
  exact ⟨t, _, hfault.symm, hengine, hseen, hkeptEnded, hended, bandGone_settleBand hv b .fault, fun hsensor => by
    rw [← ht, hquiet hsensor, ← hy]⟩

end Whole

/-- Settles O46, by the way the BAND ends. -/
theorem bandSettles : Obligations.BandSettles := by
  intro f b i ref s hf hwork hband hnodup hi huids href
  have href' : flightRef s f = ref := (flightRef_band hwork hband hi).trans href.symm
  subst href'
  refine ⟨fun since hphase hpoints => ?_, fun d hphase => aborted_band hf hwork hband hnodup hi huids d hphase,
    fun cause => ?_, fun since hphase hlimit => ?_⟩
  · obtain ⟨t, u, hexec, hended, hengine, hgone, heq⟩ := done_band hf hwork hband hnodup hi huids hphase hpoints
    exact ⟨t, u, _, hexec, hended, rfl, hengine, hgone, heq⟩
  · obtain ⟨t, u, heq, hengine, hseen, -, hended, hgone, hwhole⟩ := fault_band hf hwork hband hnodup hi huids cause
    exact ⟨t, u, heq, hengine, hseen, hended, hgone, hwhole⟩
  · have hlimit' : runLimit f.work.kind ≤ f.elapsed + (s.now - since).toNat := by
      rw [hwork]
      exact hlimit
    have hleaves := runningTimerLimit_reached hf hphase hlimit'
    obtain ⟨t, u, rfl, hengine, hseen, hended, -⟩ := fault_band hf hwork hband hnodup hi huids .timeout
    exact ⟨hleaves, _, hleaves, by simpa using hengine, by simpa using hseen, hended⟩

end Sys2Proof.Machine

/-! ## The end of a measure action, with a scan and without (R122, R123, R128, R148, R151, R152) -/

namespace Sys2Proof.Machine

/-! ### The stop of an action that has ended leaves the list (R122, R123, R128) -/

/-- The blocks that the end of an action may change. -/
def actionBlocks : List Block := [.link, .items, .path, .media, .colour, .costing]

section Action

variable (uid : Nat) (scan : Option Scan) (measure : Option Nat) (s : State)

/-- The state with another scan record and waiting measure action. -/
def State.withStrip (scan : Option Scan) (measure : Option Nat) (s : State) : State :=
  s.withSensor scan measure s.media.overrun s.media.roll.position

/-- R122: the removal of the stop of an action, but for the PROCEED. -/
def stopRemoved (uid : Nat) (s : State) : State :=
  match findStop s uid with
  | some q => removeStop q s
  | none => s

theorem actionEnded_eq : actionEnded uid none s = proceed uid (stopRemoved uid s) := rfl

/-- R122: what the removal of a stop looks at is not at the sensor. -/
theorem stopRemoved_some {q : Stop} (hq : findStop s uid = some q) :
    stopRemoved uid (s.withStrip scan measure) =
      (advanceItem q.item (s.onMedia fun m => { m with stops := m.stops.filter fun v => v.uid != uid })).withSensor
        scan measure (s.media.overrun - rowsLetIn (s.media.stops.filter fun v => v.uid != uid) s)
        (s.media.roll.position + rowsLetIn (s.media.stops.filter fun v => v.uid != uid) s) := by
  have huid : q.uid = uid := by simpa [findStop] using List.find?_some hq
  have hfound : findStop (s.withStrip scan measure) uid = some q := hq
  rw [stopRemoved, hfound, ← advanceItem_withSensor]
  dsimp only
  rw [removeStop, huid]
  congr 1

theorem stopRemoved_none (h : findStop s uid = none) :
    stopRemoved uid (s.withStrip scan measure) = s.withStrip scan measure := by
  have hfound : findStop (s.withStrip scan measure) uid = none := h
  rw [stopRemoved, hfound]

/-- R122: the removal of a stop leaves the head link, and what is at the sensor. -/
theorem stopRemoved_spec : ∃ t, t = stopRemoved uid (s.withStrip scan measure) ∧
    t.path = s.path ∧ t.out = s.out ∧ t.now = s.now ∧ t.colour.scan = scan ∧ t.colour.measure = measure ∧
    t.colour.cal = s.colour.cal ∧ t.media.roll.lastCutRow = s.media.roll.lastCutRow ∧
    t.media.roll.remaining = s.media.roll.remaining ∧
    t.media.stops = s.media.stops.filter (fun u => u.uid != uid) ∧
    (∀ n, n = (if (findStop s uid).isSome then rowsLetIn t.media.stops s else 0) →
      t.media.roll.position = s.media.roll.position + n ∧ t.media.overrun = s.media.overrun - n) ∧
    OwnerMoved uid s t ∧ OnlyChanges [.link, .items, .media, .colour, .costing] s t := by
  refine ⟨_, rfl, ?_⟩
  cases hq : findStop s uid with
  | none =>
    have hall : ∀ u ∈ s.media.stops, (u.uid != uid) = true := by simpa [findStop, List.find?_eq_none] using hq
    rw [stopRemoved_none uid scan measure s hq]
    refine ⟨rfl, rfl, rfl, rfl, rfl, rfl, rfl, rfl, (List.filter_eq_self.2 hall).symm, fun n hn => ?_,
      ⟨fun _ => ⟨rfl, rfl, rfl, rfl⟩, fun u w hu => by simp [hq] at hu⟩, rfl, rfl, fun b hb => ?_⟩
    · obtain rfl : n = 0 := by simpa using hn
      exact ⟨by simp [State.withStrip, State.withSensor], rfl⟩
    · cases b with
      | link | items | media | colour | costing => exact absurd (by simp) hb
      | tables | path | ink | cutter => rfl
  | some q =>
    generalize hw : advanceItem q.item
      (s.onMedia fun m => { m with stops := m.stops.filter fun v => v.uid != uid }) = w
    have hremoved := hw ▸ stopRemoved_some uid scan measure s hq
    obtain ⟨-, hstops, -, -, hcut, hremaining⟩ := hw ▸ stopsLeft_advanceItem q.item
      (s.onMedia fun m => { m with stops := m.stops.filter fun v => v.uid != uid })
    obtain ⟨hnow, hpending, hout, htables, hpath, hink, hcutter, hcal, -⟩ := hw ▸ advanceItem_frame q.item
      (s.onMedia fun m => { m with stops := m.stops.filter fun v => v.uid != uid })
    rw [hremoved]
    refine ⟨hpath, hout, hnow, rfl, rfl, hcal, hcut, hremaining, hstops, fun n hn => ?_,
      ⟨fun h => ?_, fun u x hu hx => ?_⟩, hnow, hpending, fun b hb => ?_⟩
    · have hleft : (w.withSensor scan measure
          (s.media.overrun - rowsLetIn (s.media.stops.filter fun v => v.uid != uid) s)
          (s.media.roll.position + rowsLetIn (s.media.stops.filter fun v => v.uid != uid) s)).media.stops =
          s.media.stops.filter fun v => v.uid != uid := hstops
      rw [hleft, Option.isSome_some, if_pos rfl] at hn
      subst hn
      exact ⟨rfl, rfl⟩
    · simp [hq] at h
    · obtain rfl : q = u := Option.some.inj (hq.symm.trans hu)
      rw [hw] at hx
      subst hx
      exact ⟨rfl, rfl, rfl, rfl, rfl⟩
    · cases b with
      | link | items | media | colour | costing => exact absurd (by simp) hb
      | tables => exact htables
      | path => exact hpath
      | ink => exact hink
      | cutter => exact hcutter

/-- R122, R123, R128: the end of an action, in a state whose scan record and measure action may have changed. -/
theorem actionEnded_over : ∃ t, t = actionEnded uid none (s.withStrip scan measure) ∧ ActionOver uid s t ∧
    OwnerMoved uid s t ∧ t.colour.scan = scan ∧ t.colour.measure = measure ∧ t.colour.cal = s.colour.cal ∧
    t.media.roll.lastCutRow = s.media.roll.lastCutRow ∧ OnlyChanges actionBlocks s t := by
  obtain ⟨t, ht, hpath, hout, hnow, hscan, hmeasure, hcal, hcut, hremaining, hstops, hrows, howner, hchanges⟩ :=
    stopRemoved_spec uid scan measure s
  have hpaused : pausedStop t = pausedStop s := by simp only [pausedStop, hpath]
  refine ⟨proceed uid t, by rw [actionEnded_eq, ht], ⟨?_, ?_, ?_, fun f hf hp => ?_, fun hp => ?_⟩, ?_, ?_, ?_, ?_,
    ?_, ?_⟩
  · simpa using hstops
  · simpa using hrows
  · simpa using hremaining
  · rw [proceed_paused (hpath ▸ hf) (hpaused.trans hp)]
    simp [State.send, State.onPath, hpath, hout, hnow]
  · rw [proceed_not_paused (hpaused ▸ hp)]
    exact ⟨hpath, hout⟩
  · simpa [OwnerMoved] using howner
  · simpa using hscan
  · simpa using hmeasure
  · simpa using hcal
  · simpa using hcut
  · refine (hchanges.mono (by simp [actionBlocks])).trans ⟨by simp, by simp, fun b hb => ?_⟩
    cases b with
    | path => exact absurd (by simp [actionBlocks]) hb
    | _ => simp [SameBlock]

end Action

/-! ### The end of a scan (R151) -/

/-- R151: the record of a scan that has ended. -/
def scanOver (cause : EndCause) (c : Scan) : Scan :=
  { c with
    patches := c.patches.map fun p => if p.mark = .opened then { p with mark := .missed, raws := [] } else p,
    deadline := none, ended := some cause }

theorem endScan_of_scanning {cause : EndCause} {c : Scan} {s : State} (hscan : s.colour.scan = some c)
    (hended : c.ended = none) :
    endScan cause s = actionEnded c.stop none (s.withStrip (some (scanOver cause c)) s.colour.measure) := by
  simp only [endScan, hscan, hended, Option.isNone_none, if_true]
  rfl

theorem scanEnded_endScan {cause : EndCause} {c : Scan} {s : State} (hscan : s.colour.scan = some c)
    (hended : c.ended = none) : ScanEnded cause c s (endScan cause s) := by
  obtain ⟨t, ht, hover, howner, hscan', hmeasure, hcal, hcut, hchanges⟩ :=
    actionEnded_over c.stop (some (scanOver cause c)) s.colour.measure s
  rw [endScan_of_scanning hscan hended, ← ht]
  exact ⟨hscan', hmeasure, hcal, hcut, hover, howner, hchanges⟩

/-- R129: the look at the run-out wait that ends the command leaves the end of a scan as it is. -/
theorem ScanEnded.keepRunOut {cause : EndCause} {c : Scan} {s t : State} (h : ScanEnded cause c s t) :
    ScanEnded cause c s (keepRunOut t) := by
  unfold Sys2Proof.Machine.keepRunOut
  split
  · obtain ⟨hscan, hmeasure, hcal, hcut, hover, howner, hchanges⟩ := h
    refine ⟨hscan, hmeasure, hcal, hcut, hover, howner, hchanges.trans ⟨rfl, rfl, fun b hb => ?_⟩⟩
    cases b with
    | media => exact absurd (by simp) hb
    | _ => rfl
  · exact h

/-! ### The end of a waiting measure action (R148, R152) -/

/-- R152: a strip recorded as unread leaves what is at the sensor. -/
theorem recordUnread_sensor (q : Stop) (m : MeasureStop) (s : State) :
    (recordUnread q m s).colour.scan = s.colour.scan ∧ (recordUnread q m s).colour.measure = s.colour.measure := by
  have hmerged (n : Nat) : (mergeVerdict q.item n .incomplete s).colour.scan = s.colour.scan ∧
      (mergeVerdict q.item n .incomplete s).colour.measure = s.colour.measure := by
    obtain ⟨-, heq⟩ | ⟨i, old, -, -, ⟨-, heq⟩ | ⟨k, -, heq⟩⟩ := mergeVerdict_cases q.item n .incomplete s <;>
      simp [heq, panelJudged_incomplete, mapEdition]
  have htouched (n : Option Nat) (t : State) : (touchEdition n t).colour.scan = t.colour.scan ∧
      (touchEdition n t).colour.measure = t.colour.measure := by
    cases n <;> exact ⟨rfl, rfl⟩
  simp [recordUnread, hmerged, htouched]

/-- R148, R152: a waiting measure action ends without a scan. -/
theorem measureUnread_endMeasureUnread {u : Stop} {m : MeasureStop} {s : State}
    (hmeasure : s.colour.measure = some u.uid) (hfind : findStop s u.uid = some u) (hkind : u.kind = .measure m)
    (hscan : ∀ c, s.colour.scan = some c → c.ended ≠ none) : MeasureUnread u m s (endMeasureUnread s) := by
  generalize hy : (s.onColour fun k => { k with measure := none }) = y
  have hfind' : findStop y u.uid = some u := by rw [← hy]; exact hfind
  have hfree : ¬BeingScanned y u := by
    rintro ⟨c, hc, hended, -⟩
    rw [← hy] at hc
    exact hscan c hc hended
  have hcolour : y.colour.scan = s.colour.scan ∧ y.colour.measure = none := by rw [← hy]; exact ⟨rfl, rfl⟩
  obtain ⟨hwscan, hwmeasure⟩ := recordUnread_sensor u m y
  obtain ⟨t, ht, hover, howner, htscan, htmeasure, -, -, hchanges⟩ := actionEnded_over u.uid
    (recordUnread u m y).colour.scan (recordUnread u m y).colour.measure (recordUnread u m y)
  have hend : endMeasureUnread s = t := by
    rw [ht, endMeasureUnread, hmeasure]
    dsimp only
    rw [hy, hfind']
    dsimp only
    rw [unreadIfMeasure_of_measure hkind hfree]
    rfl
  have hfirst : OnlyChanges actionBlocks s y := by
    rw [← hy]
    refine ⟨rfl, rfl, fun b hb => ?_⟩
    cases b with
    | colour => exact absurd (by simp [actionBlocks]) hb
    | _ => rfl
  rw [hend]
  refine ⟨recordUnread u m y, hy ▸ stripUnread_recordUnread u m y, hover, howner, ?_, ?_, ?_⟩
  · rw [htmeasure, hwmeasure, hcolour.2]
  · rw [htscan, hwscan, hcolour.1]
  · exact (hfirst.trans ((recordUnread_onlyChanges u m y).mono (by simp [actionBlocks]))).trans hchanges

end Sys2Proof.Machine

/-! ## What ends with the operation in flight (R76, R77, R148, R151) -/

namespace Sys2Proof.Machine

/-! ### The end of an operation of any kind leaves the sensor and the measure stops -/

/-- A state later in one command with the IDLE link, the sensor and the measure stops that there were. -/
def SensorKept (s t : State) : Prop :=
  (s.path.flight = none → t.path.flight = none) ∧ t.now = s.now ∧ t.colour.scan = s.colour.scan ∧
  t.colour.measure = s.colour.measure ∧
  ∀ uid u m, findStop s uid = some u → u.kind = .measure m → findStop t uid = some u

section SensorKept

variable {r s t : State}

theorem SensorKept.trans (hr : SensorKept r s) (hs : SensorKept s t) : SensorKept r t := by
  obtain ⟨hidle, hnow, hscan, hmeasure, hstop⟩ := hr
  obtain ⟨hidle', hnow', hscan', hmeasure', hstop'⟩ := hs
  exact ⟨fun h => hidle' (hidle h), hnow'.trans hnow, hscan'.trans hscan, hmeasure'.trans hmeasure,
    fun uid u m hu hm => hstop' uid u m (hstop uid u m hu hm) hm⟩

theorem findStop_congr (h : t.media.stops = s.media.stops) (uid : Nat) : findStop t uid = findStop s uid := by
  rw [findStop, h, findStop]

theorem SensorKept.of_eq (hidle : s.path.flight = none → t.path.flight = none) (hnow : t.now = s.now)
    (hscan : t.colour.scan = s.colour.scan) (hmeasure : t.colour.measure = s.colour.measure)
    (hstops : t.media.stops = s.media.stops) : SensorKept s t :=
  ⟨hidle, hnow, hscan, hmeasure, fun uid _ _ hu _ => (findStop_congr hstops uid).trans hu⟩

/-- R135: the settlement of a band leaves the measure stops. -/
theorem sensorKept_settleBand (b : Band) (e : Ending) (s : State) : SensorKept s (settleBand b e s) := by
  refine ⟨fun h => by simpa [settleBand_path] using h, by simp, by simp, by simp, fun uid u m hu hm => ?_⟩
  rw [findStop, settleBand_media, driedStops_eq, List.find?_map]
  have huid (q : Stop) : (if Stop.awaits b q then
      q.mapCut fun c => { c with notBefore := some (s.now + dryTime s), lastBand := none } else q).uid = q.uid := by
    obtain ⟨uid, position, item, itemId, panel, kind⟩ := q
    split
    · cases kind <;> rfl
    · rfl
  have hkey : ((fun q : Stop => q.uid == uid) ∘ fun q => if Stop.awaits b q then
      q.mapCut fun c => { c with notBefore := some (s.now + dryTime s), lastBand := none } else q) =
      fun q => q.uid == uid := by
    funext q
    rw [Function.comp_apply, huid]
  have hfound : s.media.stops.find? (fun q => q.uid == uid) = some u := hu
  have hnot : Stop.awaits b u = false := by simp [Stop.awaits, Stop.cut?, hm]
  rw [hkey, hfound, Option.map_some, hnot]
  rfl

/-- R169, R170: the end of a part leaves the scan record and the measure action. -/
theorem partEnded_sensor (o : PartOutcome) (s : State) : (partEnded o s).colour.scan = s.colour.scan ∧
    (partEnded o s).colour.measure = s.colour.measure := by
  unfold partEnded
  dsimp only
  (repeat' split) <;> simp [onVerify, endTest]

theorem sensorKept_completeWork (w : FlightWork) (e : Ending) (s : State) : SensorKept s (completeWork w e s) := by
  have hpart (p : Part) : SensorKept s (judgePart p s) := by
    unfold judgePart
    dsimp only
    (repeat' split) <;>
      exact .of_eq (by simp) (by simp) (by simp [partEnded_sensor]) (by simp [partEnded_sensor]) (by simp)
  have hfail (p : Part) (cause : PartFailure) : SensorKept s (failPart p cause s) :=
    .of_eq (by simp) (by simp) (by simp [failPart, partEnded_sensor, onVerify])
      (by simp [failPart, partEnded_sensor, onVerify]) (by simp)
  have hsame : SensorKept s s := .of_eq id rfl rfl rfl rfl
  unfold completeWork
  split
  · split
    · exact sensorKept_settleBand _ e s
    · exact hsame
  · exact .of_eq (by simp) (by simp) (by simp) (by simp) (by simp)
  · exact hsame
  · split
    · exact hpart _
    · exact hfail _ _
    · exact hfail _ _

theorem sensorKept_endMove (f : Flight) (e : Ending) (s : State) : SensorKept s (endMove f e s) := by
  have hstops : (endMove f e s).media.stops = s.media.stops := by
    unfold endMove queueRemainder
    dsimp only
    (repeat' split) <;> simp
  refine .of_eq (fun h => ?_) (by simp) (by simp) (by simp) hstops
  unfold endMove queueRemainder pauseEngine
  dsimp only
  (repeat' split) <;> simp [h]

theorem sensorKept_advanceItem (u : Nat) (s : State) : SensorKept s (advanceItem u s) := by
  obtain ⟨-, hstops, -, hscan, hmeasure⟩ := advanceItem_kept u s
  exact .of_eq (by simp) (by simp) hscan hmeasure hstops

/-- R75 to R77: the end of any operation. -/
theorem sensorKept_endFlight (f : Flight) (e : Ending) (s : State) : SensorKept s (endFlight f e s) := by
  have hended : SensorKept s (endAbortFeed f.work (endMove f e (completeWork f.work e s))) :=
    ((sensorKept_completeWork f.work e s).trans (sensorKept_endMove f e _)).trans
      (.of_eq (by simp) (by simp) (by simp) (by simp) (by simp))
  unfold endFlight
  dsimp only
  split
  · exact hended.trans (sensorKept_advanceItem _ _)
  · exact hended

end SensorKept

/-! ### The two ways an operation ends with something at the sensor -/

section Over

variable {f : Flight} {s : State}

/-- R76: the state that the operation leaves where it ends by an ABORTED. -/
def abortedFlight (f : Flight) (d : Nat) (s : State) : State :=
  endFlight f (.aborted d) (raise (.opAborted (flightRef s f) (abortedRows s f d)) (linkIdle s))

theorem finishAborted_eq (f : Flight) (d : Nat) (s : State) :
    finishAborted f d s = endMeasureUnread (endScan .aborted (abortedFlight f d s)) := rfl

theorem flightOver_aborted (f : Flight) (d : Nat) (s : State) :
    FlightOver f (some d) s (abortedFlight f d s.clearOut) := by
  obtain ⟨hidle, hnow, hscan, hmeasure, -⟩ := sensorKept_endFlight f (.aborted d)
    (raise (.opAborted (flightRef s f) (abortedRows s f d)) (linkIdle s.clearOut))
  refine ⟨hidle (by simp [linkIdle]), hnow.trans (by simp [linkIdle]), hscan.trans (by simp [linkIdle]),
    hmeasure.trans (by simp [linkIdle]), fun o source rows live hwork hfeed hlive => ?_, fun b hwork hband => ?_⟩
  · have hrows : abortedRows s.clearOut f d = d := by simp only [abortedRows, hwork]
    rw [abortedFlight, hrows]
    exact endFlight_feed_aborted hwork hfeed hlive _ d
  · refine ⟨_, bandGone_settleBand ((stopped_idle s s.path.engine s.path.readySeen).raise _) b (.aborted d), ?_⟩
    rw [abortedFlight, abortedRows_band hwork hband]
    exact endFlight_band_aborted hwork hband _ d

theorem flightOver_fault (f : Flight) (s : State) : FlightOver f none s (endFlight f .fault (faulted s.clearOut)) := by
  obtain ⟨hidle, hnow, hscan, hmeasure, -⟩ := sensorKept_endFlight f .fault (faulted s.clearOut)
  refine ⟨hidle rfl, hnow, hscan, hmeasure, fun o source rows live hwork hfeed hlive => ?_, fun b hwork hband => ?_⟩
  · exact endFlight_feed_fault hwork hfeed hlive
  · exact ⟨_, bandGone_settleBand (stopped_idle s .fault false) b .fault, endFlight_band_fault hwork hband⟩

/-- R76, R77: what stands at the sensor ends after the operation, which leaves it. -/
theorem endsWithFlight (hf : s.path.flight = some f) {atSensor : EndCause → State → State → Prop}
    (h : ∀ cause w, w.colour.scan = s.colour.scan → w.colour.measure = s.colour.measure →
      (∀ uid u m, findStop s uid = some u → u.kind = .measure m → findStop w uid = some u) →
      atSensor cause w (endMeasureUnread (endScan cause w))) : EndsWithFlight f atSensor s := by
  refine ⟨fun d hphase => ?_, fun cause => ?_⟩
  · obtain ⟨-, -, hscan, hmeasure, hstop⟩ := sensorKept_endFlight f (.aborted d)
      (raise (.opAborted (flightRef s f) (abortedRows s f d)) (linkIdle s.clearOut))
    refine ⟨abortedFlight f d s.clearOut, _, leaves_aborted hf d hphase, flightOver_aborted f d s, ?_⟩
    rw [finishAborted_eq]
    refine h .aborted _ (hscan.trans (by simp [linkIdle])) (hmeasure.trans (by simp [linkIdle])) fun uid u m hu hm =>
      hstop uid u m ?_ hm
    exact (findStop_congr (by simp [linkIdle]) uid).trans hu
  · obtain ⟨-, -, hscan, hmeasure, hstop⟩ := sensorKept_endFlight f .fault (faulted s.clearOut)
    exact ⟨_, _, headFault_of_flight (s := s.clearOut) hf cause, flightOver_fault f s,
      h .fault _ hscan hmeasure fun uid u m hu hm => hstop uid u m hu hm⟩

end Over

end Sys2Proof.Machine

/-! ## The scan, whole (R74, R76, R77, R148 to R152, R163, R168) -/

namespace Sys2Proof.Machine

theorem exec_scanStart (s : State) : exec .scanStart s = execScanStart s := rfl

theorem exec_scanDeadline (s : State) : exec .scanDeadline s = execScanDeadline s := rfl

/-! ### The start of a scan (R148, R149) -/

/-- R149: the sequence of a patch, by its mode. -/
theorem scanSequence_eq {p : PatchDef} {g : Filter} (hg : p.filter = g.val) :
    (p.mode = 0 → scanSequence p = [0, 1, 2, 3]) ∧ (p.mode = 1 → scanSequence p = [0, 1, 2, 3, 0, 1, 2, 3]) ∧
    (p.mode = 2 → scanSequence p = [g, g, g, g]) ∧ (p.mode = 3 → scanSequence p = [g, g, g, g, g, g, g, g]) := by
  have hfilter : (Fin.ofNat 4 p.filter : Filter) = g := by
    rw [hg]
    exact Fin.ext (Nat.mod_eq_of_lt g.isLt)
  refine ⟨fun h => ?_, fun h => ?_, fun h => ?_, fun h => ?_⟩
  · simp only [scanSequence, h]
  · simp only [scanSequence, h]
  · simp only [scanSequence, h, hfilter]
    rfl
  · simp only [scanSequence, h, hfilter]
    rfl

/-- R149: the patches of a scan, as it starts. -/
def scanPatches (l : PatchLayout) : List ScanPatch :=
  (l.patches.toList.take l.count).map fun p => { expected := scanSequence p, raws := [], mark := .opened }

theorem scanPatches_length (l : PatchLayout) : (scanPatches l).length = min l.count 24 := by
  simp [scanPatches]

theorem scanPatches_get {l : PatchLayout} {k : Fin 24} (h : k.val < l.count) :
    (scanPatches l)[k.val]? = some { expected := scanSequence l.patches[k], raws := [], mark := .opened } := by
  simp [scanPatches, h]

/-- R148: the scan of a dispatched measure stop starts. -/
theorem leaves_scanStart {t : Stop} {m : MeasureStop} {patch : Vector PatchLayout 8} {f : Flight} {s : State}
    (hmeasure : s.colour.measure = some t.uid) (hscan : s.colour.scan = none) (hpatch : s.tables.patch = some patch)
    (hf : s.path.flight = some f) (hpaused : pausedStop s = some t.uid) (hfind : findStop s t.uid = some t)
    (hkind : t.kind = .measure m) : Leaves .scanStart s (startScan t m f.opId patch s.clearOut) := by
  refine leaves_of_command (exec_scanStart s) ?_
  have hfind' : findStop s.clearOut t.uid = some t := hfind
  have hpaused' : pausedStop s.clearOut = some t.uid := hpaused
  simp only [State.clearOut_colour, State.clearOut_tables, State.clearOut_path, hmeasure, hscan, hpatch, hf, hfind',
    hkind, hpaused', if_true]

/-! ### A reading (R150, R168) -/

section Reading

variable {f : Flight} {patch : Nat} {g : Filter} {raw : BitVec 16} {c : Scan} {s : State}

/-- R168: a reading while a VERIFY runs is kept, or makes its part malformed. -/
theorem verify_take (p : Part) (g : Filter) (raw : Nat) (v : Verify) : Verify.take p g raw v =
    if (p ≠ .lamp ∨ g = 3) ∧ v.readings[g].length < 8 then
      { v with readings := v.readings.set g.val (v.readings[g] ++ [raw]) }
    else { v with malformed := true } := by
  cases p <;> simp [Verify.take, Part.reads]

theorem takeReading_of_none (h : ∀ c, s.colour.scan = some c → c.ended ≠ none) (raw : Nat) :
    takeReading patch g raw s = s := by
  unfold takeReading
  split
  · next c hc => exact if_neg (by simpa using h c hc)
  · rfl

theorem takeReading_of_scan (hscan : s.colour.scan = some c) (hended : c.ended = none) (raw : Nat) :
    takeReading patch g raw s = s.onColour fun k => { k with
      scan := some { c with patches := c.patches.modify patch (ScanPatch.take g raw) } } := by
  simp only [takeReading, hscan, hended, Option.isNone_none, if_true]

/-- R150: a patch at or beyond the count is ignored. -/
theorem takeReading_beyond (hscan : s.colour.scan = some c) (hended : c.ended = none)
    (h : c.patches.length ≤ patch) (raw : Nat) : takeReading patch g raw s = s := by
  rw [takeReading_of_scan hscan hended, List.modify_eq_self h]
  simp only [State.onColour, ← hscan]

theorem takeReading_of_patch {p : ScanPatch} (hscan : s.colour.scan = some c) (hended : c.ended = none)
    (hp : c.patches[patch]? = some p) (raw : Nat) : takeReading patch g raw s = s.onColour fun k => { k with
      scan := some { c with patches := c.patches.set patch (ScanPatch.take g raw p) } } := by
  rw [takeReading_of_scan hscan hended, List.modify_eq_set_getElem?, hp]
  rfl

/-- R150: what a reading does to the patch it names. -/
theorem scanPatch_take (p : ScanPatch) (g : Filter) (raw : Nat) :
    (p.mark = .missed → p.take g raw = p) ∧
    (p.mark = .complete ∨ (p.mark = .opened ∧ p.expected[p.raws.length]? ≠ some g) →
      p.take g raw = { p with mark := .missed, raws := [] }) ∧
    (p.mark = .opened → p.expected[p.raws.length]? = some g →
      p.take g raw = { p with
        raws := p.raws ++ [raw], mark := if p.raws.length + 1 = p.expected.length then .complete else .opened }) := by
  refine ⟨fun h => ?_, ?_, fun h hexpected => ?_⟩
  · simp only [ScanPatch.take, h]
  · rintro (h | ⟨h, hexpected⟩)
    · simp only [ScanPatch.take, h]
    · simp only [ScanPatch.take, h, if_neg hexpected]
  · simp only [ScanPatch.take, h, hexpected, if_true]

end Reading

/-! ### The deadline of a scan (R151) -/

theorem endScan_waits {cause : EndCause} {s : State} (h : ∀ c, s.colour.scan = some c → c.ended ≠ none) :
    endScan cause s.clearOut = s.clearOut := endScan_of_none cause h

/-- Settles O48, from the start of a scan to its ends. -/
theorem scanRuns : Obligations.ScanRuns := by
  refine ⟨?_, fun s hscan => ?_,
    fun opId patch g raw s hother => ⟨waits_of_other rfl hother, waits_of_other rfl hother⟩,
    fun f patch g raw s hf => ⟨fun n d hphase => ⟨?_, ?_⟩, fun since hphase => ⟨?_, fun hwork => ?_, fun p hwork => ?_⟩,
      fun hphase => ⟨fun hnone => ⟨?_, ?_⟩, fun c hscan hended => ⟨?_, fun hbeyond => ?_, fun p hp => ?_⟩⟩⟩,
    fun c d s hscan hended hdeadline => ⟨fun hpassed => ?_, fun hbefore => ?_⟩, fun s hnone => ?_,
    fun f s hf => ⟨?_, ?_⟩⟩
  · intro t m panel l i patch f s hmeasure hscan hpatch hf hpaused hfind hkind hpanel hlayout hi
    have hleaves := leaves_scanStart hmeasure hscan hpatch hf hpaused hfind hkind
    have hl : layoutOf patch m.layout = patch[l] := by rw [hlayout, layoutOf_val]
    have hi' : findItem s.clearOut t.item = some i := hi
    simp only [startScan, hl, hi', hpanel] at hleaves
    refine ⟨_, hleaves, rfl, rfl, rfl, rfl, rfl, rfl, rfl, rfl, rfl, rfl, rfl, rfl, rfl, scanPatches_length _,
      fun k g hk hg => ?_⟩
    obtain ⟨h0, h1, h2, h3⟩ := scanSequence_eq hg
    have hget := scanPatches_get hk
    exact ⟨fun h => h0 h ▸ hget, fun h => h1 h ▸ hget, fun h => h2 h ▸ hget, fun h => h3 h ▸ hget⟩
  · obtain ⟨c, hc⟩ := Option.isSome_iff_exists.1 hscan
    refine waits_of_command (exec_scanStart s) ?_
    cases hmeasure : s.colour.measure <;> simp [hc, hmeasure]
  · refine leaves_of_flight rfl hf ?_
    simp only [hphase]
  · refine leaves_of_flight rfl hf ?_
    simp only [hphase]
  · refine waits_of_flight rfl hf ?_
    simp only [hphase]
  · refine waits_of_flight rfl hf ?_
    cases hw : f.work with
    | verify p => exact absurd hw (hwork p)
    | band n => simp only [hphase]
    | op o => simp only [hphase]
  · refine leaves_of_flight rfl hf ?_
    simp only [hphase, hwork, onVerify, verify_take]
  · refine waits_of_flight rfl hf ?_
    simp only [hphase]
    exact takeReading_of_none (s := s.clearOut) hnone _
  · refine waits_of_flight rfl hf ?_
    simp only [hphase]
    exact endScan_waits hnone
  · have hdone : Leaves (.scanDone f.opId) s (endScan .done s.clearOut) := by
      refine leaves_of_flight rfl hf ?_
      simp only [hphase]
    exact ⟨_, hdone, (scanEnded_endScan (s := s.clearOut) hscan hended).keepRunOut⟩
  · refine waits_of_flight rfl hf ?_
    simp only [hphase]
    exact takeReading_beyond (s := s.clearOut) hscan hended hbeyond _
  · refine ⟨p.take g raw.toNat, ?_, scanPatch_take p g raw.toNat⟩
    refine leaves_of_flight rfl hf ?_
    simp only [hphase]
    exact takeReading_of_patch (s := s.clearOut) hscan hended hp _
  · have hdone : Leaves .scanDeadline s (endScan .timeout s.clearOut) := by
      refine leaves_of_command (exec_scanDeadline s) ?_
      simp only [State.clearOut_colour, State.clearOut_now, hscan, hdeadline]
      exact if_pos ((passed_iff s.now d).2 hpassed)
    exact ⟨_, hdone, (scanEnded_endScan (s := s.clearOut) hscan hended).keepRunOut⟩
  · refine waits_of_command (exec_scanDeadline s) ?_
    have hnot : ¬passed s.now d = true := by
      rw [passed_iff]
      omega
    simp only [State.clearOut_colour, State.clearOut_now, hscan, hdeadline]
    exact if_neg hnot
  · refine waits_of_command (exec_scanDeadline s) ?_
    have hsame := endScan_waits (cause := .timeout) hnone
    simp only [hsame, ite_self]
    (repeat' split) <;> rfl
  · intro c hscan hended hmeasure
    refine endsWithFlight hf fun cause w hwscan hwmeasure _ => ?_
    have hover := scanEnded_endScan (cause := cause) (hwscan.trans hscan) hended
    obtain ⟨-, hafter, -⟩ := id hover
    rw [endMeasureUnread_of_none (hafter.trans (hwmeasure.trans hmeasure))]
    exact hover
  · intro u m hnone hmeasure hfind hkind
    refine endsWithFlight hf fun cause w hwscan hwmeasure hstop => ?_
    rw [endScan_of_none cause (hwscan ▸ hnone)]
    exact measureUnread_endMeasureUnread (hwmeasure.trans hmeasure) (hstop u.uid u m hfind hkind) hkind (hwscan ▸ hnone)

end Sys2Proof.Machine

/-! ## The books: what the ink accounts and the invariant that backs them look at (R84 to R87) -/

namespace Sys2Proof.Machine

/-- The part of a state that `InkBacked` reads: the accounts, the bands, the operations by the place where they stand,
the number that the next one gets, and what the reception and the count name. -/
structure Books where
  accounts : Vector Account 12
  store : List Band
  count : Option CountJob
  waiting : List Op
  abortWait : List Op
  queue : List QEntry
  work : Option FlightWork
  remainder : Option Op
  nextArise : Nat
  rx : Rx

/-- The books of a state. -/
def books (s : State) : Books :=
  { accounts := s.ink.accounts, store := s.path.store, count := s.path.count, waiting := s.path.waiting,
    abortWait := s.path.abortWait, queue := s.path.queue, work := s.path.flight.map Flight.work,
    remainder := s.media.remainder, nextArise := s.path.nextArise, rx := s.link.rx }

/-- The general operation of a work in flight. -/
def FlightWork.op? : FlightWork → Option Op
  | .op o => some o
  | .band _ => none
  | .verify _ => none

/-! ### The ink that holders name (R84) -/

/-- What some holders name on a channel, in all. -/
def inkOn (amounts : List (List (Chan × Nat))) (c : Chan) : Nat := (amounts.map fun a => heldOn a c).sum

@[simp] theorem inkOn_nil (c : Chan) : inkOn [] c = 0 := rfl

@[simp] theorem inkOn_cons (a : List (Chan × Nat)) (l : List (List (Chan × Nat))) (c : Chan) :
    inkOn (a :: l) c = heldOn a c + inkOn l c := by
  simp [inkOn]

@[simp] theorem inkOn_append (l m : List (List (Chan × Nat))) (c : Chan) :
    inkOn (l ++ m) c = inkOn l c + inkOn m c := by
  simp [inkOn]

@[simp] theorem heldOn_nil (c : Chan) : heldOn [] c = 0 := rfl

theorem heldOn_cons (a : Chan × Nat) (l : List (Chan × Nat)) (c : Chan) :
    heldOn (a :: l) c = (if a.1 = c then a.2 else 0) + heldOn l c := by
  by_cases h : a.1 = c <;> simp [heldOn, h]

/-- What a band holds on a channel. -/
def Band.ink (b : Band) (c : Chan) : Nat := if b.holdsInk then heldOn b.amounts c else 0

theorem Band.ink_of_holds {b : Band} (h : b.holdsInk = true) (c : Chan) : b.ink c = heldOn b.amounts c := if_pos h

theorem Band.ink_of_not_holds {b : Band} (h : b.holdsInk = false) (c : Chan) : b.ink c = 0 := by simp [Band.ink, h]

/-- What the bands of a store hold on a channel: those RESERVED, QUEUED and IN_FLIGHT. -/
def bandInk (store : List Band) (c : Chan) : Nat := inkOn ((store.filter Band.holdsInk).map Band.amounts) c

/-- What some operations hold on a channel. -/
def opInk (ops : List Op) (c : Chan) : Nat := inkOn (ops.map Op.flushOf) c

@[simp] theorem bandInk_nil (c : Chan) : bandInk [] c = 0 := rfl

@[simp] theorem bandInk_append (l m : List Band) (c : Chan) : bandInk (l ++ m) c = bandInk l c + bandInk m c := by
  simp [bandInk]

@[simp] theorem bandInk_cons (b : Band) (l : List Band) (c : Chan) : bandInk (b :: l) c = b.ink c + bandInk l c := by
  unfold bandInk Band.ink
  by_cases h : b.holdsInk = true <;> simp [h]

@[simp] theorem opInk_nil (c : Chan) : opInk [] c = 0 := rfl

@[simp] theorem opInk_cons (o : Op) (l : List Op) (c : Chan) : opInk (o :: l) c = heldOn o.flushOf c + opInk l c := by
  simp [opInk]

@[simp] theorem opInk_append (l m : List Op) (c : Chan) : opInk (l ++ m) c = opInk l c + opInk m c := by
  simp [opInk]

/-- Operations changed without a change of what each asks for hold the same. -/
theorem opInk_map {f : Op → Op} (h : ∀ o, (f o).flushOf = o.flushOf) (l : List Op) (c : Chan) :
    opInk (l.map f) c = opInk l c := by
  have hflush : Op.flushOf ∘ f = Op.flushOf := funext h
  simp [opInk, hflush]

/-- Operations that ask for no ink may go. -/
theorem opInk_filter {p : Op → Bool} {l : List Op} (h : ∀ o ∈ l, p o = false → o.flushOf = []) (c : Chan) :
    opInk (l.filter p) c = opInk l c := by
  induction l with
  | nil => rfl
  | cons o l ih =>
    have hrest := ih fun w hw => h w (List.mem_cons_of_mem o hw)
    cases hp : p o with
    | true => simp [hp, hrest]
    | false => simp [hp, hrest, h o List.mem_cons_self hp]

/-! ### The invariant on the books -/

/-- What the holders of a reservation name on a channel. -/
def Books.named (h : Books) (c : Chan) : Nat :=
  bandInk h.store c + opInk (h.waiting.filter Op.ready) c + opInk h.abortWait c +
    opInk (h.queue.filterMap QEntry.op?) c + opInk (h.work.bind FlightWork.op?).toList c + opInk h.remainder.toList c

/-- R85: an account with its floor and its capacity kept. -/
def Account.Sound (a : Account) : Prop := a.reserved + 150000 ≤ a.subTank ∧ a.subTank ≤ 2000000

/-- A band names each channel once, and its reserve covers its demand. -/
def Band.Whole (b : Band) : Prop :=
  (b.channels.map BandChannel.chan).Nodup ∧
    ∀ k ∈ b.channels, k.demand ≤ 10000 * k.reserve ∧ k.quarterDemand 4 ≤ 10000 * k.reserve

/-- Every band of a number is in a state. -/
def Told (store : List Band) (n : Nat) (p : Band → Prop) : Prop := ∀ b ∈ store, b.serial = n → p b

/-- A band that the head operation queue or the head link names. -/
def Books.Names (h : Books) (n : Nat) : Prop := .band n ∈ h.queue ∨ h.work = some (.band n)

/-- R87 on the books. -/
def Books.ResiduesBelow (h : Books) : Prop := ∀ c : Chan, h.accounts[c].residue < 10000

/-- `InkBacked` on the books. -/
structure Books.Backed (h : Books) : Prop where
  sound : ∀ c : Chan, h.accounts[c].Sound
  reserved : ∀ c : Chan, h.accounts[c].reserved = h.named c
  residues : h.ResiduesBelow
  whole : ∀ b ∈ h.store, b.Whole
  flushes : ∀ o ∈ h.waiting, (o.flushOf.map Prod.fst).Nodup
  remainder : ∀ o, h.remainder = some o → o.flushOf = []
  bandSerials : (h.store.map Band.serial).Nodup
  opSerials : (h.waiting.map Op.serial).Nodup
  bandsArisen : ∀ b ∈ h.store, b.serial < h.nextArise
  opsArisen : ∀ o ∈ h.waiting, o.serial < h.nextArise
  filling : ∀ n wire length tag, h.rx = .filling n wire length tag → Told h.store n fun b => b.state = .filling
  counting : ∀ j, h.count = some j → j.band < h.nextArise ∧ Told h.store j.band fun b => b.state = .counting
  names : ∀ n, h.Names n → n < h.nextArise ∧ Told h.store n fun b => b.holdsInk = true

theorem sum_holders (s : State) (c : Chan) : ((holders s).map fun a => heldOn a c).sum = (books s).named c := by
  have hwork : flightOp s = (s.path.flight.map Flight.work).bind FlightWork.op? := by
    unfold flightOp
    cases s.path.flight with
    | none => rfl
    | some f =>
      obtain ⟨-, work, -⟩ := f
      cases work <;> rfl
  simp only [holders, hwork, books, Books.named, bandInk, opInk, inkOn, List.map_append, List.sum_append]
  omega

/-- The invariant of a state is that of its books. -/
theorem inkBacked_iff (s : State) : InkBacked s ↔ (books s).Backed := by
  constructor
  · rintro ⟨haccounts, hresidues, ⟨hwhole, hflushes, hremainder⟩, hbands, hops, hband, hop, hfilling, hcounting,
      hqueue, hflight⟩
    refine ⟨fun c => ?_, fun c => ?_, hresidues, hwhole, hflushes, hremainder, hbands, hops, hband, hop, hfilling,
      hcounting, fun n hn => ?_⟩
    · obtain ⟨hfloor, hfull, -⟩ := haccounts c
      exact ⟨hfloor, hfull⟩
    · obtain ⟨-, -, hsum⟩ := haccounts c
      exact hsum.trans (sum_holders s c)
    · obtain hn | hn := hn
      · exact hqueue n hn
      · obtain ⟨f, hf, hw⟩ := Option.map_eq_some_iff.1 hn
        exact hflight f n hf hw
  · intro h
    refine ⟨fun c => ⟨(h.sound c).1, (h.sound c).2, ?_⟩, h.residues, ⟨h.whole, h.flushes, h.remainder⟩, h.bandSerials,
      h.opSerials, h.bandsArisen, h.opsArisen, h.filling, h.counting, fun n hn => h.names n (.inl hn),
      fun f n hf hw => h.names n (.inr ?_)⟩
    · exact (h.reserved c).trans (sum_holders s c).symm
    · simp [books, hf, hw]

theorem residuesBelow_iff (s : State) : ResiduesBelow s ↔ (books s).ResiduesBelow := Iff.rfl

/-! ### What is kept from one state of the books to the next -/

/-- The residues stay below their bound, and the accounts stay backed. -/
def Books.Keeps (h h' : Books) : Prop := (h.ResiduesBelow → h'.ResiduesBelow) ∧ (h.Backed → h'.Backed)

theorem Books.Keeps.refl (h : Books) : h.Keeps h := ⟨id, id⟩

theorem Books.Keeps.of_eq {h h' : Books} (heq : h' = h) : h.Keeps h' := heq ▸ .refl h

theorem Books.Keeps.trans {h h' h'' : Books} (hk : h.Keeps h') (hk' : h'.Keeps h'') : h.Keeps h'' :=
  ⟨hk'.1 ∘ hk.1, hk'.2 ∘ hk.2⟩

/-- A change that leaves the accounts leaves the residues. -/
theorem Books.Keeps.of_accounts {h h' : Books} (haccounts : h'.accounts = h.accounts) (hb : h.Backed → h'.Backed) :
    h.Keeps h' :=
  ⟨fun hr c => haccounts ▸ hr c, hb⟩

end Sys2Proof.Machine

namespace Sys2Proof.Machine

/-! ### One entry of a list by its number -/

section Keyed

variable {α : Type} {key : α → Nat} {a : α} {l older younger : List α}

theorem exists_split_of_key (hnodup : (l.map key).Nodup) (ha : a ∈ l) :
    ∃ older younger, l = older ++ a :: younger ∧ ∀ x ∈ older ++ younger, key x ≠ key a := by
  obtain ⟨older, younger, rfl⟩ := List.append_of_mem ha
  refine ⟨older, younger, rfl, fun x hx heq => ?_⟩
  rw [List.map_append, List.map_cons, List.nodup_middle, ← List.map_append, List.nodup_cons] at hnodup
  exact hnodup.1 (heq ▸ List.mem_map_of_mem hx)

/-- What holds of every entry still does once one of them is exchanged, if it holds of the new one. -/
theorem forall_mem_exchange {p : α → Prop} {a' : α} (h : ∀ x ∈ older ++ a :: younger, p x) (ha : p a') :
    ∀ x ∈ older ++ a' :: younger, p x := by
  simp only [List.mem_append, List.mem_cons] at h ⊢
  rintro x (hx | rfl | hx)
  · exact h x (.inl hx)
  · exact ha
  · exact h x (.inr (.inr hx))

variable (hne : ∀ x ∈ older ++ younger, key x ≠ key a)

include hne

theorem map_of_split (f : α → α) :
    ((older ++ a :: younger).map fun x => if key x = key a then f x else x) = older ++ f a :: younger := by
  have hsame (m : List α) (hm : ∀ x ∈ m, x ∈ older ++ younger) :
      (m.map fun x => if key x = key a then f x else x) = m :=
    (List.map_congr_left fun x hx => if_neg (hne x (hm x hx))).trans (List.map_id m)
  simp [hsame older (by simp +contextual), hsame younger (by simp +contextual)]

theorem filter_of_split : ((older ++ a :: younger).filter fun x => key x != key a) = older ++ younger := by
  have hsame : ((older ++ younger).filter fun x => key x != key a) = older ++ younger :=
    List.filter_eq_self.2 fun x hx => by simpa using hne x hx
  simpa using hsame

end Keyed

/-! ### The changes of the books, one by one -/

section Changes

variable {h : Books}

/-- R93, R181: ink flows into a sub-tank that has room, and lifetime counters change. -/
structure Account.Tops (a a' : Account) : Prop where
  reserved : a'.reserved = a.reserved
  residue : a'.residue = a.residue
  grows : a.subTank ≤ a'.subTank
  fits : a.subTank ≤ 2000000 → a'.subTank ≤ 2000000

theorem Account.Tops.refl (a : Account) : a.Tops a := ⟨rfl, rfl, le_rfl, id⟩

theorem Account.Tops.sound {a a' : Account} (h : a.Tops a') (hs : a.Sound) : a'.Sound := by
  obtain ⟨hfloor, hfull⟩ := hs
  exact ⟨h.reserved ▸ hfloor.trans h.grows, h.fits hfull⟩

theorem Books.keeps_accounts {accounts : Vector Account 12} (ht : ∀ c : Chan, h.accounts[c].Tops accounts[c]) :
    h.Keeps { h with accounts := accounts } :=
  ⟨fun hr c => (ht c).residue ▸ hr c, fun hb =>
    { hb with
      sound := fun c => (ht c).sound (hb.sound c),
      reserved := fun c => (ht c).reserved.trans (hb.reserved c),
      residues := fun c => (ht c).residue ▸ hb.residues c,
      names := hb.names }⟩

/-- Only the accounts differ, by what has flowed in. -/
structure Books.Topped (h h' : Books) : Prop where
  same : h' = { h with accounts := h'.accounts }
  tops : ∀ c : Chan, h.accounts[c].Tops h'.accounts[c]

theorem Books.Topped.keeps {h h' : Books} (ht : h.Topped h') : h.Keeps h' := by
  obtain ⟨hsame, htops⟩ := ht
  rw [hsame]
  exact Books.keeps_accounts htops

theorem Account.Tops.trans {a a' a'' : Account} (h : a.Tops a') (h' : a'.Tops a'') : a.Tops a'' :=
  ⟨h'.reserved.trans h.reserved, h'.residue.trans h.residue, h.grows.trans h'.grows, h'.fits ∘ h.fits⟩

theorem Books.Topped.of_eq {h h' : Books} (heq : h' = h) : h.Topped h' := heq ▸ ⟨rfl, fun _ => .refl _⟩

theorem Books.Topped.trans {h h' h'' : Books} (ht : h.Topped h') (ht' : h'.Topped h'') : h.Topped h'' := by
  refine ⟨?_, fun c => (ht.tops c).trans (ht'.tops c)⟩
  rw [ht'.same, ht.same]

/-- The reception of a band's planes ends, or that of none begins. -/
theorem Books.keeps_rx {rx : Rx} (hrx : ∀ n wire length tag, rx = .filling n wire length tag → h.rx = rx) :
    h.Keeps { h with rx := rx } :=
  .of_accounts rfl fun hb =>
    { hb with
      filling := fun n wire length tag heq => hb.filling n wire length tag ((hrx n wire length tag heq).trans heq),
      names := hb.names }

/-- R65: the count ends. -/
theorem Books.keeps_countEnd : h.Keeps { h with count := none } :=
  .of_accounts rfl fun hb => { hb with counting := fun _ hj => (nomatch hj), names := hb.names }

/-- Operations move on, arise or are given up, with what is held the same and no band named anew. -/
theorem Books.Backed.moveOps {h' : Books} (hb : h.Backed) (haccounts : h'.accounts = h.accounts)
    (hstore : h'.store = h.store) (hcount : h'.count = h.count) (hrx : h'.rx = h.rx)
    (hnext : h.nextArise ≤ h'.nextArise)
    (hflushes : ∀ o ∈ h'.waiting, (o.flushOf.map Prod.fst).Nodup)
    (hrest : ∀ o, h'.remainder = some o → o.flushOf = [])
    (hserials : (h'.waiting.map Op.serial).Nodup) (harisen : ∀ o ∈ h'.waiting, o.serial < h'.nextArise)
    (hnamed : ∀ c, h'.named c = h.named c) (hnames : ∀ n, h'.Names n → h.Names n) : h'.Backed := by
  obtain ⟨hsound, hreserved, hresidues, hwhole, -, -, hbands, -, hband, -, hfilling, hcounting, hold⟩ := hb
  refine ⟨?_, ?_, ?_, ?_, hflushes, hrest, ?_, hserials, ?_, harisen, ?_, ?_, fun n hn => ?_⟩
  · simpa only [haccounts] using hsound
  · simpa only [haccounts, hnamed] using hreserved
  · simpa only [Books.ResiduesBelow, haccounts] using hresidues
  · simpa only [hstore] using hwhole
  · simpa only [hstore] using hbands
  · exact fun b hb => (hband b (hstore ▸ hb)).trans_le hnext
  · simpa only [hrx, hstore] using hfilling
  · rw [hcount, hstore]
    exact fun j hj => ⟨(hcounting j hj).1.trans_le hnext, (hcounting j hj).2⟩
  · rw [hstore]
    exact ⟨(hold n (hnames n hn)).1.trans_le hnext, (hold n (hnames n hn)).2⟩

/-- R68, R50: an operation arises; a CLEAN holds nothing before its grant. -/
theorem Books.keeps_arise {o : Op} (hserial : o.serial = h.nextArise) (hflush : (o.flushOf.map Prod.fst).Nodup)
    (hready : o.ready = true → o.flushOf = []) :
    h.Keeps { h with waiting := h.waiting ++ [o], nextArise := h.nextArise + 1 } := by
  refine .of_accounts rfl fun hb => hb.moveOps rfl rfl rfl rfl (Nat.le_succ _) ?_ hb.remainder ?_ ?_ (fun c => ?_)
    fun n => id
  · simpa [or_imp, forall_and, hflush] using hb.flushes
  · have hfresh : ∀ w ∈ h.waiting, w.serial ≠ o.serial := fun w hw => by
      have hlt := hb.opsArisen w hw
      omega
    simpa [List.nodup_append, hserial] using ⟨hb.opSerials, fun w hw => hserial ▸ hfresh w hw⟩
  · intro w hw
    obtain hw | rfl := List.mem_append.1 hw |>.imp_right List.mem_singleton.1
    · exact (hb.opsArisen w hw).trans (Nat.lt_succ_self _)
    · exact hserial ▸ Nat.lt_succ_self _
  · have hnone : opInk ([o].filter Op.ready) c = 0 := by
      cases hr : o.ready with
      | true => simp [hr, hready hr]
      | false => simp [hr]
    simp [Books.named, hnone]

/-- R50: waiting operations that ask for no ink are given up. -/
theorem Books.keeps_giveUp {p : Op → Bool} (hp : ∀ o ∈ h.waiting, p o = false → o.flushOf = []) :
    h.Keeps { h with waiting := h.waiting.filter p } := by
  refine .of_accounts rfl fun hb => hb.moveOps rfl rfl rfl rfl le_rfl ?_ hb.remainder ?_ ?_ (fun c => ?_) fun n => id
  · exact fun o ho => hb.flushes o (List.mem_filter.1 ho).1
  · exact hb.opSerials.sublist (List.filter_sublist.map _)
  · exact fun o ho => hb.opsArisen o (List.mem_filter.1 ho).1
  · have hrest : opInk ((h.waiting.filter p).filter Op.ready) c = opInk (h.waiting.filter Op.ready) c := by
      rw [List.filter_comm]
      exact opInk_filter (fun o ho => hp o (List.mem_filter.1 ho).1) c
    simp only [Books.named, hrest]

/-- R56, R127, R129: FEEDs join the queue or wait for it, and a remainder enters it or is planned. -/
theorem Books.keeps_feeds {abortWait : List Op} {queue : List QEntry} {rest : Option Op} {next : Nat}
    (hnext : h.nextArise ≤ next) (hrest : ∀ o, rest = some o → h.remainder = rest ∨ o.flushOf = [])
    (hwait : ∀ c, opInk abortWait c = opInk h.abortWait c)
    (hqueue : h.Backed → ∀ c, opInk (queue.filterMap QEntry.op?) c = opInk (h.queue.filterMap QEntry.op?) c)
    (hbands : ∀ n, .band n ∈ queue → .band n ∈ h.queue) :
    h.Keeps { h with abortWait := abortWait, queue := queue, remainder := rest, nextArise := next } := by
  refine .of_accounts rfl fun hb => ?_
  have hnone (r : Option Op) (hr : ∀ o, r = some o → o.flushOf = []) (c : Chan) : opInk r.toList c = 0 := by
    cases r with
    | none => rfl
    | some o => simp [hr o rfl]
  have hfeed (o : Op) (ho : rest = some o) : o.flushOf = [] :=
    (hrest o ho).elim (fun heq => hb.remainder o (heq.trans ho)) id
  refine hb.moveOps rfl rfl rfl rfl hnext hb.flushes hfeed hb.opSerials
    (fun o ho => (hb.opsArisen o ho).trans_le hnext) (fun c => ?_) fun n => Or.imp_left (hbands n)
  simp [Books.named, hwait, hqueue hb, hnone rest hfeed, hnone _ hb.remainder]

/-- R73: an operation leaves the queue for the head link, with its remainder planned (R127). -/
theorem Books.keeps_offer {q : QEntry} {rest : List QEntry} {work : FlightWork} {remainder : Option Op}
    (hidle : h.work = none) (hqueue : h.queue = q :: rest) (hop : work.op? = q.op?)
    (hband : ∀ n, work = .band n → q = .band n)
    (hrest : ∀ o, remainder = some o → h.remainder = remainder ∨ o.flushOf = []) :
    h.Keeps { h with queue := rest, work := some work, remainder := remainder } := by
  refine .of_accounts rfl fun hb => ?_
  have hnone (r : Option Op) (hr : ∀ o, r = some o → o.flushOf = []) (c : Chan) : opInk r.toList c = 0 := by
    cases r with
    | none => rfl
    | some o => simp [hr o rfl]
  have hfeed (o : Op) (ho : remainder = some o) : o.flushOf = [] :=
    (hrest o ho).elim (fun heq => hb.remainder o (heq.trans ho)) id
  refine hb.moveOps rfl rfl rfl rfl le_rfl hb.flushes hfeed hb.opSerials hb.opsArisen (fun c => ?_) fun n hn => ?_
  · cases hq : q.op? <;>
      simp [Books.named, hidle, hqueue, hop, hq, hnone remainder hfeed, hnone _ hb.remainder]
    omega
  · refine .inl (hqueue ▸ ?_)
    obtain hn | hn := hn
    · exact List.mem_cons_of_mem q hn
    · exact hband n (Option.some.inj hn) ▸ List.mem_cons_self

/-- A band changes, and the accounts with what it holds. -/
theorem Books.Backed.setBand (hb : h.Backed) {b : Band} (hmem : b ∈ h.store) {f : Band → Band}
    (hserial : (f b).serial = b.serial) (hwhole : (f b).Whole)
    (hfilling : b.state = .filling →
      (f b).state = .filling ∨ ∀ n wire length tag, h.rx ≠ .filling n wire length tag)
    (hcounting : b.state = .counting → (f b).state = .counting ∨ h.count = none)
    (hholds : b.holdsInk = true → (f b).holdsInk = true)
    {accounts : Vector Account 12} (hsound : ∀ c : Chan, accounts[c].Sound)
    (hreserved : ∀ c : Chan, accounts[c].reserved + b.ink c = h.accounts[c].reserved + (f b).ink c)
    (hresidues : ∀ c : Chan, accounts[c].residue < 10000) :
    { h with accounts := accounts,
             store := h.store.map fun a => if a.serial = b.serial then f a else a : Books }.Backed := by
  obtain ⟨older, younger, hsplit, hne⟩ := exists_split_of_key hb.bandSerials hmem
  have hstore : (h.store.map fun a => if a.serial = b.serial then f a else a) = older ++ f b :: younger := by
    rw [hsplit, map_of_split hne]
  have hall {p : Band → Prop} (hp : ∀ a ∈ h.store, p a) (hfb : p (f b)) :
      ∀ a ∈ older ++ f b :: younger, p a :=
    forall_mem_exchange (hsplit ▸ hp) hfb
  have htold {n : Nat} {p : Band → Prop} (hp : p b → p (f b)) (ht : Told h.store n p) :
      Told (older ++ f b :: younger) n p :=
    hall ht fun hn => hp (ht b hmem (hserial ▸ hn))
  rw [hstore]
  refine { hb with
    sound := hsound, residues := hresidues,
    reserved := fun c => ?_, whole := hall hb.whole hwhole,
    bandSerials := ?_, bandsArisen := hall hb.bandsArisen (hserial ▸ hb.bandsArisen b hmem),
    filling := fun n wire length tag hrx => htold (fun hs => (hfilling hs).resolve_right fun hno => hno _ _ _ _ hrx)
      (hb.filling n wire length tag hrx),
    counting := fun j hj => ⟨(hb.counting j hj).1, htold (fun hs => (hcounting hs).resolve_right fun hno =>
      nomatch hno.symm.trans hj) (hb.counting j hj).2⟩,
    names := fun n hn => ⟨(hb.names n hn).1, htold hholds (hb.names n hn).2⟩ }
  · have hold := hb.reserved c
    have hchange := hreserved c
    simp only [Books.named, hsplit, bandInk_append, bandInk_cons] at hold ⊢
    omega
  · have hnodup := hb.bandSerials
    rw [hsplit] at hnodup
    simpa [hserial] using hnodup

/-- A band changes, but not what it holds. -/
theorem Books.Backed.changeBand (hb : h.Backed) {b : Band} (hmem : b ∈ h.store) {f : Band → Band}
    (hserial : (f b).serial = b.serial) (hwhole : (f b).Whole)
    (hfilling : b.state = .filling →
      (f b).state = .filling ∨ ∀ n wire length tag, h.rx ≠ .filling n wire length tag)
    (hcounting : b.state = .counting → (f b).state = .counting ∨ h.count = none)
    (hholds : b.holdsInk = true → (f b).holdsInk = true)
    (hink : ∀ c, (f b).ink c = b.ink c) :
    { h with store := h.store.map fun a => if a.serial = b.serial then f a else a : Books }.Backed :=
  hb.setBand hmem hserial hwhole hfilling hcounting hholds hb.sound (fun c => by rw [hink c]) hb.residues

/-- R66: a CLEAN that waits comes to hold what it asked for. -/
theorem Books.Backed.grantOp (hb : h.Backed) {o : Op} (hmem : o ∈ h.waiting) {f : Op → Op}
    (hserial : (f o).serial = o.serial) (hflush : (f o).flushOf = o.flushOf) (hasks : o.ready = false)
    (hready : (f o).ready = true) {accounts : Vector Account 12} (hsound : ∀ c : Chan, accounts[c].Sound)
    (hreserved : ∀ c : Chan, accounts[c].reserved = h.accounts[c].reserved + heldOn o.flushOf c)
    (hresidues : ∀ c : Chan, accounts[c].residue < 10000) :
    { h with accounts := accounts,
             waiting := h.waiting.map fun w => if w.serial = o.serial then f w else w : Books }.Backed := by
  obtain ⟨older, younger, hsplit, hne⟩ := exists_split_of_key hb.opSerials hmem
  have hwaiting : (h.waiting.map fun w => if w.serial = o.serial then f w else w) = older ++ f o :: younger := by
    rw [hsplit, map_of_split hne]
  have hall {p : Op → Prop} (hp : ∀ w ∈ h.waiting, p w) (hfo : p (f o)) :
      ∀ w ∈ older ++ f o :: younger, p w :=
    forall_mem_exchange (hsplit ▸ hp) hfo
  rw [hwaiting]
  refine { hb with
    sound := hsound, residues := hresidues, reserved := fun c => ?_, names := hb.names, opSerials := ?_,
    flushes := hall hb.flushes (hflush ▸ hb.flushes o hmem),
    opsArisen := hall hb.opsArisen (hserial ▸ hb.opsArisen o hmem) }
  · have hold := hb.reserved c
    have hgrant := hreserved c
    simp only [Books.named, hsplit, List.filter_append, List.filter_cons, hasks, hready, if_true, Bool.false_eq_true,
      if_false, opInk_append, opInk_cons, hflush] at hold ⊢
    omega
  · have hserials := hb.opSerials
    rw [hsplit] at hserials
    simpa [hserial] using hserials

/-- R68: an operation that waits and is ready enters the queue. -/
theorem Books.keeps_enterOp {o : Op} (hmem : o ∈ h.waiting) (hready : o.ready = true) :
    h.Keeps { h with waiting := h.waiting.filter fun w => w.serial != o.serial, queue := h.queue ++ [.op o] } := by
  refine .of_accounts rfl fun hb => ?_
  obtain ⟨older, younger, hsplit, hne⟩ := exists_split_of_key hb.opSerials hmem
  have hleft : (h.waiting.filter fun w => w.serial != o.serial) = older ++ younger := by
    rw [hsplit, filter_of_split hne]
  have hop : [QEntry.op o].filterMap QEntry.op? = [o] := rfl
  refine hb.moveOps rfl rfl rfl rfl le_rfl (fun w hw => hb.flushes w (List.mem_filter.1 hw).1) hb.remainder
    (hb.opSerials.sublist (List.filter_sublist.map _)) (fun w hw => hb.opsArisen w (List.mem_filter.1 hw).1)
    (fun c => ?_) fun n hn => hn.imp_left fun hq => by simpa using hq
  simp only [Books.named, hleft]
  simp only [hsplit, List.filter_append, List.filter_cons, hready, if_true, opInk_append, opInk_cons, hop,
    List.filterMap_append, opInk_nil]
  omega

/-- R56: an abort feed that waits takes a general place. -/
theorem Books.keeps_enterAbortFeed {o : Op} {rest : List Op} (hwait : h.abortWait = o :: rest) :
    h.Keeps { h with abortWait := rest, queue := h.queue ++ [.op o] } := by
  have hop : [QEntry.op o].filterMap QEntry.op? = [o] := rfl
  refine .of_accounts rfl fun hb => hb.moveOps rfl rfl rfl rfl le_rfl hb.flushes hb.remainder hb.opSerials hb.opsArisen
    (fun c => ?_) fun n hn => hn.imp_left fun hq => by simpa using hq
  simp only [Books.named, hwait, opInk_append, opInk_cons, hop, List.filterMap_append, opInk_nil]
  omega

/-- A band that holds ink is named by the queue. -/
theorem Books.Backed.nameBand (hb : h.Backed) {b : Band} (hmem : b ∈ h.store) (hholds : b.holdsInk = true) :
    { h with queue := h.queue ++ [.band b.serial] : Books }.Backed := by
  refine { hb with reserved := fun c => ?_, names := fun n hn => ?_ }
  · have hop : [QEntry.band b.serial].filterMap QEntry.op? = [] := rfl
    simpa [Books.named, hop] using hb.reserved c
  · by_cases heq : n = b.serial
    · subst heq
      refine ⟨hb.bandsArisen b hmem, fun a ha hserial => ?_⟩
      exact List.inj_on_of_nodup_map hb.bandSerials ha hmem hserial ▸ hholds
    · refine hb.names n (hn.imp_left fun hq => ?_)
      simpa [heq] using hq

/-- Some ink is taken out of an account with the reservation that covers it. -/
structure Account.Frees (r : Nat) (a a' : Account) : Prop where
  reserved : a'.reserved = a.reserved - r
  least : a.subTank ≤ a'.subTank + r
  most : a'.subTank ≤ a.subTank

theorem Account.Frees.sound {r : Nat} {a a' : Account} (h : a.Frees r a') (hr : r ≤ a.reserved) (hs : a.Sound) :
    a'.Sound := by
  obtain ⟨hreserved, hleast, hmost⟩ := h
  obtain ⟨hfloor, hfull⟩ := hs
  constructor <;> omega

theorem Account.Frees.refl (a : Account) : a.Frees 0 a := ⟨rfl, le_rfl, le_rfl⟩

theorem Account.Frees.trans {r r' : Nat} {a a' a'' : Account} (h : a.Frees r a') (h' : a'.Frees r' a'') :
    a.Frees (r + r') a'' := by
  obtain ⟨hreserved, hleast, hmost⟩ := h
  obtain ⟨hreserved', hleast', hmost'⟩ := h'
  constructor <;> omega

/-- R67, R75: a band has left the store and the queue. -/
def Books.without (n : Nat) (h : Books) : Books :=
  { h with store := h.store.filter fun a => a.serial != n, queue := h.queue.filter fun q => q != .band n }

theorem Books.Topped.without {h h' : Books} (ht : h.Topped h') (n : Nat) : (h.without n).Topped (h'.without n) := by
  obtain ⟨hsame, htops⟩ := ht
  exact ⟨by rw [hsame]; rfl, htops⟩

/-- R67, R75: a band leaves the store and the queue, and what it holds is released or settled. -/
theorem Books.Backed.dropBand (hb : h.Backed) {b : Band} (hmem : b ∈ h.store) {accounts : Vector Account 12}
    (hfrees : ∀ c : Chan, h.accounts[c].Frees (b.ink c) accounts[c])
    (hresidues : ∀ c : Chan, accounts[c].residue < 10000) :
    ({ h with accounts := accounts : Books }.without b.serial).Backed := by
  obtain ⟨older, younger, hsplit, hne⟩ := exists_split_of_key hb.bandSerials hmem
  have hstore : (h.store.filter fun a => a.serial != b.serial) = older ++ younger := by
    rw [hsplit, filter_of_split hne]
  have hsub : (older ++ younger).Sublist h.store := by
    rw [← hstore]
    exact List.filter_sublist
  have htold {n : Nat} {p : Band → Prop} (ht : Told h.store n p) : Told (older ++ younger) n p :=
    fun a ha => ht a (hsub.subset ha)
  have hops : (h.queue.filter fun q => q != .band b.serial).filterMap QEntry.op? = h.queue.filterMap QEntry.op? := by
    rw [List.filterMap_filter]
    refine List.filterMap_congr fun q _ => ?_
    cases q <;> simp [QEntry.op?]
  have hnamed (c : Chan) : h.named c = b.ink c + (h.named c - b.ink c) ∧ b.ink c ≤ h.named c := by
    have hle : b.ink c ≤ h.named c := by
      simp only [Books.named, hsplit, bandInk_append, bandInk_cons]
      omega
    omega
  unfold Books.without
  rw [hstore]
  refine { hb with
    sound := fun c => (hfrees c).sound ((hb.reserved c).symm ▸ (hnamed c).2) (hb.sound c), residues := hresidues,
    reserved := fun c => ?_, whole := fun a ha => hb.whole a (hsub.subset ha),
    bandSerials := hb.bandSerials.sublist (hsub.map _), bandsArisen := fun a ha => hb.bandsArisen a (hsub.subset ha),
    filling := fun n wire length tag hrx => htold (hb.filling n wire length tag hrx),
    counting := fun j hj => ⟨(hb.counting j hj).1, htold (hb.counting j hj).2⟩,
    names := fun n hn => ?_ }
  · have hold := hb.reserved c
    have hfree := (hfrees c).reserved
    simp only [Books.named, hops, hsplit, bandInk_append, bandInk_cons] at hold ⊢
    omega
  · have hn' : h.Names n := hn.imp_left fun hq => (List.mem_filter.1 hq).1
    exact ⟨(hb.names n hn').1, htold (hb.names n hn').2⟩

/-- R75 to R77: the work in flight ends, and what a CLEAN holds is spent. -/
theorem Books.Backed.endWork (hb : h.Backed) {accounts : Vector Account 12}
    (hfrees : ∀ c : Chan, h.accounts[c].Frees (opInk (h.work.bind FlightWork.op?).toList c) accounts[c])
    (hresidues : ∀ c : Chan, accounts[c].residue < 10000) :
    { h with accounts := accounts, work := none : Books }.Backed := by
  refine { hb with
    sound := fun c => (hfrees c).sound ?_ (hb.sound c), residues := hresidues, reserved := fun c => ?_,
    names := fun n hn => hb.names n (hn.imp_right fun hw => (nomatch hw)) }
  · rw [hb.reserved c, Books.named]
    omega
  · have hold := hb.reserved c
    have hfree := (hfrees c).reserved
    simp only [Books.named, Option.bind_none, Option.toList_none, opInk_nil] at hold ⊢
    omega

/-- R63: a band is accepted; the reception names it. -/
theorem Books.keeps_accept {b : Band} {wire : List Byte} {length : Nat} {tag : Byte}
    (hserial : b.serial = h.nextArise)
    (hstate : b.state = .filling) (hwhole : b.Whole) :
    h.Keeps { h with
      store := h.store ++ [b], nextArise := h.nextArise + 1, rx := .filling b.serial wire length tag } := by
  refine .of_accounts rfl fun hb => ?_
  have hfree : b.holdsInk = false := by simp [Band.holdsInk, hstate]
  have htold {n : Nat} {p : Band → Prop} (hn : n < h.nextArise) (ht : Told h.store n p) :
      Told (h.store ++ [b]) n p := by
    intro a ha heq
    obtain ha | rfl := List.mem_append.1 ha |>.imp_right List.mem_singleton.1
    · exact ht a ha heq
    · omega
  have hfresh : ∀ a ∈ h.store, a.serial ≠ b.serial := fun a ha => by
    have hlt := hb.bandsArisen a ha
    omega
  refine { hb with
    reserved := fun c => ?_, whole := ?_, bandSerials := ?_, bandsArisen := ?_,
    opsArisen := fun o ho => (hb.opsArisen o ho).trans (Nat.lt_succ_self _), filling := ?_,
    counting := fun j hj => ⟨(hb.counting j hj).1.trans (Nat.lt_succ_self _),
      htold (hb.counting j hj).1 (hb.counting j hj).2⟩,
    names := fun n hn => ⟨(hb.names n hn).1.trans (Nat.lt_succ_self _), htold (hb.names n hn).1 (hb.names n hn).2⟩ }
  · simpa [Books.named, Band.ink_of_not_holds hfree] using hb.reserved c
  · simpa [or_imp, forall_and, hwhole] using hb.whole
  · simpa [List.nodup_append] using ⟨hb.bandSerials, hfresh⟩
  · intro a ha
    obtain ha | rfl := List.mem_append.1 ha |>.imp_right List.mem_singleton.1
    · exact (hb.bandsArisen a ha).trans (Nat.lt_succ_self _)
    · exact hserial ▸ Nat.lt_succ_self _
  · intro n wire' length' tag' hrx a ha heq
    cases hrx
    obtain ha | rfl := List.mem_append.1 ha |>.imp_right List.mem_singleton.1
    · exact absurd heq (hfresh a ha)
    · exact hstate

end Changes
end Sys2Proof.Machine

namespace Sys2Proof.Machine

/-! ## Functions of the model that leave the books -/

/-! ### The blocks of the state -/

@[simp] theorem books_onTables (f : TableStore → TableStore) (s : State) : books (s.onTables f) = books s := rfl
@[simp] theorem books_onItems (f : ItemManager → ItemManager) (s : State) : books (s.onItems f) = books s := rfl
@[simp] theorem books_onCutter (f : Cutter → Cutter) (s : State) : books (s.onCutter f) = books s := rfl
@[simp] theorem books_onColour (f : Colour → Colour) (s : State) : books (s.onColour f) = books s := rfl
@[simp] theorem books_onCosting (f : Costing → Costing) (s : State) : books (s.onCosting f) = books s := rfl
@[simp] theorem books_send (o : Output) (s : State) : books (s.send o) = books s := rfl
@[simp] theorem books_clearOut (s : State) : books s.clearOut = books s := rfl

@[simp] theorem books_onLink {f : Link → Link} (h : ∀ l, (f l).rx = l.rx) (s : State) :
    books (s.onLink f) = books s := by
  simp [books, h]

@[simp] theorem books_onInk {f : InkStation → InkStation} (h : ∀ k, (f k).accounts = k.accounts) (s : State) :
    books (s.onInk f) = books s := by
  simp [books, h]

@[simp] theorem books_onMedia {f : Media → Media} (h : ∀ m, (f m).remainder = m.remainder) (s : State) :
    books (s.onMedia f) = books s := by
  simp [books, h]

/-- R78 to R81: the print engine's state is not in the books. -/
@[simp] theorem books_onEngine (e : Engine) (s : State) :
    books (s.onPath fun p => { p with engine := e }) = books s := rfl

@[simp] theorem books_onReady (r : Bool) (s : State) :
    books (s.onPath fun p => { p with readySeen := r }) = books s := rfl

/-- R73, R74: the head link's phases and points are not in the books, only what it works on. -/
@[simp] theorem books_onFlight {k : Flight} {s : State} (h : s.path.flight.map Flight.work = some k.work) :
    books (s.onPath fun p => { p with flight := some k }) = books s := by
  simp [books, h]

@[simp] theorem books_reply (tag : Byte) (st : Status) (b : ReplyBody) (s : State) :
    books (reply tag st b s) = books s := rfl

theorem books_foldl {α : Type} {f : State → α → State} (hf : ∀ s a, books (f s a) = books s) (l : List α) (s : State) :
    books (l.foldl f s) = books s := by
  induction l generalizing s with
  | nil => rfl
  | cons a l ih => rw [List.foldl_cons, ih, hf]

theorem books_forChannels {f : Chan → State → State} (hf : ∀ c s, books (f c s) = books s) (cs : List Chan)
    (s : State) : books (forChannels cs f s) = books s :=
  books_foldl (fun s c => hf c s) cs s

/-! ### Notices, captures and the parts of items, jobs and stops -/

/-- R13: queueing a notice leaves the reception. -/
@[simp] theorem queueNotice_rx (e : Entry) (l : Link) : (queueNotice e l).rx = l.rx := by
  unfold queueNotice
  (repeat' split) <;> rfl

@[simp] theorem moveRow_remainder (m : Media) : m.moveRow.remainder = m.remainder := by
  unfold Media.moveRow
  dsimp only
  (repeat' split) <;> rfl

@[simp] theorem books_keepRunOut (s : State) : books (keepRunOut s) = books s := by
  unfold keepRunOut
  split <;> simp

@[simp] theorem books_raise (n : Notice) (s : State) : books (raise n s) = books s := by
  unfold raise
  dsimp only
  split <;> simp

@[simp] theorem books_capture (w : List Byte) (n : Nat) (m : Bool) (s : State) :
    books (capture w n m s) = books s := by
  unfold capture
  (repeat' split) <;> simp

@[simp] theorem books_captureRest (w : List Byte) (s : State) : books (captureRest w s) = books s := by
  unfold captureRest
  (repeat' split) <;> simp

@[simp] theorem books_captureIf (st : Status) (w : List Byte) (n : Nat) (s : State) :
    books (captureIf st w n s) = books s := by
  unfold captureIf
  (repeat' split) <;> simp

@[simp] theorem books_mapItem (u : Nat) (f : Item → Item) (s : State) : books (mapItem u f s) = books s := by
  unfold mapItem
  simp

@[simp] theorem books_mapJob (n : Nat) (f : Job → Job) (s : State) : books (mapJob n f s) = books s := by
  unfold mapJob
  simp

@[simp] theorem books_movePlan (d : Int) (s : State) : books (movePlan d s) = books s := by
  unfold movePlan
  simp

@[simp] theorem books_raiseItem (c : ItemCode) (u : Nat) (s : State) : books (raiseItem c u s) = books s := by
  unfold raiseItem
  (repeat' split) <;> simp

@[simp] theorem books_releaseReservation (u : Nat) (s : State) : books (releaseReservation u s) = books s := by
  unfold releaseReservation
  (repeat' split) <;> simp

@[simp] theorem books_insertStop (t : Stop) (s : State) : books (insertStop t s) = books s := by
  unfold insertStop
  (repeat' split) <;> simp

@[simp] theorem books_takeStopId (s : State) : books (takeStopId s) = books s := by
  unfold takeStopId
  simp

@[simp] theorem books_dropStops (p : Stop → Bool) (s : State) : books (dropStops p s) = books s :=
  books_onMedia (fun _ => rfl) s

@[simp] theorem books_dropStop (u : Nat) (s : State) : books (dropStop u s) = books s :=
  books_onMedia (fun _ => rfl) s

@[simp] theorem books_mapCuts (p : Stop → Bool) (f : CutStop → CutStop) (s : State) :
    books (mapCuts p f s) = books s := by
  unfold mapCuts
  simp

@[simp] theorem books_pauseEngine (s : State) : books (pauseEngine s) = books s := by
  unfold pauseEngine
  (repeat' split) <;> simp

@[simp] theorem books_proceed (u : Nat) (s : State) : books (proceed u s) = books s := by
  unfold proceed
  (repeat' split) <;> simp [*]

/-! ### Jobs, items and editions that move on (R39, R42, R52, R162, R173 to R179) -/

@[simp] theorem books_settleJob (n : Nat) (s : State) : books (settleJob n s) = books s := by
  unfold settleJob
  (repeat' split) <;> simp

@[simp] theorem books_mapEdition (n : Nat) (f : Edition → Edition) (s : State) :
    books (mapEdition n f s) = books s := by
  unfold mapEdition
  simp

@[simp] theorem books_countPrint (i : Item) (s : State) : books (countPrint i s) = books s := by
  unfold countPrint
  (repeat' split) <;> simp

@[simp] theorem books_closeItem (u : Nat) (s : State) : books (closeItem u s) = books s := by
  unfold closeItem
  (repeat' split) <;> simp

@[simp] theorem books_priceItem (u : Nat) (s : State) : books (priceItem u s) = books s := by
  unfold priceItem
  (repeat' split) <;> simp

@[simp] theorem books_priceJob (n : Nat) (s : State) : books (priceJob n s) = books s := by
  unfold priceJob
  (repeat' split) <;> simp

@[simp] theorem books_toSettling (u : Nat) (s : State) : books (toSettling u s) = books s := by
  unfold toSettling
  (repeat' split) <;> simp

@[simp] theorem books_toCosting (u : Nat) (s : State) : books (toCosting u s) = books s := by
  unfold toCosting
  dsimp only
  (repeat' split) <;> simp

@[simp] theorem books_advanceItem (u : Nat) (s : State) : books (advanceItem u s) = books s := by
  unfold advanceItem
  simp

@[simp] theorem books_advanceItems (us : List Nat) (s : State) : books (advanceItems us s) = books s :=
  books_foldl (fun s u => books_advanceItem u s) us s

@[simp] theorem books_removeStop (t : Stop) (s : State) : books (removeStop t s) = books s := by
  unfold removeStop
  simp

@[simp] theorem books_actionEnded (u : Nat) (r : Option Row) (s : State) : books (actionEnded u r s) = books s := by
  unfold actionEnded
  dsimp only
  (repeat' split) <;> simp

/-! ### The slots and the cartridges (R98 to R110) -/

@[simp] theorem books_mapSlot (c : Chan) (f : Slot → Slot) (s : State) : books (mapSlot c f s) = books s := by
  unfold mapSlot
  simp

@[simp] theorem books_mapCart (c : Chan) (f : Cartridge → Cartridge) (s : State) :
    books (mapCart c f s) = books s := by
  unfold mapCart
  simp

@[simp] theorem books_raiseCart (c : Chan) (b : CartState) (k : CartCause) (s : State) :
    books (raiseCart c b k s) = books s := by
  unfold raiseCart
  (repeat' split) <;> simp

@[simp] theorem books_moveCart (c : Chan) (d : CartState) (k : CartCause) (s : State) :
    books (moveCart c d k s) = books s := by
  unfold moveCart
  dsimp only
  (repeat' split) <;> simp

@[simp] theorem books_rejectCart (c : Chan) (r : RejectReason) (k : CartCause) (s : State) :
    books (rejectCart c r k s) = books s := by
  unfold rejectCart
  simp

@[simp] theorem books_sendRead (c : Chan) (s : State) : books (sendRead c s) = books s := by
  unfold sendRead
  simp

@[simp] theorem books_startWrite (c : Chan) (v : Nat) (s : State) : books (startWrite c v s) = books s := by
  unfold startWrite
  simp

@[simp] theorem books_writeTest (c : Chan) (s : State) : books (writeTest c s) = books s := by
  unfold writeTest
  dsimp only
  (repeat' split) <;> simp

@[simp] theorem books_replaceCart (c : Chan) (k : CartCause) (s : State) : books (replaceCart c k s) = books s := by
  unfold replaceCart
  simp

@[simp] theorem books_correctLevel (c : Chan) (s : State) : books (correctLevel c s) = books s := by
  unfold correctLevel
  dsimp only
  (repeat' split) <;> simp

@[simp] theorem books_listCart (c : Chan) (s : State) : books (listCart c s) = books s := by
  unfold listCart
  dsimp only
  (repeat' split) <;> simp

@[simp] theorem books_recheckKind (c : Chan) (s : State) : books (recheckKind c s) = books s := by
  unfold recheckKind
  dsimp only
  (repeat' split) <;> simp

@[simp] theorem books_forRecheckKind (cs : List Chan) (s : State) : books (forChannels cs recheckKind s) = books s :=
  books_forChannels books_recheckKind cs s

/-! ### Waiting for ink (R66, R86) -/

@[simp] theorem books_setWait (c : Chan) (v : Bool) (s : State) : books (setWait c v s) = books s := by
  unfold setWait
  simp

@[simp] theorem books_endWait (w : Asker) (l : List (Chan × Nat)) (c : Chan) (s : State) :
    books (endWait w l c s) = books s := by
  unfold endWait
  (repeat' split) <;> simp

@[simp] theorem books_startWait (w : Asker) (l : List (Chan × Nat)) (c : Chan) (s : State) :
    books (startWait w l c s) = books s := by
  unfold startWait
  (repeat' split) <;> simp

@[simp] theorem books_forEndWait (w : Asker) (l : List (Chan × Nat)) (cs : List Chan) (s : State) :
    books (forChannels cs (endWait w l) s) = books s :=
  books_forChannels (books_endWait w l) cs s

@[simp] theorem books_endWaits (w : Asker) (l : List (Chan × Nat)) (s : State) :
    books (endWaits w l s) = books s := by
  unfold endWaits
  simp

@[simp] theorem books_declineWait (w : Asker) (l : List (Chan × Nat)) (c : Chan) (s : State) :
    books (declineWait w l c s) = books s := by
  unfold declineWait
  (repeat' split) <;> simp

@[simp] theorem books_forDeclineWait (w : Asker) (l : List (Chan × Nat)) (cs : List Chan) (s : State) :
    books (forChannels cs (declineWait w l) s) = books s :=
  books_forChannels (books_declineWait w l) cs s

@[simp] theorem books_declineWaits (n : Nat) (w : Asker) (l : List (Chan × Nat)) (s : State) :
    books (declineWaits n w l s) = books s := by
  unfold declineWaits
  simp

/-! ### The cutter and its stops (R137 to R144) -/

@[simp] theorem books_reportHold (s : State) : books (reportHold s) = books s := by
  unfold reportHold
  (repeat' split) <;> simp

@[simp] theorem books_dispatchCut (u : Nat) (s : State) : books (dispatchCut u s) = books s := by
  unfold dispatchCut
  (repeat' split) <;> simp

@[simp] theorem books_holdCuts (u n : Nat) (s : State) : books (holdCuts u n s) = books s := by
  unfold holdCuts
  (repeat' split) <;> simp

@[simp] theorem books_clearHolds (u : Nat) (s : State) : books (clearHolds u s) = books s := by
  unfold clearHolds
  simp

@[simp] theorem books_dropHeldCut (u : Nat) (s : State) : books (dropHeldCut u s) = books s := by
  unfold dropHeldCut
  simp

@[simp] theorem books_startCut (s : State) : books (startCut s) = books s := by
  unfold startCut
  simp

@[simp] theorem books_completeCut (t : Stop) (c : CutStop) (s : State) : books (completeCut t c s) = books s := by
  unfold completeCut
  dsimp only
  (repeat' split) <;> simp

@[simp] theorem books_failCut (c : CutFault) (s : State) : books (failCut c s) = books s := by
  unfold failCut
  dsimp only
  (repeat' split) <;> simp

@[simp] theorem books_beginRetry (u : Nat) (s : State) : books (beginRetry u s) = books s := by
  unfold beginRetry
  (repeat' split) <;> simp

@[simp] theorem books_disableCutter (s : State) : books (disableCutter s) = books s := by
  unfold disableCutter
  dsimp only
  (repeat' split) <;> simp

/-! ### The sensor, its verdicts and its tests (R148 to R171) -/

@[simp] theorem books_touchEdition (n : Option Nat) (s : State) : books (touchEdition n s) = books s := by
  unfold touchEdition
  (repeat' split) <;> simp

@[simp] theorem books_holdItem (u : Nat) (s : State) : books (holdItem u s) = books s := by
  unfold holdItem
  (repeat' split) <;> simp

@[simp] theorem books_mergeVerdict (u n : Nat) (v : Verdict) (s : State) :
    books (mergeVerdict u n v s) = books s := by
  unfold mergeVerdict
  dsimp only
  (repeat' split) <;> simp

@[simp] theorem books_recordUnread (t : Stop) (m : MeasureStop) (s : State) :
    books (recordUnread t m s) = books s := by
  unfold recordUnread
  simp

@[simp] theorem books_unreadIfMeasure (t : Stop) (s : State) : books (unreadIfMeasure t s) = books s := by
  unfold unreadIfMeasure
  dsimp only
  (repeat' split) <;> simp

@[simp] theorem books_unreadStops (l : List Stop) (s : State) : books (unreadStops l s) = books s :=
  books_foldl (fun s t => books_unreadIfMeasure t s) l s

@[simp] theorem books_endMeasureUnread (s : State) : books (endMeasureUnread s) = books s := by
  unfold endMeasureUnread
  dsimp only
  (repeat' split) <;> simp

@[simp] theorem books_startScan (t : Stop) (m : MeasureStop) (n : Nat) (p : Vector PatchLayout 8) (s : State) :
    books (startScan t m n p s) = books s := by
  unfold startScan
  simp

@[simp] theorem books_takeReading (n : Nat) (f : Filter) (r : Nat) (s : State) :
    books (takeReading n f r s) = books s := by
  unfold takeReading
  (repeat' split) <;> simp

@[simp] theorem books_endScan (e : EndCause) (s : State) : books (endScan e s) = books s := by
  unfold endScan
  (repeat' split) <;> simp

@[simp] theorem books_computeVerdict (c : Scan) (p : Vector PatchLayout 8) (l : Vector Limits 8) (s : State) :
    books (computeVerdict c p l s) = books s := by
  unfold computeVerdict
  dsimp only
  (repeat' split) <;> simp

@[simp] theorem books_onVerify (f : Verify → Verify) (s : State) : books (onVerify f s) = books s := by
  unfold onVerify
  simp

@[simp] theorem books_endTest (t : TestRun) (b : Bool) (s : State) : books (endTest t b s) = books s := by
  unfold endTest
  (repeat' split) <;> simp

@[simp] theorem books_partEnded (o : PartOutcome) (s : State) : books (partEnded o s) = books s := by
  unfold partEnded
  dsimp only
  (repeat' split) <;> simp

@[simp] theorem books_judgePart (p : Part) (s : State) : books (judgePart p s) = books s := by
  unfold judgePart
  dsimp only
  (repeat' split) <;> simp

@[simp] theorem books_failPart (p : Part) (c : PartFailure) (s : State) : books (failPart p c s) = books s := by
  unfold failPart
  simp

/-! ### Panels, abort feeds and dispatched stops (R50, R56, R128) -/

@[simp] theorem books_insertCut (i : Item) (p : Option Nat) (r : Row) (c : CutStop) (s : State) :
    books (insertCut i p r c s).1 = books s := by
  unfold insertCut
  (repeat' split) <;> simp

@[simp] theorem books_dropMeasures (u : Nat) (s : State) : books (dropMeasures u s) = books s := by
  unfold dropMeasures
  dsimp only
  (repeat' split) <;> simp

@[simp] theorem books_fixAbortTimes (i : Item) (t : Time) (s : State) : books (fixAbortTimes i t s) = books s := by
  unfold fixAbortTimes
  simp

@[simp] theorem books_chargeFlush (l : List (Chan × Nat)) (s : State) : books (chargeFlush l s) = books s := by
  unfold chargeFlush
  (repeat' split) <;> simp

@[simp] theorem books_endAbortFeed (w : FlightWork) (s : State) : books (endAbortFeed w s) = books s := by
  unfold endAbortFeed
  (repeat' split) <;> simp

@[simp] theorem books_dispatchStop (u : Nat) (s : State) : books (dispatchStop u s) = books s := by
  unfold dispatchStop
  (repeat' split) <;> simp

/-! ### Tables, jobs and items from the link (R31 to R44) -/

@[simp] theorem books_tableBegin (b : List Byte) (s : State) : books (tableBegin b s).1 = books s := by
  unfold tableBegin
  (repeat' split) <;> simp

@[simp] theorem books_tablePart (b : List Byte) (s : State) : books (tablePart b s).1 = books s := by
  unfold tablePart
  (repeat' split) <;> simp

@[simp] theorem books_expireLock (s : State) : books (expireLock s) = books s := by
  unfold expireLock
  (repeat' split) <;> simp

@[simp] theorem books_judgeJobOpen (b : List Byte) (s : State) : books (judgeJobOpen b s).1 = books s := by
  unfold judgeJobOpen
  (repeat' split) <;> simp

@[simp] theorem books_judgeJobClose (b : List Byte) (s : State) : books (judgeJobClose b s).1 = books s := by
  unfold judgeJobClose
  (repeat' split) <;> simp

@[simp] theorem books_admitItem (i : Item) (s : State) : books (admitItem i s) = books s := by
  unfold admitItem
  simp

@[simp] theorem books_judgeItemOpen (b : List Byte) (s : State) : books (judgeItemOpen b s).1 = books s := by
  unfold judgeItemOpen
  dsimp only
  (repeat' split) <;> simp

@[simp] theorem books_extendReservation (u : Nat) (s : State) : books (extendReservation u s) = books s := by
  unfold extendReservation
  simp

@[simp] theorem books_planLead (i : Item) (s : State) : books (planLead i s) = books s := by
  unfold planLead
  dsimp only
  (repeat' split) <;> simp

/-! ### Express records and what they do to the state -/

@[simp] theorem books_halt (b : List Byte) (s : State) : books (halt b s).1 = books s := by
  unfold halt
  (repeat' split) <;> simp

@[simp] theorem books_resume (b : List Byte) (s : State) : books (resume b s).1 = books s := by
  unfold resume
  (repeat' split) <;> simp

@[simp] theorem books_releaseHoldOf (u : Nat) (s : State) : books (releaseHoldOf u s) = books s := by
  unfold releaseHoldOf
  simp

@[simp] theorem books_dropEveryStop (s : State) : books (dropEveryStop s) = books s := by
  unfold dropEveryStop
  dsimp only
  (repeat' split) <;> simp

@[simp] theorem books_replaceRoll (p : MediaProfile) (n : Nat) (s : State) : books (replaceRoll p n s) = books s := by
  unfold replaceRoll
  simp

@[simp] theorem books_rollLoad (b : List Byte) (s : State) : books (rollLoad b s).1 = books s := by
  unfold rollLoad
  (repeat' split) <;> simp

@[simp] theorem books_sensorVerify (b : List Byte) (s : State) : books (sensorVerify b s).1 = books s := by
  unfold sensorVerify
  dsimp only
  (repeat' split) <;> simp

@[simp] theorem books_verifyClear (b : List Byte) (s : State) : books (verifyClear b s).1 = books s := by
  unfold verifyClear
  (repeat' split) <;> simp

@[simp] theorem books_editionReset (b : List Byte) (s : State) : books (editionReset b s).1 = books s := by
  unfold editionReset
  (repeat' split) <;> simp

@[simp] theorem books_cutterClear (b : List Byte) (s : State) : books (cutterClear b s).1 = books s := by
  unfold cutterClear
  dsimp only
  (repeat' split) <;> simp

@[simp] theorem books_dumpRecord (n : Nat) (s : State) : books (dumpRecord s n) = books s := by
  unfold dumpRecord
  (repeat' split) <;> simp

@[simp] theorem books_abortOpenJob (s : State) : books (abortOpenJob s) = books s := by
  unfold abortOpenJob
  (repeat' split) <;> simp

/-! ### Rows of the encoder and the run-out wait (R120, R123, R129) -/

@[simp] theorem books_spendRow (s : State) : books (spendRow s) = books s := by
  unfold spendRow
  dsimp only
  (repeat' split) <;> simp

@[simp] theorem books_spendReservation (s : State) : books (spendReservation s) = books s := by
  unfold spendReservation
  (repeat' split) <;> simp

@[simp] theorem books_strayRow (s : State) : books (strayRow s) = books s := by
  unfold strayRow
  dsimp only
  (repeat' split) <;> simp

@[simp] theorem books_feedRow (s : State) : books (feedRow s) = books s := by
  unfold feedRow
  dsimp only
  (repeat' split) <;> simp

@[simp] theorem books_feedRows (n : Nat) (s : State) : books (feedRows n s) = books s := by
  induction n generalizing s with
  | zero => simp [feedRows]
  | succ n ih =>
    unfold feedRows
    simp [ih]

@[simp] theorem books_takeEdge (s : State) : books (takeEdge s) = books s := by
  unfold takeEdge
  simp

@[simp] theorem books_releaseCosting (s : State) : books (releaseCosting s) = books s :=
  books_foldl (fun s i => by simp) _ s

@[simp] theorem books_startRunOut (s : State) : books (startRunOut s) = books s := by
  unfold startRunOut
  (repeat' split) <;> simp

/-! ### Lines, sensed levels and tag exchanges (R98 to R110) -/

@[simp] theorem books_assertSeat (c : Chan) (s : State) : books (assertSeat c s) = books s := by
  unfold assertSeat
  dsimp only
  (repeat' split) <;> simp

@[simp] theorem books_assertDetect (c : Chan) (l : DetectLine) (s : State) :
    books (assertDetect c l s) = books s := by
  unfold assertDetect
  dsimp only
  (repeat' split) <;> simp

@[simp] theorem books_releaseDetect (c : Chan) (l : DetectLine) (s : State) :
    books (releaseDetect c l s) = books s := by
  unfold releaseDetect
  dsimp only
  (repeat' split) <;> simp

@[simp] theorem books_seatDebounced (c : Chan) (s : State) : books (seatDebounced c s) = books s := by
  unfold seatDebounced
  (repeat' split) <;> simp

@[simp] theorem books_removeCart (c : Chan) (s : State) : books (removeCart c s) = books s := by
  unfold removeCart
  dsimp only
  (repeat' split) <;> simp

@[simp] theorem books_changeLevel (c : Chan) (a b : Bool) (s : State) : books (changeLevel c a b s) = books s := by
  unfold changeLevel
  dsimp only
  (repeat' split) <;> simp

@[simp] theorem books_failRead (c : Chan) (s : State) : books (failRead c s) = books s := by
  unfold failRead
  dsimp only
  split <;> simp

@[simp] theorem books_acceptRead (c : Chan) (t : TagContents) (s : State) : books (acceptRead c t s) = books s := by
  unfold acceptRead
  dsimp only
  split <;> simp

@[simp] theorem books_endOldWrite (c : Chan) (s : State) : books (endOldWrite c s) = books s := by
  unfold endOldWrite
  simp

@[simp] theorem books_answerRead (c : Chan) (t : TagContents) (g : Bool) (s : State) :
    books (answerRead c t g s) = books s := by
  unfold answerRead
  dsimp only
  (repeat' split) <;> simp

@[simp] theorem books_timeoutRead (c : Chan) (s : State) : books (timeoutRead c s) = books s := by
  unfold timeoutRead
  dsimp only
  (repeat' split) <;> simp

@[simp] theorem books_confirmWrite (c : Chan) (s : State) : books (confirmWrite c s) = books s := by
  unfold confirmWrite
  dsimp only
  (repeat' split) <;> simp

@[simp] theorem books_timeoutWrite (c : Chan) (s : State) : books (timeoutWrite c s) = books s := by
  unfold timeoutWrite
  dsimp only
  (repeat' split) <;> simp

end Sys2Proof.Machine

namespace Sys2Proof.Machine

/-! ### The accounts (R87, R91, R93) -/

theorem mapAccount_accounts (c d : Chan) (f : Account → Account) (s : State) :
    (mapAccount c f s).ink.accounts[d] = if d = c then f s.ink.accounts[d] else s.ink.accounts[d] := by
  split
  · next h =>
    subst h
    exact account_mapAccount d f s
  · next h => exact account_mapAccount_of_ne h f s

/-- An account that gains no reservation and stays within its bounds. -/
theorem topped_mapAccount {c : Chan} {f : Account → Account} {s : State} (h : (account s c).Tops (f (account s c))) :
    (books s).Topped (books (mapAccount c f s)) := by
  refine ⟨rfl, fun d => ?_⟩
  change s.ink.accounts[d].Tops (mapAccount c f s).ink.accounts[d]
  rw [mapAccount_accounts]
  split
  · next hd => exact hd ▸ h
  · exact .refl _

/-- R93: a refill gives a sub-tank no more than it has room for. -/
theorem topped_refill (c : Chan) (s : State) : (books s).Topped (books (refill c s)) := by
  unfold refill
  dsimp only
  split
  · simp only [books_writeTest, books_replaceCart, books_mapCart]
    refine topped_mapAccount ⟨rfl, rfl, Nat.le_add_right _ _, fun hfull => ?_⟩
    simp only [Account.refill, subTankFull]
    omega
  · exact .of_eq rfl

theorem keeps_refill (c : Chan) (s : State) : (books s).Keeps (books (refill c s)) := (topped_refill c s).keeps

theorem topped_forRefill (cs : List Chan) (s : State) : (books s).Topped (books (forChannels cs refill s)) := by
  induction cs generalizing s with
  | nil => exact .of_eq rfl
  | cons c cs ih => exact (topped_refill c s).trans (ih (refill c s))

/-- A run of changes keeps the books if each change does. -/
theorem keeps_foldl {α : Type} {f : State → α → State} (hf : ∀ s a, (books s).Keeps (books (f s a))) (l : List α)
    (s : State) : (books s).Keeps (books (l.foldl f s)) := by
  induction l generalizing s with
  | nil => exact .refl _
  | cons a l ih => exact (hf s a).trans (ih (f s a))

/-- R107, R108: a correction of the estimate, and the refill of an entry into LOW. -/
theorem keeps_applySensed (c : Chan) (s : State) : (books s).Keeps (books (applySensed c s)) := by
  unfold applySensed
  dsimp only
  split
  · exact .of_eq (books_correctLevel c s)
  · have hplaced : books (writeTest c (replaceCart c .levelSense (correctLevel c s))) = books s := by simp
    split
    · exact .trans (.of_eq hplaced) (keeps_refill c _)
    · exact .of_eq hplaced

/-- R105, R106: a placement, with its refill. -/
theorem keeps_placeCart (c : Chan) (t : TagContents) (s : State) : (books s).Keeps (books (placeCart c t s)) := by
  refine .trans (.of_eq ?_) (keeps_refill c _)
  simp

theorem keeps_checkKind (c : Chan) (cls : Nat) (t : TagContents) (s : State) :
    (books s).Keeps (books (checkKind c cls t s)) := by
  unfold checkKind
  (repeat' split)
  · exact .of_eq (by simp)
  · exact .of_eq (by simp)
  · exact keeps_placeCart c t s

/-- R113: the re-placement of a cartridge, with its refill. -/
theorem keeps_replaceByMap (c : Chan) (s : State) : (books s).Keeps (books (replaceByMap c s)) := by
  unfold replaceByMap
  dsimp only
  split
  · generalize hplaced : (if ((slot (correctLevel c s) c).cart.estimate != (slot s c).cart.estimate) = true
        then _ else _)
      = u
    have hu : books u = books s := by
      rw [← hplaced]
      split <;> simp
    split
    · exact .of_eq hu
    · exact .trans (.of_eq hu) (keeps_refill c u)
  · exact .refl _

theorem keeps_recheckMap (s : State) : (books s).Keeps (books (recheckMap s)) :=
  .trans (.of_eq (books_forRecheckKind _ s)) (keeps_foldl (fun s c => keeps_replaceByMap c s) _ _)

/-- R30: a commit, with what follows it at once. -/
theorem keeps_commitContent (c : Content) (s : State) : (books s).Keeps (books (commitContent c s)) := by
  cases c with
  | channelMap m => exact keeps_recheckMap (s.onTables (setContent (.channelMap m)))
  | mediaProfile p =>
    refine .of_eq ?_
    dsimp only [commitContent]
    split <;> simp
  | _ => exact .refl _

/-- R181: the lifetime counters of an account are apart from what it holds. -/
theorem keeps_clearCounters (s : State) : (books s).Keeps (books (clearCounters s)) := by
  refine Books.keeps_accounts (h := books s) (accounts := s.ink.accounts.map Account.cleared) fun c => ?_
  have hc : (s.ink.accounts.map Account.cleared)[c] = s.ink.accounts[c].cleared := Vector.getElem_map _ _
  rw [hc]
  exact ⟨rfl, rfl, le_rfl, id⟩

section Freed

variable {α : Type} {chan : α → Chan} {f : α → Account → Account} {l : List α} {s : State}

/-- R87: the residues under a run over some amounts. -/
theorem residues_foldl (hf : ∀ a ∈ l, ∀ k : Account, k.residue < 10000 → (f a k).residue < 10000)
    (hs : (books s).ResiduesBelow) : (books (l.foldl (fun s a => mapAccount (chan a) (f a) s) s)).ResiduesBelow := by
  induction l generalizing s with
  | nil => exact hs
  | cons a l ih =>
    refine ih (fun b hb => hf b (List.mem_cons_of_mem a hb)) fun c => ?_
    change (mapAccount (chan a) (f a) s).ink.accounts[c].residue < 10000
    rw [mapAccount_accounts]
    split
    · exact hf a List.mem_cons_self _ (hs c)
    · exact hs c

/-- A run that takes each amount out of its channel's account takes them all. -/
theorem frees_foldl {r : α → Nat} (hf : ∀ a ∈ l, ∀ k : Account, k.residue < 10000 → k.Frees (r a) (f a k))
    (hresidue : ∀ a ∈ l, ∀ k : Account, k.residue < 10000 → (f a k).residue < 10000) (hs : (books s).ResiduesBelow)
    (c : Chan) : s.ink.accounts[c].Frees (heldOn (l.map fun a => (chan a, r a)) c)
      (l.foldl (fun s a => mapAccount (chan a) (f a) s) s).ink.accounts[c] := by
  induction l generalizing s with
  | nil => exact .refl _
  | cons a l ih =>
    have hfirst : s.ink.accounts[c].Frees (if chan a = c then r a else 0)
        (mapAccount (chan a) (f a) s).ink.accounts[c] := by
      rw [mapAccount_accounts]
      by_cases hc : c = chan a
      · rw [if_pos hc, if_pos hc.symm]
        exact hf a List.mem_cons_self _ (hs c)
      · rw [if_neg hc, if_neg (Ne.symm hc)]
        exact .refl _
    have hstep := residues_foldl (chan := chan) (f := f) (l := [a])
      (fun b hb => hresidue b (List.mem_singleton.1 hb ▸ List.mem_cons_self)) hs
    rw [List.map_cons, heldOn_cons]
    exact hfirst.trans (ih (fun b hb => hf b (List.mem_cons_of_mem a hb))
      (fun b hb => hresidue b (List.mem_cons_of_mem a hb)) hstep)

/-- A run over some amounts touches the accounts alone. -/
theorem books_foldl_mapAccount (s : State) : books (l.foldl (fun s a => mapAccount (chan a) (f a) s) s) =
    { books s with accounts := (l.foldl (fun s a => mapAccount (chan a) (f a) s) s).ink.accounts } :=
  congrArg books (foldl_mapAccount_eq chan f l s)

end Freed

/-! ### The abort feeds and the gutters (R50, R56) -/

theorem flushOf_addRows (n : Nat) (o : Op) : (o.addRows n).flushOf = o.flushOf := by
  obtain ⟨serial, owner, work, rest⟩ := o
  cases work <;> rfl

/-- R56: a FEED that joins those that wait for a place asks for no ink. -/
theorem opInk_insertAbort {o : Op} (ho : o.flushOf = []) (s : State) (l : List Op) (c : Chan) :
    opInk (insertAbort s o l) c = opInk l c := by
  induction l with
  | nil => simp [insertAbort, ho]
  | cons w l ih =>
    unfold insertAbort
    split
    · simp [ho]
    · simp [ih]

/-- R56: more rows for an abort FEED leave what the queue's operations ask for. -/
theorem opInk_addAbortRows (u n : Nat) (queue : List QEntry) (c : Chan) :
    opInk ((queue.map (QEntry.addAbortRows u n)).filterMap QEntry.op?) c = opInk (queue.filterMap QEntry.op?) c := by
  induction queue with
  | nil => rfl
  | cons q queue ih =>
    cases q with
    | band b => exact ih
    | op o =>
      have hone : (o.addRows n).flushOf = o.flushOf := flushOf_addRows n o
      rw [List.map_cons, QEntry.addAbortRows]
      split <;> simpa [QEntry.op?, hone] using ih

theorem mem_of_band_mem_map {u n serial : Nat} {queue : List QEntry}
    (h : .band serial ∈ queue.map (QEntry.addAbortRows u n)) : .band serial ∈ queue := by
  obtain ⟨q, hq, heq⟩ := List.mem_map.1 h
  cases q with
  | band b => exact heq ▸ hq
  | op o =>
    simp only [QEntry.addAbortRows] at heq
    split at heq <;> cases heq

theorem keeps_joinAbortFeed (u rows : Nat) (s : State) : (books s).Keeps (books (joinAbortFeed u rows s)) := by
  unfold joinAbortFeed
  split
  · exact .refl _
  · dsimp only
    generalize hm : mapItem u _ s = m
    have hbooks : books m = books s := hm ▸ books_mapItem _ _ _
    rw [← hbooks]
    split
    · exact Books.keeps_feeds (h := books m) (rest := m.media.remainder) le_rfl (fun o _ => .inl rfl)
        (fun c => opInk_map (fun o => by split <;> simp [flushOf_addRows]) _ c) (fun _ _ => rfl) fun _ => id
    · split
      · exact Books.keeps_feeds (h := books m) (rest := m.media.remainder) le_rfl (fun o _ => .inl rfl) (fun _ => rfl)
          (fun _ => opInk_addAbortRows u rows _) fun _ => mem_of_band_mem_map
      · refine Books.keeps_feeds (h := books m) (rest := m.media.remainder) (Nat.le_succ _) (fun o _ => .inl rfl)
          (fun c => ?_) (fun _ c => ?_) fun n hn => ?_
        · change opInk (if _ then _ else _) c = _
          split
          · rfl
          · exact opInk_insertAbort rfl m _ c
        · change opInk ((if _ then _ else _ : List QEntry).filterMap QEntry.op?) c = _
          split
          · simp [QEntry.op?, Op.flushOf, books]
          · rfl
        · change _ ∈ (if _ then _ else _ : List QEntry) at hn
          split at hn
          · simpa [books] using hn
          · exact hn

/-- R50: a gutter arises as a FEED. -/
theorem keeps_addGutter (u band rows : Nat) (s : State) : (books s).Keeps (books (addGutter u band rows s)) :=
  Books.keeps_arise (h := books s) rfl List.nodup_nil fun _ => rfl

theorem keeps_gutterMade (u band g : Nat) (aborted : Option Time) (s : State) :
    (books s).Keeps (books (gutterMade u band g aborted s)) := by
  cases aborted with
  | some t => exact .of_eq (by simp [gutterMade, gutterFed_eq])
  | none =>
    rw [gutterMade]
    split
    · exact .trans (.of_eq (by simp)) (keeps_addGutter u band g _)
    · exact .refl _

@[simp] theorem books_panelCut (i : Item) (mp : MediaProfile) (n : Nat) (time : Option Time × Option Nat)
    (role : CutRole) (row : Row) (s : State) : books (panelCut i mp n time role row s).1 = books s := by
  unfold panelCut
  split <;> simp

@[simp] theorem books_panelCuts (i : Item) (mp : MediaProfile) (n : Nat) (time : Option Time × Option Nat) (row : Row)
    (s : State) : books (panelCuts i mp n time row s).1 = books s := by
  unfold panelCuts
  dsimp only
  split <;> simp

/-- R49: of the close of a panel only its gutter stands in the books. -/
theorem keeps_closePanel (u : Nat) (last : Bool) (aborted : Option Time) (s : State) :
    (books s).Keeps (books (closePanel u last aborted s)) := by
  cases hi : findItem s u with
  | none => exact .of_eq (by simp [closePanel, hi])
  | some i =>
    cases hmp : s.tables.mediaProfile with
    | none => exact .of_eq (by simp [closePanel, hi, hmp])
    | some mp =>
      cases hp : i.panels.getLast? with
      | none => exact .of_eq (by simp [closePanel, hi, hmp, hp])
      | some p =>
        rw [closePanel_eq hi hmp hp]
        exact .trans (keeps_gutterMade u p.lastBand mp.gutter aborted s) (.of_eq (by simp [panelMade]))

theorem keeps_closeAborted (u : Nat) (t : Time) (s : State) : (books s).Keeps (books (closeAborted u t s).1) := by
  unfold closeAborted
  split
  · split
    · exact .refl _
    · split
      · exact .of_eq (by simp)
      · exact keeps_closePanel u true (some t) s
  · exact .refl _

/-! ### The discard of bands (R50, R67) -/

theorem flushOf_of_isGutterOf {n : Nat} {o : Op} (h : o.isGutterOf n = true) : o.flushOf = [] := by
  obtain ⟨serial, owner, work, rest⟩ := o
  cases work with
  | feed src rows => rfl
  | clean _ _ _ => simp [Op.isGutterOf] at h

theorem flushOf_of_lost {b : Band} {s : State} {o : Op} (h : o ∈ lostGutters s b) : o.flushOf = [] := by
  unfold lostGutters at h
  split at h
  · cases h
  · exact flushOf_of_isGutterOf (List.mem_filter.1 h).2

theorem books_discardBand (b : Band) (s : State) : books (discardBand b s) = books (bandDropped b s) := by
  rw [discardBand_eq]
  split <;> simp [rowsWasted]

theorem residues_releaseInk {amounts : List (Chan × Nat)} {s : State} (hs : (books s).ResiduesBelow) :
    (books (releaseInk amounts s)).ResiduesBelow :=
  residues_foldl (chan := Prod.fst) (f := fun a => Account.release a.2) (fun _ _ _ hk => hk) hs

theorem frees_releaseInk {amounts : List (Chan × Nat)} {s : State} (hs : (books s).ResiduesBelow) (c : Chan) :
    s.ink.accounts[c].Frees (heldOn amounts c) (releaseInk amounts s).ink.accounts[c] := by
  have hfrees := frees_foldl (chan := Prod.fst) (f := fun a => Account.release a.2) (l := amounts) (r := Prod.snd)
    (fun _ _ _ _ => ⟨rfl, Nat.le_add_right _ _, le_rfl⟩) (fun _ _ _ hk => hk) hs c
  rwa [show (amounts.map fun a => (a.1, a.2)) = amounts from List.map_id _] at hfrees

/-- What a band holds is released as it leaves. -/
def inkReleased (b : Band) (s : State) : State := if b.holdsInk then releaseInk b.amounts s else s

theorem books_inkReleased (b : Band) (s : State) :
    books (inkReleased b s) = { books s with accounts := (inkReleased b s).ink.accounts } := by
  unfold inkReleased
  split
  · exact books_foldl_mapAccount s
  · rfl

theorem residues_inkReleased (b : Band) {s : State} (hs : (books s).ResiduesBelow) :
    (books (inkReleased b s)).ResiduesBelow := by
  unfold inkReleased
  split
  · exact residues_releaseInk hs
  · exact hs

theorem frees_inkReleased (b : Band) {s : State} (hs : (books s).ResiduesBelow) (c : Chan) :
    s.ink.accounts[c].Frees (b.ink c) (inkReleased b s).ink.accounts[c] := by
  unfold inkReleased Band.ink
  split
  · exact frees_releaseInk hs c
  · exact .refl _

/-- R63: the reception of a band's planes that is given up. -/
theorem keeps_rxDropped (n : Nat) (s : State) : (books s).Keeps (books (s.onLink fun l => { l with
    rx := match l.rx with
      | .filling m w len t => if m = n then .dropping else .filling m w len t
      | r => r })) := by
  refine Books.keeps_rx (h := books s) fun m w len t h => ?_
  change s.link.rx = _
  rw [State.onLink_link] at h ⊢
  cases hrx : s.link.rx with
  | filling m' w' len' t' =>
    simp only [hrx] at h ⊢
    split at h
    · cases h
    · next hm => rw [if_neg hm]
  | idle | waiting | dropping => simp [hrx] at h

/-- R67: a band that is discarded: its gutters given up, its slot freed, and its reservation released. -/
theorem backed_bandDropped {b : Band} {s : State} (hb : (books s).Backed) (hmem : b ∈ s.path.store) :
    (books (bandDropped b s)).Backed := by
  let w := s.onPath fun p => { p with waiting := p.waiting.filter fun o => !(lostGutters s b).contains o }
  have hw : (books w).Backed := (Books.keeps_giveUp (h := books s) fun o _ ho => flushOf_of_lost (b := b) (s := s)
    (by simpa using ho)).2 hb
  have hfreed : (books (inkReleased b (dropBand b.serial w))).Backed := by
    rw [books_inkReleased]
    exact hw.dropBand (b := b) hmem (frees_inkReleased b (s := dropBand b.serial w) hw.residues)
      (residues_inkReleased b (s := dropBand b.serial w) hw.residues)
  exact (keeps_rxDropped b.serial _).2 hfreed

theorem residues_bandDropped (b : Band) {s : State} (hs : (books s).ResiduesBelow) :
    (books (bandDropped b s)).ResiduesBelow :=
  residues_inkReleased b (s := dropBand b.serial (s.onPath fun p => { p with
    waiting := p.waiting.filter fun o => !(lostGutters s b).contains o })) hs

theorem bandDropped_store (b : Band) (s : State) :
    (bandDropped b s).path.store = s.path.store.filter fun a => a.serial != b.serial := by
  obtain ⟨-, hpath, -⟩ := bandDropped_spec b s
  rw [hpath]

/-- R55, R67: bands of the store, each with a number of its own, are discarded one after another. -/
theorem backed_discardBands {bands : List Band} (hnodup : (bands.map Band.serial).Nodup) {s : State}
    (hb : (books s).Backed) (hmem : ∀ b ∈ bands, b ∈ s.path.store) : (books (discardBands bands s).1).Backed := by
  induction bands generalizing s with
  | nil => exact hb
  | cons b bands ih =>
    rw [List.map_cons, List.nodup_cons] at hnodup
    obtain ⟨hfresh, hnodup⟩ := hnodup
    have hdiscarded : (books (discardBand b s)).Backed := by
      rw [books_discardBand]
      exact backed_bandDropped hb (hmem b List.mem_cons_self)
    refine ih hnodup hdiscarded fun a ha => ?_
    have hstore : (discardBand b s).path.store = s.path.store.filter fun a => a.serial != b.serial :=
      (congrArg Books.store (books_discardBand b s)).trans (bandDropped_store b s)
    rw [hstore, List.mem_filter]
    refine ⟨hmem a (List.mem_cons_of_mem b ha), ?_⟩
    simpa using fun heq : a.serial = b.serial => hfresh (heq ▸ List.mem_map_of_mem ha)

theorem residues_discardBands (bands : List Band) {s : State} (hs : (books s).ResiduesBelow) :
    (books (discardBands bands s).1).ResiduesBelow := by
  induction bands generalizing s with
  | nil => exact hs
  | cons b bands ih => exact ih (books_discardBand b s ▸ residues_bandDropped b hs)

/-! ### The abort of an item (R55, R56) -/

@[simp] theorem books_abortMarked (u : Nat) (s : State) : books (abortMarked u s) = books s := by
  simp [abortMarked]

theorem keeps_abortLost (u : Nat) (s : State) : (books s).Keeps (books (abortLost u s).1) := by
  rw [← books_abortMarked u s]
  refine ⟨fun hs => residues_discardBands _ hs, fun hb => ?_⟩
  exact backed_discardBands (hb.bandSerials.sublist (List.filter_sublist.map _)) hb fun b hb => (List.mem_filter.1 hb).1

theorem keeps_abortItem (u : Nat) (c : AbortCause) (s : State) : (books s).Keeps (books (abortItem u c s)) := by
  by_cases hidle : ∀ i, findItem s u = some i → i.fate = .aborted ∨ i.state = .costing
  · exact .of_eq (congrArg books (abortItem_of_idle hidle))
  · push Not at hidle
    obtain ⟨i, hi, hfate, hstate⟩ := hidle
    have htimed : (books s).Keeps (books (abortTimed u i s)) :=
      (keeps_abortLost u s).trans (.of_eq (by simp [abortTimed]))
    have hclosed : (books s).Keeps (books (abortClosed u i s).1) := htimed.trans (keeps_closeAborted u _ _)
    have hgathered : (books s).Keeps (books (abortGathered u i s)) := hclosed.trans (keeps_joinAbortFeed u _ _)
    rw [abortItem_eq hi hfate hstate]
    exact hgathered.trans (.of_eq (by simp [abortMoved]))

theorem keeps_closePending (u : Nat) (t : Time) (s : State) : (books s).Keeps (books (closePending u t s)) := by
  unfold closePending
  dsimp only
  rw [books_advanceItem]
  refine .trans ?_ (keeps_joinAbortFeed u _ _)
  exact .trans (.of_eq (books_mapItem _ _ _)) (keeps_closeAborted u t _)

end Sys2Proof.Machine

namespace Sys2Proof.Machine

/-! ### The settlement of a band and the spend of a CLEAN (R87 to R93) -/

theorem heldOn_filter_pos (amounts : List (Chan × Nat)) (c : Chan) :
    heldOn (amounts.filter fun a => decide (0 < a.2)) c = heldOn amounts c := by
  induction amounts with
  | nil => rfl
  | cons a amounts ih =>
    by_cases h : 0 < a.2
    · simp [h, heldOn_cons, ih]
    · obtain hzero : a.2 = 0 := Nat.eq_zero_of_not_pos h
      simp [heldOn_cons, ih, hzero]

/-- R88: the channels on which a band holds a reservation name all that it holds. -/
theorem heldOn_held (b : Band) (c : Chan) :
    heldOn (b.held.map fun k => (k.chan, k.reserve)) c = heldOn b.amounts c := by
  rw [← heldOn_filter_pos b.amounts, Band.held, Band.amounts, List.filter_map]
  rfl

theorem quarterDemand_le (k : BandChannel) (q : Nat) : k.quarterDemand q ≤ k.quarterDemand 4 := by
  refine List.sum_le_sum fun n _ => ?_
  have hn : n.val < 4 := n.isLt
  rw [if_pos hn]
  split
  · exact le_rfl
  · exact Nat.zero_le _

/-- R76, R88 to R90: an end settles no more than the reserve covers. -/
theorem settledDemand_le {b : Band} (hb : b.Whole) (e : Ending) {k : BandChannel} (hk : k ∈ b.channels) :
    settledDemand b e k ≤ 10000 * k.reserve := by
  obtain ⟨hdemand, hquarters⟩ := hb.2 k hk
  cases e with
  | aborted d => exact (quarterDemand_le k _).trans hquarters
  | done | fault => exact hdemand

theorem residue_settle (d r : Nat) (a : Account) : (a.settle d r).residue < 10000 := by
  simp only [Account.settle, dplPerNl]
  omega

/-- R87: a settlement takes no more out of the sub-tank than was reserved. -/
theorem frees_settle {d r : Nat} {a : Account} (hd : d ≤ 10000 * r) (ha : a.residue < 10000) :
    a.Frees r (a.settle d r) := by
  have hk : (d + a.residue) / 10000 ≤ r := by omega
  refine ⟨rfl, ?_, ?_⟩ <;> simp only [Account.settle, dplPerNl] <;> omega

theorem residues_settleAccounts (b : Band) (e : Ending) {s : State} (hs : (books s).ResiduesBelow) :
    (books (settleAccounts b e s)).ResiduesBelow :=
  residues_foldl (chan := BandChannel.chan) (f := fun k => Account.settle (settledDemand b e k) k.reserve)
    (fun _ _ a _ => residue_settle _ _ a) hs

theorem frees_settleAccounts {b : Band} (hb : b.Whole) (hholds : b.holdsInk = true) (e : Ending) {s : State}
    (hs : (books s).ResiduesBelow) (c : Chan) :
    s.ink.accounts[c].Frees (b.ink c) (settleAccounts b e s).ink.accounts[c] := by
  rw [Band.ink_of_holds hholds, ← heldOn_held b c]
  exact frees_foldl (chan := BandChannel.chan) (f := fun k => Account.settle (settledDemand b e k) k.reserve)
    (fun k hk a ha => frees_settle (settledDemand_le hb e (List.mem_filter.1 hk).1) ha)
    (fun _ _ a _ => residue_settle _ _ a) hs c

/-- R75 to R77: the band of an operation that has ended settles and leaves the store. -/
theorem backed_settleBand {b : Band} (e : Ending) {s : State} (hb : (books s).Backed) (hmem : b ∈ s.path.store)
    (hholds : b.holdsInk = true) : (books (settleBand b e s)).Backed := by
  unfold settleBand
  dsimp only
  rw [books_mapCuts]
  generalize hcharged : mapItem b.item _ (settleAccounts b e s) = v
  have hv : books v = { books s with accounts := (settleAccounts b e s).ink.accounts } := by
    rw [← hcharged, books_mapItem]
    exact books_foldl_mapAccount s
  have hfreed := hb.dropBand (b := b) hmem (frees_settleAccounts (hb.whole b hmem) hholds e hb.residues)
    (residues_settleAccounts b e hb.residues)
  have htopped := (Books.Topped.of_eq hv).trans (topped_forRefill (b.held.map BandChannel.chan) v)
  exact (htopped.without b.serial).keeps.2 hfreed

theorem residues_settleBand (b : Band) (e : Ending) {s : State} (hs : (books s).ResiduesBelow) :
    (books (settleBand b e s)).ResiduesBelow := by
  unfold settleBand
  dsimp only
  rw [books_mapCuts]
  generalize hcharged : mapItem b.item _ (settleAccounts b e s) = v
  have hv : (books v).ResiduesBelow := by
    rw [← hcharged, books_mapItem]
    exact residues_settleAccounts b e hs
  exact (topped_forRefill (b.held.map BandChannel.chan) v).keeps.1 hv

theorem residues_flushAccounts {amounts : List (Chan × Nat)} {s : State} (hs : (books s).ResiduesBelow) :
    (books (flushAccounts amounts s)).ResiduesBelow :=
  residues_foldl (chan := Prod.fst) (f := fun a => Account.flush a.2) (fun _ _ _ hk => hk) hs

theorem frees_flush (v : Nat) (a : Account) : a.Frees v (a.flush v) := by
  refine ⟨rfl, ?_, ?_⟩ <;> simp only [Account.flush] <;> omega

/-- R91: a CLEAN's spend takes out of each account what the CLEAN holds. -/
theorem frees_flushAccounts {flush : List (Chan × Nat)} {s : State} (hs : (books s).ResiduesBelow) (c : Chan) :
    s.ink.accounts[c].Frees (heldOn flush c)
      (flushAccounts (flush.filter fun a => decide (0 < a.2)) s).ink.accounts[c] := by
  have hfrees := frees_foldl (chan := Prod.fst) (f := fun a => Account.flush a.2)
    (l := flush.filter fun a => decide (0 < a.2)) (r := Prod.snd) (fun a _ k _ => frees_flush a.2 k)
    (fun _ _ _ hk => hk) hs c
  rwa [show ((flush.filter fun a => decide (0 < a.2)).map fun a => (a.1, a.2)) = _ from List.map_id _,
    heldOn_filter_pos] at hfrees

/-! ### The end of an operation in flight (R75 to R77) -/

section Ends

variable {h : Books} {f : Flight} {e : Ending} {u : State} (hu : books u = { h with work := none })
  (hwork : h.work = some f.work)

include hu hwork

/-- What the operation held has been spent, settled or was nothing. -/
theorem keeps_completeWork : h.Keeps (books (completeWork f.work e u)) := by
  have haccounts : u.ink.accounts = h.accounts := congrArg Books.accounts hu
  have hresidues (hr : h.ResiduesBelow) : (books u).ResiduesBelow := hu ▸ hr
  have hfree (hnone : (h.work.bind FlightWork.op?).toList = [] ∨ ∃ o, h.work = some (.op o) ∧ o.flushOf = [])
      (hb : h.Backed) : (books u).Backed := by
    rw [hu]
    refine hb.endWork (accounts := h.accounts) (fun c => ?_) hb.residues
    obtain hnone | ⟨o, ho, hflush⟩ := hnone
    · rw [hnone]
      exact .refl _
    · simpa [ho, FlightWork.op?, hflush] using Account.Frees.refl h.accounts[c]
  cases hf : f.work with
  | band n =>
    rw [hf] at hwork
    have hidle := hfree (.inl (by simp [hwork, FlightWork.op?]))
    simp only [completeWork]
    cases hfind : findBand u n with
    | none => exact ⟨hresidues, hidle⟩
    | some b =>
      have hmem : b ∈ u.path.store := List.mem_of_find?_eq_some hfind
      have hserial : b.serial = n := by simpa using List.find?_some hfind
      refine ⟨fun hr => residues_settleBand b e (hresidues hr), fun hb => backed_settleBand e (hidle hb) hmem ?_⟩
      have hstore : u.path.store = h.store := congrArg Books.store hu
      exact (hb.names n (.inr hwork)).2 b (hstore ▸ hmem) hserial
  | verify p =>
    rw [hf] at hwork
    have hbooks : books (completeWork (.verify p) e u) = books u := by
      cases e <;> simp [completeWork]
    rw [hbooks]
    exact ⟨hresidues, hfree (.inl (by simp [hwork, FlightWork.op?]))⟩
  | op o =>
    rw [hf] at hwork
    obtain ⟨serial, owner, work, rest⟩ := o
    cases work with
    | feed src rows => exact ⟨hresidues, hfree (.inr ⟨_, hwork, rfl⟩)⟩
    | clean strength flush granted =>
      simp only [completeWork, spendClean]
      refine .trans ?_ (topped_forRefill _ _).keeps
      rw [books_chargeFlush]
      refine ⟨fun hr => residues_flushAccounts (hresidues hr), fun hb => ?_⟩
      have hspent : books (flushAccounts (flush.filter fun a => decide (0 < a.2)) u) = { h with
          work := none,
          accounts := (flushAccounts (flush.filter fun a => decide (0 < a.2)) u).ink.accounts } := by
        refine (books_foldl_mapAccount u).trans ?_
        rw [hu]
        rfl
      rw [hspent]
      refine hb.endWork (fun c => ?_) (residues_flushAccounts (hresidues hb.residues))
      have hflush := frees_flushAccounts (flush := flush) (hresidues hb.residues) c
      rw [haccounts] at hflush
      simpa [hwork, FlightWork.op?, Op.flushOf] using hflush

omit hu hwork in
/-- R127: a remainder, which is a FEED, enters the queue. -/
theorem keeps_queueRemainder (s : State) : (books s).Keeps (books (queueRemainder s)) := by
  unfold queueRemainder
  split
  · next o ho =>
    refine Books.keeps_feeds (h := books s) (rest := none) le_rfl (fun _ hn => (nomatch hn)) (fun _ => rfl)
      (fun hb c => ?_) fun n hn => ?_
    · simp [QEntry.op?, hb.remainder o ho, books]
    · simpa [books] using hn
  · exact .refl _

omit hu hwork in
theorem keeps_endMove (f : Flight) (e : Ending) (s : State) : (books s).Keeps (books (endMove f e s)) := by
  unfold endMove
  dsimp only
  split
  · refine .trans (.of_eq ?_) (keeps_queueRemainder _)
    split <;> simp
  · exact .refl _

theorem keeps_endFlight : h.Keeps (books (endFlight f e u)) := by
  have hended : h.Keeps (books (endAbortFeed f.work (endMove f e (completeWork f.work e u)))) :=
    (keeps_completeWork hu hwork).trans ((keeps_endMove f e _).trans (.of_eq (books_endAbortFeed _ _)))
  unfold endFlight
  dsimp only
  split
  · exact hended.trans (.of_eq (books_advanceItem _ _))
  · exact hended

end Ends

/-- R129: a run-out feed enters the queue. -/
theorem keeps_queueRunOut (s : State) : (books s).Keeps (books (queueRunOut s)) := by
  unfold queueRunOut
  split
  · exact .refl _
  · dsimp only
    rw [books_movePlan]
    refine Books.keeps_feeds (h := books s) (rest := s.media.remainder) (Nat.le_succ _) (fun _ _ => .inl rfl)
      (fun _ => rfl) (fun _ c => ?_) fun n hn => ?_
    · simp [QEntry.op?, Op.flushOf, books]
    · simpa [books] using hn

section Flights

variable {f : Flight} {s : State} (hf : s.path.flight = some f)

include hf

theorem books_work : (books s).work = some f.work := congrArg (Option.map Flight.work) hf

theorem keeps_finishDone : (books s).Keeps (books (finishDone f s)) := by
  have hended := keeps_endFlight (h := books s) (e := .done) (u := linkIdle s) rfl (books_work hf)
  unfold finishDone
  dsimp only
  split
  · exact hended.trans (keeps_queueRunOut _)
  · exact hended

theorem keeps_finishAborted (d : Nat) : (books s).Keeps (books (finishAborted f d s)) := by
  unfold finishAborted
  dsimp only
  rw [books_endMeasureUnread, books_endScan]
  exact keeps_endFlight (by rw [books_raise]; rfl) (books_work hf)

end Flights

/-- R77: a HEAD_FAULT. -/
theorem keeps_headFault (cause : FaultCause) (s : State) : (books s).Keeps (books (headFault cause s)) := by
  unfold headFault
  dsimp only
  rw [books_raise, books_endMeasureUnread, books_endScan]
  cases hf : s.path.flight with
  | none => exact .of_eq (by simp [books, hf])
  | some f => exact keeps_endFlight (h := books s) rfl (books_work hf)

end Sys2Proof.Machine

namespace Sys2Proof.Machine

/-! ### Bands by number -/

/-- A band that the store gives for a number. -/
theorem mem_of_findBand {s : State} {n : Nat} {b : Band} (h : findBand s n = some b) :
    b ∈ (books s).store ∧ b.serial = n :=
  ⟨List.mem_of_find?_eq_some h, by simpa using List.find?_some h⟩

theorem books_mapBand (n : Nat) (f : Band → Band) (s : State) : books (mapBand n f s) =
    { books s with store := (books s).store.map fun a => if a.serial = n then f a else a } := rfl

section BandStates

variable {b : Band}

theorem not_holdsInk_of_state (h : b.state ≠ .reserved ∧ b.state ≠ .queued ∧ b.state ≠ .inFlight) :
    b.holdsInk = false := by
  simp [Band.holdsInk, h]

/-- A band with its state alone changed holds the same, if both states or neither hold ink. -/
theorem ink_with_state {st : BandState} (h : { b with state := st }.holdsInk = b.holdsInk) (c : Chan) :
    { b with state := st }.ink c = b.ink c := by
  unfold Band.ink
  rw [h]
  rfl

end BandStates

/-! ### Offers (R72, R73, R126, R127) -/

theorem books_handOver (work : FlightWork) (commanded : Nat) (points : List PausePoint) (s : State) :
    books (handOver work commanded points s) = { books s with work := some work } := rfl

/-- R127: the remainder of an operation is a FEED. -/
theorem flushOf_of_remainderOf {serial : Nat} {owner : Option Nat} {source : FeedSource} {rows : Nat} {o : Op}
    (h : remainderOf serial owner source rows = some o) : o.flushOf = [] := by
  unfold remainderOf at h
  split at h
  · cases h
    rfl
  · cases h

section Offers

variable {s : State} (hidle : s.path.flight = none)

include hidle

theorem work_of_idle : (books s).work = none := congrArg (Option.map Flight.work) hidle

theorem keeps_offerVerify (p : Part) : (books s).Keeps (books (offerVerify p s)) := by
  refine .of_accounts rfl fun hb => ?_
  have hw := work_of_idle hidle
  refine hb.moveOps rfl rfl rfl rfl le_rfl hb.flushes hb.remainder hb.opSerials hb.opsArisen (fun c => ?_)
    fun n hn => ?_
  · rw [offerVerify, books_handOver]
    simp [Books.named, hw, FlightWork.op?, onVerify]
  · exact hn.imp_right fun heq => (nomatch heq)

theorem keeps_offerOp {o : Op} {rest : List QEntry} (hqueue : s.path.queue = .op o :: rest) :
    (books s).Keeps (books (offerOp o (s.onPath fun p => { p with queue := rest }))) := by
  unfold offerOp
  split
  · exact Books.keeps_offer (h := books s) (work_of_idle hidle) hqueue rfl (fun n hn => (nomatch hn))
      fun w hw => .inr (flushOf_of_remainderOf hw)
  · exact Books.keeps_offer (h := books s) (remainder := s.media.remainder) (work_of_idle hidle) hqueue rfl
      (fun n hn => (nomatch hn)) fun w _ => .inl rfl

theorem keeps_offerBand {b : Band} {rest : List QEntry} (hqueue : s.path.queue = .band b.serial :: rest)
    (hfind : findBand s b.serial = some b) :
    (books s).Keeps (books (offerBand b (s.onPath fun p => { p with queue := rest }))) := by
  obtain ⟨hmem, -⟩ := mem_of_findBand hfind
  refine .of_accounts rfl fun hb => ?_
  have hholds : b.holdsInk = true :=
    (hb.names b.serial (.inl (by rw [show (books s).queue = _ from hqueue]; exact List.mem_cons_self))).2 b hmem rfl
  have hoffered := (Books.keeps_offer (work := .band b.serial) (work_of_idle hidle) hqueue rfl
    (fun n hn => by cases hn; rfl) fun w hw => .inr (flushOf_of_remainderOf (source := .bandRest b.slot)
      (owner := some b.item) (serial := b.serial)
      (rows := (planFeed s.media.stops s.media.roll.position b.rows).rest) hw)).2 hb
  refine hoffered.changeBand (f := fun b => { b with state := .inFlight }) hmem rfl (hb.whole b hmem) (fun hs => ?_)
    (fun hs => ?_) (fun _ => rfl) (ink_with_state hholds.symm)
  · simp [Band.holdsInk, hs] at hholds
  · simp [Band.holdsInk, hs] at hholds

theorem keeps_offerQueued : (books s).Keeps (books (offerQueued s)) := by
  unfold offerQueued
  split
  · exact .refl _
  · next q rest hqueue =>
    split
    · cases q with
      | band n =>
        dsimp only
        cases hfind : findBand s n with
        | none => exact .refl _
        | some b =>
          obtain ⟨-, rfl⟩ := mem_of_findBand hfind
          dsimp only
          split
          · exact keeps_offerBand hidle hqueue hfind
          · exact .refl _
      | op o =>
        dsimp only
        split
        · exact keeps_offerOp hidle hqueue
        · split
          · exact keeps_offerOp hidle hqueue
          · exact .refl _
    · exact .refl _

end Offers

theorem keeps_arbitrate (s : State) : (books s).Keeps (books (arbitrate s)) := by
  unfold arbitrate
  split
  · exact .refl _
  · next hflight =>
    have hidle : s.path.flight = none := by simpa using hflight
    (repeat' split)
    · exact keeps_offerVerify hidle _
    · exact keeps_offerQueued hidle
    · exact keeps_offerQueued hidle

/-! ### Messages of the operation in flight (R73, R74) -/

section Messages

variable {f : Flight} {s : State} (hf : s.path.flight = some f)

include hf

theorem keeps_offerAgain (n : Nat) : (books s).Keeps (books (offerAgain f n s)) := by
  unfold offerAgain
  split
  · exact .of_eq (by simp [hf])
  · exact keeps_headFault _ s

theorem keeps_pauseAt (point : Nat) : (books s).Keeps (books (pauseAt f point s)) := by
  unfold pauseAt
  split
  · split
    · exact .of_eq (by simp [hf])
    · exact keeps_headFault _ s
  · exact keeps_headFault _ s

end Messages

/-! ### The count (R64, R65) -/

theorem books_placeStrip (n : Nat) (t : Stop) (s : State) : books (placeStrip n t s) = { books s with
    store := (books s).store.map fun a => if a.serial = n then { a with stopPlaced := true } else a } := by
  rw [placeStrip, books_mapBand, books_insertStop]

/-- R147: that a strip's stop is placed changes nothing of what its band holds. -/
theorem backed_stopPlaced {h : Books} (hb : h.Backed) (n : Nat) : ({ h with
    store := h.store.map fun a => if a.serial = n then { a with stopPlaced := true } else a } : Books).Backed := by
  by_cases hn : ∃ b ∈ h.store, b.serial = n
  · obtain ⟨b, hmem, rfl⟩ := hn
    exact hb.changeBand (f := fun a => { a with stopPlaced := true }) hmem rfl (hb.whole b hmem) .inl .inl id
      fun _ => rfl
  · have hsame : (h.store.map fun a => if a.serial = n then { a with stopPlaced := true } else a) = h.store :=
      (List.map_congr_left fun a ha => if_neg fun heq => hn ⟨a, ha, heq⟩).trans (List.map_id _)
    rw [hsame]
    exact hb

theorem keeps_placeStrip (n : Nat) (t : Stop) (s : State) : (books s).Keeps (books (placeStrip n t s)) := by
  rw [books_placeStrip]
  exact .of_accounts rfl fun hb => backed_stopPlaced hb n

theorem keeps_handStrip (b : Band) (s : State) : (books s).Keeps (books (handStrip b s)) := by
  unfold handStrip
  split
  · dsimp only
    split
    · exact .trans (.of_eq (books_takeStopId s)) (keeps_placeStrip _ _ _)
    · exact .of_eq (by simp)
  · exact .refl _

/-- R64: a FILLED band starts its count. -/
theorem keeps_countStart {s : State} {b : Band} {drop : Vector DropEntry 12} (hnext : countNext s = some b) :
    (books s).Keeps (books ((mapBand b.serial (fun b => { b with state := .counting }) s).onPath fun p =>
      { p with count := some { band := b.serial, drop := drop } })) := by
  have hb : b ∈ (books s).store ∧ b.state = .filled := by
    unfold countNext at hnext
    split at hnext
    · next a hfind =>
      have ha : a = b := by
        split at hnext
        · cases hnext
        · exact Option.some.inj hnext
      exact ha ▸ ⟨List.mem_of_find?_eq_some hfind, by simpa using List.find?_some hfind⟩
    · cases hnext
  obtain ⟨hmem, hstate⟩ := hb
  have hfree : b.holdsInk = false := not_holdsInk_of_state (by simp [hstate])
  refine .of_accounts rfl fun hb => ?_
  have hcounting := hb.changeBand (f := fun a => { a with state := .counting }) hmem rfl (hb.whole b hmem)
    (by simp [hstate]) (fun _ => .inl rfl) (by simp [hfree]) (ink_with_state (by rw [hfree]; rfl))
  refine { hcounting with counting := ?_, names := hcounting.names }
  rintro j ⟨⟩
  refine ⟨hb.bandsArisen b hmem, fun a ha hserial => ?_⟩
  obtain ⟨a₀, -, rfl⟩ := List.mem_map.1 ha
  dsimp only at hserial ⊢
  split at hserial
  · next heq => rw [if_pos heq]
  · next hne => exact absurd hserial hne

/-- R65: a counted band's reserve covers its demand. -/
theorem whole_counted {b : Band} (hb : b.Whole) (drop : Vector DropEntry 12) (st : BandState) :
    Band.Whole { b with channels := b.channels.map (BandChannel.counted b.rows b.columns drop), state := st } := by
  refine ⟨?_, fun k hk => ?_⟩
  · have hchan : (b.channels.map (BandChannel.counted b.rows b.columns drop)).map BandChannel.chan =
        b.channels.map BandChannel.chan := by
      rw [List.map_map]
      rfl
    rw [hchan]
    exact hb.1
  · obtain ⟨k₀, -, rfl⟩ := List.mem_map.1 hk
    obtain ⟨-, hcover⟩ := ceilDiv_bounds (k₀.counted b.rows b.columns drop).demand
    exact ⟨hcover, hcover⟩

theorem keeps_completeCount {j : CountJob} {s : State} (hj : s.path.count = some j) :
    (books s).Keeps (books (completeCount j s)) := by
  unfold completeCount
  dsimp only
  generalize hu : (s.onPath fun p => { p with count := none }) = u
  have hended : (books s).Keeps (books u) := by
    rw [← hu]
    exact Books.keeps_countEnd (h := books s)
  have hstore : (books u).store = (books s).store := by rw [← hu]; rfl
  cases hfind : findBand u j.band with
  | none => exact hended
  | some b =>
    obtain ⟨hmem, hserial⟩ := mem_of_findBand hfind
    dsimp only
    split
    · rw [books_advanceItem]
      refine hended.trans (.trans ⟨fun hr => ?_, fun hb => ?_⟩ (keeps_joinAbortFeed _ _ _))
      · exact books_discardBand b u ▸ residues_bandDropped b hr
      · exact books_discardBand b u ▸ backed_bandDropped hb hmem
    · refine .trans (h' := books (mapBand b.serial (fun b => { b with
        channels := b.channels.map (BandChannel.counted b.rows b.columns j.drop), state := .counted }) u)) ?_ ?_
      · refine ⟨fun hr => hended.1 hr, fun hb => ?_⟩
        have hstate : b.state = .counting := (hb.counting j hj).2 b (hstore ▸ hmem) hserial
        have hfree : b.holdsInk = false := not_holdsInk_of_state (by simp [hstate])
        exact (hended.2 hb).changeBand (f := fun b => { b with
            channels := b.channels.map (BandChannel.counted b.rows b.columns j.drop), state := .counted }) hmem rfl
          (whole_counted ((hended.2 hb).whole b hmem) j.drop .counted) (by simp [hstate]) (fun _ => .inr (hu ▸ rfl))
          (by simp [hfree]) fun c => (Band.ink_of_not_holds rfl c).trans (Band.ink_of_not_holds hfree c).symm
      · split
        · exact keeps_handStrip b _
        · exact .refl _

end Sys2Proof.Machine

namespace Sys2Proof.Machine

/-! ### Requests for ink (R66, R86) -/

theorem heldOn_eq_amountOn {amounts : List (Chan × Nat)} (h : (amounts.map Prod.fst).Nodup) (c : Chan) :
    heldOn amounts c = amountOn amounts c := by
  induction amounts with
  | nil => rfl
  | cons a amounts ih =>
    rw [List.map_cons, List.nodup_cons] at h
    obtain ⟨hfresh, hnodup⟩ := h
    rw [heldOn_cons, ih hnodup]
    by_cases hc : a.1 = c
    · subst hc
      rw [amountOn_of_not_mem hfresh]
      simp [amountOn]
    · simp [amountOn, hc]

/-- R66: a grant adds what the request names on each channel, and keeps the floor. -/
theorem sound_grantInk {amounts : List (Chan × Nat)} (hnodup : (amounts.map Prod.fst).Nodup) {s : State}
    (hgrant : grantable s amounts = true) (hs : ∀ c : Chan, s.ink.accounts[c].Sound) (c : Chan) :
    (grantInk amounts s).ink.accounts[c].Sound ∧
    (grantInk amounts s).ink.accounts[c].reserved = s.ink.accounts[c].reserved + heldOn amounts c ∧
    (grantInk amounts s).ink.accounts[c].residue = s.ink.accounts[c].residue := by
  rw [account_grantInk hnodup, ← heldOn_eq_amountOn hnodup]
  refine ⟨?_, rfl, rfl⟩
  obtain ⟨hfloor, hfull⟩ := hs c
  refine ⟨?_, hfull⟩
  have hfits : heldOn amounts c = 0 ∨ heldOn amounts c ≤ s.ink.accounts[c].available := by
    rw [heldOn_eq_amountOn hnodup]
    by_cases hc : c ∈ amounts.map Prod.fst
    · obtain ⟨a, ha, rfl⟩ := List.mem_map.1 hc
      rw [amountOn_of_mem hnodup ha]
      exact (grantable_iff s amounts).1 hgrant a ha
    · exact .inl (amountOn_of_not_mem hc)
  simp only [Account.available, subTankFloor] at hfits
  dsimp only
  omega

theorem residues_grantInk {amounts : List (Chan × Nat)} {s : State} (hs : (books s).ResiduesBelow) :
    (books (grantInk amounts s)).ResiduesBelow :=
  residues_foldl (chan := Prod.fst) (f := fun a => Account.grant a.2) (fun _ _ _ hk => hk) hs

theorem books_grantInk (amounts : List (Chan × Nat)) (s : State) :
    books (grantInk amounts s) = { books s with accounts := (grantInk amounts s).ink.accounts } :=
  books_foldl_mapAccount s

/-- R66: the asker is a band of the store or a CLEAN that waits, and holds no reservation. -/
theorem asker_cases {s : State} {r : Request} (h : asker s = some r) :
    (∃ b ∈ (books s).store, b.holdsInk = false ∧ r = b.request) ∨
    ∃ o ∈ (books s).waiting, o.request? = some r := by
  have hband (b : Request) (hb : (s.path.store.find? fun b => !b.holdsInk).map Band.request = some b) :
      ∃ a ∈ (books s).store, a.holdsInk = false ∧ b = a.request := by
    obtain ⟨a, hfind, rfl⟩ := Option.map_eq_some_iff.1 hb
    exact ⟨a, List.mem_of_find?_eq_some hfind, by simpa using List.find?_some hfind, rfl⟩
  have hclean (c : Request) (hc : (s.path.waiting.filterMap Op.request?).head? = some c) :
      ∃ o ∈ (books s).waiting, o.request? = some c := List.mem_filterMap.1 (List.mem_of_head? hc)
  unfold asker at h
  dsimp only at h
  split at h
  · next b c hb hc =>
    split at h
    · exact .inr (Option.some.inj h ▸ hclean c hc)
    · exact .inl (Option.some.inj h ▸ hband b hb)
  · next b hb _ => exact .inl (Option.some.inj h ▸ hband b hb)
  · exact .inr (hclean r h)

theorem residues_settleAsker (r : Request) (g : Bool) {s : State} (hs : (books s).ResiduesBelow) :
    (books (settleAsker r g s)).ResiduesBelow := by
  unfold settleAsker
  (repeat' split) <;> exact hs

theorem backed_grantBand {b : Band} {s : State} (hb : (books s).Backed) (hmem : b ∈ (books s).store)
    (hfree : b.holdsInk = false) (hready : b.request.ready = true) (hgrant : grantable s b.amounts = true) :
    (books (settleAsker b.request true (grantInk b.amounts s))).Backed := by
  have hnodup : (b.amounts.map Prod.fst).Nodup := by
    rw [Band.amounts, List.map_map]
    exact (hb.whole b hmem).1
  have hstate : b.state = .counted ∨ b.state = .waitInk := by
    simp only [Band.request, Bool.and_eq_true, Bool.or_eq_true, beq_iff_eq] at hready
    exact hready.1
  have haccounts := sound_grantInk hnodup hgrant hb.sound
  change Books.Backed (books (mapBand b.serial (fun b => { b with state := .reserved }) (grantInk b.amounts s)))
  rw [books_mapBand, books_grantInk]
  refine hb.setBand (f := fun b => { b with state := .reserved }) hmem rfl (hb.whole b hmem) (fun hs => ?_)
    (fun hs => ?_) (fun _ => rfl) (fun c => (haccounts c).1) (fun c => ?_) fun c => ?_
  · simp [hs] at hstate
  · simp [hs] at hstate
  · rw [(haccounts c).2.1, Band.ink_of_not_holds hfree, Band.ink_of_holds rfl]
    rfl
  · rw [(haccounts c).2.2]
    exact hb.residues c

theorem backed_declineBand {b : Band} {s : State} (hb : (books s).Backed) (hmem : b ∈ (books s).store)
    (hfree : b.holdsInk = false) (hready : b.request.ready = true) :
    (books (settleAsker b.request false s)).Backed := by
  have hstate : b.state = .counted ∨ b.state = .waitInk := by
    simp only [Band.request, Bool.and_eq_true, Bool.or_eq_true, beq_iff_eq] at hready
    exact hready.1
  refine hb.changeBand (f := fun b => { b with state := .waitInk }) hmem rfl (hb.whole b hmem) (fun hs => ?_)
    (fun hs => ?_) (by simp [hfree]) (ink_with_state (by rw [hfree]; rfl))
  · simp [hs] at hstate
  · simp [hs] at hstate

theorem markGranted_of_ne {n : Nat} {o : Op} (h : o.serial ≠ n) : o.markGranted n = o := by
  obtain ⟨serial, owner, work, rest⟩ := o
  cases work with
  | feed src rows => rfl
  | clean strength flush granted => exact if_neg h

/-- R66: a CLEAN that waits has its flush granted. -/
theorem backed_grantClean {o : Op} {r : Request} {s : State} (hb : (books s).Backed) (hmem : o ∈ (books s).waiting)
    (hr : o.request? = some r) (hgrant : grantable s r.amounts = true) :
    (books (settleAsker r true (grantInk r.amounts s))).Backed := by
  obtain ⟨n, owner, work, rest⟩ := o
  cases work with
  | feed src rows => cases hr
  | clean strength flush granted =>
    cases granted with
    | true => cases hr
    | false =>
      obtain rfl := Option.some.inj hr
      have hmark : Op.markGranted n = fun w => if w.serial = n then w.markGranted n else w :=
        funext fun w => by
          split
          · rfl
          · next hw => exact markGranted_of_ne hw
      have haccounts := sound_grantInk (hb.flushes _ hmem) hgrant hb.sound
      have hbooks : books (settleAsker ⟨n, .clean, flush, true⟩ true (grantInk flush s)) = { books s with
          accounts := (grantInk flush s).ink.accounts, waiting := (books s).waiting.map (Op.markGranted n) } := by
        exact congrArg (fun g : Books => { g with waiting := g.waiting.map (Op.markGranted n) })
          (books_grantInk flush s)
      rw [hbooks, hmark]
      exact hb.grantOp (f := Op.markGranted n) hmem (by simp [Op.markGranted])
        (by simp [Op.markGranted, Op.flushOf]) rfl
        (by simp [Op.markGranted, Op.ready]) (fun c => (haccounts c).1) (fun c => (haccounts c).2.1)
        fun c => (haccounts c).2.2 ▸ hb.residues c

theorem settleAsker_declined {o : Op} {r : Request} (hr : o.request? = some r) (s : State) :
    settleAsker r false s = s := by
  unfold Op.request? at hr
  split at hr
  · obtain rfl := Option.some.inj hr
    rfl
  · cases hr

/-- R66, R86: the answer to a request that is ready. -/
theorem keeps_answerRequest {r : Request} {s : State} (hr : asker s = some r) (hready : r.ready = true) :
    (books s).Keeps (books (answerRequest r s)) := by
  unfold answerRequest
  split
  · next hgrant =>
    rw [books_endWaits]
    refine ⟨fun hs => residues_settleAsker r true (residues_grantInk hs), fun hb => ?_⟩
    obtain ⟨b, hmem, hfree, rfl⟩ | ⟨o, hmem, ho⟩ := asker_cases hr
    · exact backed_grantBand hb hmem hfree hready hgrant
    · exact backed_grantClean hb hmem ho hgrant
  · rw [books_declineWaits]
    refine ⟨fun hs => residues_settleAsker r false hs, fun hb => ?_⟩
    obtain ⟨b, hmem, hfree, rfl⟩ | ⟨o, hmem, ho⟩ := asker_cases hr
    · exact backed_declineBand hb hmem hfree hready
    · rwa [settleAsker_declined ho]

/-! ### Entry into the head operation queue (R56, R68) -/

/-- R68, R69: a RESERVED band enters the queue. -/
theorem keeps_bandEntered {b : Band} {s : State} (hmem : b ∈ (books s).store) (hready : bandReady s b = true) :
    (books s).Keeps (books (bandEntered b s)) := by
  have hstate : b.state = .reserved := by
    simp only [bandReady, Bool.and_eq_true, beq_iff_eq] at hready
    obtain ⟨⟨⟨hstate, -⟩, -⟩, -⟩ := hready
    exact hstate
  have hholds : b.holdsInk = true := by simp [Band.holdsInk, hstate]
  refine .of_accounts rfl fun hb => ?_
  have hqueued := hb.changeBand (f := fun b => { b with state := .queued }) hmem rfl (hb.whole b hmem)
    (by simp [hstate]) (by simp [hstate]) (fun _ => rfl) (ink_with_state (by rw [hholds]; rfl))
  exact hqueued.nameBand (b := { b with state := .queued }) (List.mem_map.2 ⟨b, hmem, if_pos rfl⟩) rfl

theorem keeps_enterQueue (s : State) : (books s).Keeps (books (enterQueue s)) := by
  have hband (b : Band) (hb : s.path.store.find? Band.waits = some b) :
      (books s).Keeps (books (if bandReady s b then bandEntered b s else s)) := by
    split
    · exact keeps_bandEntered (List.mem_of_find?_eq_some hb) ‹_›
    · exact .refl _
  have hop (o : Op) (ho : s.path.waiting.head? = some o) : (books s).Keeps (books (if o.ready then
      s.onPath fun p =>
        { p with waiting := p.waiting.filter fun w => w.serial != o.serial, queue := p.queue ++ [.op o] }
      else s)) := by
    split
    · exact Books.keeps_enterOp (h := books s) (List.mem_of_head? ho) ‹_›
    · exact .refl _
  unfold enterQueue
  dsimp only
  split
  · next b o hb ho =>
    split
    · exact hop o ho
    · exact hband b hb
  · next b hb _ => exact hband b hb
  · next o _ ho => exact hop o ho
  · exact .refl _

theorem keeps_enterAbortFeed (s : State) : (books s).Keeps (books (enterAbortFeed s)) := by
  unfold enterAbortFeed
  split
  · exact .refl _
  · next hwait =>
    split
    · exact Books.keeps_enterAbortFeed (h := books s) hwait
    · exact .refl _

end Sys2Proof.Machine

namespace Sys2Proof.Machine

/-! ### The takes of the intake (R50, R55, R63, R70, R71) -/

theorem keeps_take {k : StreamKind} {can : IntakeEntry → State → Bool} {act : IntakeEntry → State → State}
    (hact : ∀ e s, (books s).Keeps (books (act e s))) (s : State) : (books s).Keeps (books (take k can act s)) := by
  unfold take
  (repeat' split)
  · exact .refl _
  · next rest _ _ => exact hact _ (s.onLink fun l => { l with intake := rest })
  · exact .refl _

@[simp] theorem books_answerTake (e : IntakeEntry) (r : State × Status) : books (answerTake e r) = books r.1 := by
  simp [answerTake]

theorem nodup_channelsOf (mask : Nat) : (channelsOf mask).Nodup := (List.nodup_finRange 12).filter _

theorem keeps_ariseFeed (src : FeedSource) (rows : Nat) (s : State) :
    (books s).Keeps (books (ariseOp (.feed src rows) s)) :=
  Books.keeps_arise (h := books s) rfl List.nodup_nil fun _ => rfl

/-- R71: a CLEAN names each channel of its mask once. -/
theorem keeps_ariseClean (strength mask : Nat) (volume : Chan → Nat) (s : State) :
    (books s).Keeps (books (ariseOp (.clean strength ((channelsOf mask).map fun c => (c, volume c)) false) s)) := by
  refine Books.keeps_arise (h := books s) rfl ?_ fun hready => (nomatch hready)
  change (((channelsOf mask).map fun c => (c, volume c)).map Prod.fst).Nodup
  rw [List.map_map]
  exact (List.map_id (channelsOf mask)).symm ▸ nodup_channelsOf mask

theorem keeps_judgeFeed (e : IntakeEntry) (s : State) : (books s).Keeps (books (judgeFeed e s)) := by
  unfold judgeFeed
  (repeat' split)
  · exact .of_eq (by simp)
  · exact .of_eq (by simp)
  · exact .of_eq (by simp)
  · exact .trans (keeps_ariseFeed _ _ s) (.of_eq (books_movePlan _ _))

theorem keeps_judgeClean (body : List Byte) (s : State) : (books s).Keeps (books (judgeClean body s).1) := by
  unfold judgeClean
  split
  · exact .refl _
  · split
    · split
      · exact .refl _
      · exact keeps_ariseClean _ _ _ s
    · exact .refl _

theorem keeps_closeItemTake (i : Item) (s : State) : (books s).Keeps (books (closeItemTake i s)) := by
  have hclosed : (books s).Keeps (books (if 0 < i.openRows then closePanel i.uid true none s else s)) := by
    split
    · exact keeps_closePanel _ _ _ s
    · exact .refl _
  unfold closeItemTake
  dsimp only
  refine hclosed.trans (.of_eq ?_)
  generalize (if 0 < i.openRows then closePanel i.uid true none s else s) = u
  split <;> simp

theorem keeps_judgeItemClose (body : List Byte) (s : State) : (books s).Keeps (books (judgeItemClose body s).1) := by
  unfold judgeItemClose
  split
  · exact .refl _
  · split
    · exact .refl _
    · split
      · exact keeps_closeItemTake _ s
      · exact .refl _

theorem keeps_judgeTableLoad (body : List Byte) (s : State) : (books s).Keeps (books (judgeTableLoad body s).1) := by
  unfold judgeTableLoad
  split
  · exact .refl _
  · split
    · exact .refl _
    · exact keeps_commitContent _ s

/-- R63: a band just accepted has counted no drops. -/
theorem whole_newBand (s : State) (b : BandBody) (m : Vector MapEntry 12) (i : Item) (panel : Nat) :
    (newBand s b m i panel).Whole := by
  refine ⟨?_, fun k hk => ?_⟩
  · have hchan : ((channelsOf b.mask).map (newChannel m)).map BandChannel.chan = channelsOf b.mask := by
      rw [List.map_map]
      exact List.map_id _
    rw [newBand, hchan]
    exact nodup_channelsOf b.mask
  · obtain ⟨c, -, rfl⟩ := List.mem_map.1 hk
    exact ⟨le_rfl, Nat.le_of_eq rfl⟩

theorem keeps_acceptBand (e : IntakeEntry) (b : BandBody) (m : Vector MapEntry 12) (i : Item) (s : State) :
    (books s).Keeps (books (acceptBand e b m i s)) := by
  have hlead : (books s).Keeps (books (if i.firstRow.isNone then planLead i s else s)) := by
    split
    · exact .of_eq (books_planLead i s)
    · exact .refl _
  have hclosed (u : State) :
      (books u).Keeps (books (if closesPanel s i then closePanel i.uid false none u else u)) := by
    split
    · exact keeps_closePanel _ _ _ u
    · exact .refl _
  unfold acceptBand
  dsimp only
  refine hlead.trans ((hclosed _).trans ?_)
  generalize (if closesPanel s i = true then closePanel i.uid false none _ else _) = u
  generalize hv : mapItem i.uid (Item.countBand u.items.planRow u.path.nextArise b.rows) u = v
  have hbooks : books v = books u := hv ▸ books_mapItem _ _ _
  have hnext : u.path.nextArise = v.path.nextArise := congrArg Books.nextArise hbooks.symm
  rw [hnext, ← hbooks]
  exact Books.keeps_accept (h := books v) (b := newBand v b m i (panelIndex v i.uid)) rfl rfl (whole_newBand _ _ _ _ _)

theorem keeps_refuseBand (e : IntakeEntry) (st : Status) (s : State) :
    (books s).Keeps (books (refuseBand e st s)) := by
  have hcaptured : books (if st = .badRecord then capture (bandWire e.tag e.length e.body) e.length true s else s) =
      books s := by
    split <;> simp
  unfold refuseBand
  dsimp only
  rw [books_reply]
  exact .trans (.of_eq hcaptured) (Books.keeps_rx (rx := .dropping) fun _ _ _ _ h => (nomatch h))

theorem keeps_judgeBandItem (e : IntakeEntry) (b : BandBody) (m : Vector MapEntry 12) (s : State) :
    (books s).Keeps (books (judgeBandItem e b m s)) := by
  unfold judgeBandItem
  split
  · exact keeps_refuseBand _ _ _
  · (repeat' split)
    · exact keeps_refuseBand _ _ _
    · exact keeps_refuseBand _ _ _
    · exact keeps_acceptBand _ _ _ _ _
    · exact .trans (.of_eq (books_extendReservation _ s)) (keeps_acceptBand _ _ _ _ _)
    · exact .trans (keeps_refuseBand _ _ _) (keeps_abortItem _ _ _)

theorem keeps_judgeBand (e : IntakeEntry) (s : State) : (books s).Keeps (books (judgeBand e s)) := by
  unfold judgeBand
  (repeat' split)
  · exact keeps_refuseBand _ _ _
  · exact keeps_refuseBand _ _ _
  · exact keeps_refuseBand _ _ _
  · exact keeps_judgeBandItem _ _ _ _

/-! ### The resets (R17 to R19, R96) -/

/-- R18, R96: at power-on the sub-tanks stand at their floor and nothing is held. -/
theorem backed_reset : (books State.reset).Backed := by
  have haccount (c : Chan) : (books State.reset).accounts[c] = Account.reset := Vector.getElem_replicate _
  refine {
    sound := fun c => ?_, reserved := fun c => ?_, residues := fun c => ?_, whole := ?_, flushes := ?_,
    remainder := fun _ h => (nomatch h), bandSerials := List.nodup_nil, opSerials := List.nodup_nil, bandsArisen := ?_,
    opsArisen := ?_, filling := fun _ _ _ _ h => (nomatch h), counting := fun _ h => (nomatch h),
    names := fun n h => ?_ }
  · rw [haccount]
    exact ⟨by decide, by decide⟩
  · rw [haccount]
    rfl
  · rw [haccount]
    decide
  · exact fun b hb => (nomatch hb)
  · exact fun b hb => (nomatch hb)
  · exact fun b hb => (nomatch hb)
  · exact fun b hb => (nomatch hb)
  · obtain h | h := h <;> cases h

theorem books_restartAll (now : Time) (s : State) : books (restartAll now s) = books State.reset := by
  obtain ⟨ns, slots, -, -, -, heq⟩ := restartAll_eq now s
  rw [heq]
  rfl

theorem keeps_of_reset (h : Books) : h.Keeps (books State.reset) :=
  ⟨fun _ => backed_reset.residues, fun _ => backed_reset⟩

theorem keeps_restartAll (now : Time) (s : State) : (books s).Keeps (books (restartAll now s)) := by
  rw [books_restartAll]
  exact keeps_of_reset _

theorem keeps_resetAll (s : State) : (books s).Keeps (books (resetAll s)) := by
  have hrestarted := keeps_restartAll s.now s
  unfold resetAll
  dsimp only
  generalize restartAll s.now s = v at hrestarted ⊢
  refine hrestarted.trans (Books.keeps_rx (h := books v) (rx := s.link.rx.dropped) fun n wire length tag h => ?_)
  cases hrx : s.link.rx <;> simp [hrx, Rx.dropped] at h

theorem keeps_linkReset (stream : Bool) (s : State) : (books s).Keeps (books (linkReset stream s)) := by
  have hflushed : (books s).Keeps (books (s.onLink (Link.flushed stream))) := by
    refine Books.keeps_rx (h := books s) fun n wire length tag h => ?_
    cases stream with
    | false => cases h
    | true =>
      rw [State.onLink_link] at h
      cases hrx : s.link.rx <;> simp [Link.flushed, hrx, Rx.dropped] at h
  unfold linkReset
  rw [books_abortOpenJob]
  refine hflushed.trans ?_
  unfold abortOpenItem
  split
  · exact keeps_abortItem _ _ ((s.onLink (Link.flushed stream)).onTables TableStore.freed)
  · exact .refl _

/-! ### The express records (R6) -/

theorem keeps_tableCommit (body : List Byte) (s : State) : (books s).Keeps (books (tableCommit body s).1) := by
  unfold tableCommit
  dsimp only
  (repeat' split) <;> try exact .refl _
  exact keeps_commitContent _ (s.onTables TableStore.freed)

theorem keeps_itemAbort (body : List Byte) (s : State) : (books s).Keeps (books (itemAbort body s).1) := by
  unfold itemAbort
  split
  · exact .refl _
  · split
    · exact .refl _
    · split
      · exact .refl _
      · exact keeps_abortItem _ _ s

theorem keeps_holdRelease (body : List Byte) (s : State) : (books s).Keeps (books (holdRelease body s).1) := by
  unfold holdRelease
  split
  · exact .refl _
  · split
    · exact .refl _
    · split
      · exact .refl _
      · split
        · exact .trans (.of_eq (books_clearHolds _ s)) (keeps_abortItem _ _ _)
        · exact .of_eq (books_releaseHoldOf _ s)

theorem books_costDump (body : List Byte) (s : State) : books (costDump body s).1 = books s := by
  have hrun (l : List Nat) (u : State) : books (l.foldl dumpRecord u) = books u := by
    induction l generalizing u with
    | nil => rfl
    | cons n l ih => rw [List.foldl_cons, ih, books_dumpRecord]
  unfold costDump
  split
  · rfl
  · exact hrun _ s

theorem keeps_ownerAnswer (k : ExpressKind) (body : List Byte) (s : State) :
    (books s).Keeps (books (ownerAnswer k body s).state) := by
  cases k with
  | statusQuery | faultDump =>
    simp only [ownerAnswer, statusQuery, faultDump]
    split <;> exact .refl _
  | engineReset =>
    simp only [ownerAnswer, engineReset]
    split
    · exact .refl _
    · exact keeps_resetAll s
    · exact keeps_linkReset true s
  | counterDump =>
    simp only [ownerAnswer, counterDump]
    split
    · exact .refl _
    · dsimp only
      split
      · exact keeps_clearCounters s
      · exact .refl _
  | itemAbort => exact keeps_itemAbort body s
  | holdRelease => exact keeps_holdRelease body s
  | tableCommit => exact keeps_tableCommit body s
  | costDump => exact .of_eq (books_costDump body s)
  | halt | resume | tableBegin | tablePart | rollLoad | sensorVerify | verifyClear | editionReset | cutterClear =>
    exact .of_eq (by simp [ownerAnswer, answer])

theorem keeps_actExpress (k : ExpressKind) (tag : Byte) (body : List Byte) (s : State) :
    (books s).Keeps (books (actExpress k tag body s)) := by
  unfold actExpress
  dsimp only
  rw [books_reply, books_captureIf]
  exact keeps_ownerAnswer k body s

theorem keeps_express (k : ExpressKind) (tag : Byte) (body : List Byte) (s : State) :
    (books s).Keeps (books (express k tag body s)) := by
  unfold express
  (repeat' split)
  · exact .refl _
  · exact keeps_actExpress k tag body s
  · exact .refl _

/-! ### The job link (R6, R8, R12, R63) -/

@[simp] theorem books_arrivalReply (tag : Byte) (st : Status) (s : State) :
    books (arrivalReply tag st s) = books s := by
  unfold arrivalReply
  split <;> simp

theorem keeps_actHeld (e : HoldEntry) (s : State) : (books s).Keeps (books (actHeld e s)) := by
  cases e with
  | express k tag body => exact keeps_actExpress k tag body s
  | reply tag st => exact .refl _

theorem keeps_releaseHold (n : Nat) (s : State) : (books s).Keeps (books (releaseHold n s)) := by
  induction n generalizing s with
  | zero => exact .refl _
  | succ n ih =>
    unfold releaseHold
    split
    · exact .refl _
    · next e rest _ =>
      split
      · refine .trans ?_ (ih _)
        rw [books_keepRunOut]
        exact keeps_actHeld e (s.onLink fun l => { l with hold := rest })
      · exact .refl _

theorem keeps_sendEntry (s : State) : (books s).Keeps (books (sendEntry s)) := by
  unfold sendEntry
  split
  · exact .refl _
  · dsimp only
    split
    · exact .trans (.of_eq (by simp)) (keeps_releaseHold _ _)
    · exact .of_eq (by simp)

theorem keeps_receive (r : Record) (s : State) : (books s).Keeps (books (receive r s)) := by
  unfold receive
  split
  · exact .of_eq (by simp)
  · split
    · exact .of_eq (by simp)
    · exact keeps_express _ _ _ s
    · unfold enterIntake
      dsimp only
      split <;> exact .refl _

theorem keeps_receiveBandHeader (flags tag reserved : Byte) (length : BitVec 32) (fixed : List Byte) (s : State) :
    (books s).Keeps (books (receiveBandHeader flags tag reserved length fixed s)) := by
  unfold receiveBandHeader
  dsimp only
  split
  · rw [books_arrivalReply, books_capture]
    exact Books.keeps_rx (h := books s) (rx := .dropping) fun _ _ _ _ h => (nomatch h)
  · split
    · exact Books.keeps_rx (h := books s) (rx := .waiting) fun _ _ _ _ h => (nomatch h)
    · exact .refl _

/-- R63: the planes of a band are not what it holds. -/
theorem splitPlanes_spec (size : Nat) (cs : List BandChannel) (bytes : List Byte) :
    (splitPlanes size cs bytes).map (fun k => (k.chan, k.reserve)) = cs.map (fun k => (k.chan, k.reserve)) ∧
    ∀ k ∈ splitPlanes size cs bytes, ∃ k₀ ∈ cs, k = { k₀ with plane := k.plane } := by
  induction cs generalizing bytes with
  | nil => exact ⟨rfl, fun k hk => (nomatch hk)⟩
  | cons c cs ih =>
    obtain ⟨hamounts, hold⟩ := ih (bytes.drop size)
    refine ⟨by simp [splitPlanes, hamounts], fun k hk => ?_⟩
    obtain rfl | hk := List.mem_cons.1 hk
    · exact ⟨c, List.mem_cons_self, rfl⟩
    · obtain ⟨k₀, hk₀, heq⟩ := hold k hk
      exact ⟨k₀, List.mem_cons_of_mem c hk₀, heq⟩

theorem whole_fillBand {b : Band} (hb : b.Whole) (planes : List Byte) : (fillBand planes b).Whole := by
  obtain ⟨hamounts, hold⟩ := splitPlanes_spec (b.rows * rowBytes b.columns) b.channels planes
  have hchan := congrArg (List.map Prod.fst) hamounts
  rw [List.map_map, List.map_map] at hchan
  refine ⟨?_, fun k hk => ?_⟩
  · have hsame : (fillBand planes b).channels.map BandChannel.chan = b.channels.map BandChannel.chan := hchan
    rw [hsame]
    exact hb.1
  · obtain ⟨k₀, hk₀, heq⟩ := hold k hk
    rw [heq]
    exact hb.2 k₀ hk₀

theorem keeps_loseBand (n : Nat) (tag : Byte) (s : State) : (books s).Keeps (books (loseBand n tag s)) := by
  unfold loseBand
  dsimp only
  split
  · exact .trans (.of_eq (books_arrivalReply tag .linkError s)) (keeps_abortItem _ _ _)
  · exact .of_eq (books_arrivalReply tag .linkError s)

/-- R8, R63: the planes of the band that the reception names are complete. -/
theorem backed_fillBand {n : Nat} {wire : List Byte} {length : Nat} {tag : Byte} {s : State}
    (hrx : s.link.rx = .filling n wire length tag) (planes : List Byte) (hb : (books s).Backed) :
    (books (mapBand n (fillBand planes) (s.onLink fun l => { l with rx := .idle }))).Backed := by
  have hidle := (Books.keeps_rx (h := books s) (rx := .idle) fun _ _ _ _ h => (nomatch h)).2 hb
  by_cases hn : ∃ b ∈ (books s).store, b.serial = n
  · obtain ⟨b, hmem, rfl⟩ := hn
    have hstate : b.state = .filling := hb.filling _ wire length tag hrx b hmem rfl
    have hfree : b.holdsInk = false := not_holdsInk_of_state (by simp [hstate])
    exact hidle.changeBand (f := fillBand planes) hmem rfl (whole_fillBand (hb.whole b hmem) planes)
      (fun _ => .inr fun _ _ _ _ h => (nomatch h)) (by simp [hstate]) (by simp [hfree])
      fun c => (Band.ink_of_not_holds rfl c).trans (Band.ink_of_not_holds hfree c).symm
  · have hsame : ((books s).store.map fun a => if a.serial = n then fillBand planes a else a) = (books s).store :=
      (List.map_congr_left fun a ha => if_neg fun heq => hn ⟨a, ha, heq⟩).trans (List.map_id _)
    rw [books_mapBand]
    change Books.Backed { books s with rx := .idle, store := (books s).store.map _ }
    rw [hsame]
    exact hidle

theorem keeps_finishBand (planes : List Byte) (crc : BitVec 32) (s : State) :
    (books s).Keeps (books (finishBand planes crc s)) := by
  unfold finishBand
  split
  · next n wire length tag hrx =>
    dsimp only
    split
    · exact .of_accounts rfl (backed_fillBand hrx planes)
    · exact .trans (Books.keeps_rx (h := books s) (rx := .idle) fun _ _ _ _ h => (nomatch h))
        (keeps_loseBand n tag (s.onLink fun l => { l with rx := .idle }))
  · exact .refl _

theorem keeps_finishDropped (bytes : List Byte) (s : State) : (books s).Keeps (books (finishDropped bytes s)) := by
  unfold finishDropped
  split
  · rw [books_captureRest]
    exact Books.keeps_rx (h := books s) (rx := .idle) fun _ _ _ _ h => (nomatch h)
  · exact .refl _

/-! ### The roll end and the run-out feed (R120, R129) -/

theorem keeps_abortYoungest (n : Nat) (s : State) : (books s).Keeps (books (abortYoungest n s).1) := by
  induction n generalizing s with
  | zero => exact .refl _
  | succ n ih =>
    unfold abortYoungest
    split
    · split
      · exact (keeps_abortItem _ _ s).trans (ih _)
      · exact .refl _
    · exact .refl _

theorem keeps_rollEnd (s : State) : (books s).Keeps (books (rollEnd s)) := by
  unfold rollEnd
  dsimp only
  rw [books_raise]
  refine .trans (.of_eq ?_) (keeps_abortYoungest _ _)
  split <;> simp

theorem keeps_assertRollEnd (s : State) : (books s).Keeps (books (assertRollEnd s)) := by
  unfold assertRollEnd
  dsimp only
  split
  · exact keeps_rollEnd (s.onMedia fun m => { m with rollEndLine := true })
  · exact .refl _

theorem keeps_endRunOut (s : State) : (books s).Keeps (books (endRunOut s)) := by
  unfold endRunOut
  (repeat' split)
  · exact keeps_queueRunOut s
  · exact .refl _
  · exact .refl _

/-! ### The slots (R98, R103 to R108) -/

theorem keeps_senseLevel (c : Chan) (s : State) : (books s).Keeps (books (senseLevel c s)) := by
  unfold senseLevel
  dsimp only
  split
  · exact .trans (.of_eq (books_mapSlot _ _ s)) (keeps_applySensed c _)
  · exact .refl _

theorem keeps_kindCheck (c : Chan) (k1 k2 : Bool) (s : State) : (books s).Keeps (books (kindCheck c k1 k2 s)) := by
  unfold kindCheck
  dsimp only
  split
  · split
    · exact keeps_checkKind _ _ _ s
    · exact .refl _
  · exact .refl _

end Sys2Proof.Machine

namespace Sys2Proof.Machine

/-! ### The commands -/

/-- A command leaves a state whose books are kept, before the run-out wait is looked at. -/
def KeepsBooks (c : Instr) : Prop := ∀ s, ∃ u, Leaves c s u ∧ (books s.clearOut).Keeps (books u)

theorem keeps_onFlight {opId : Nat} {f : Flight → State → State}
    (hf : ∀ k s, s.path.flight = some k → (books s).Keeps (books (f k s))) (s : State) :
    (books s).Keeps (books (onFlight opId f s)) := by
  unfold onFlight
  split
  · next k hk =>
    split
    · exact hf k s hk
    · exact .refl _
  · exact .refl _

theorem keepsBooks_recordArrival (r : Record) : KeepsBooks (.recordArrival r) := by
  refine fun s => ⟨_, rfl, ?_⟩
  dsimp only
  split
  · exact .refl _
  · exact keeps_receive r _

theorem keepsBooks_bandHeaderArrival (flags tag reserved : Byte) (length : BitVec 32) (fixed : List Byte) :
    KeepsBooks (.bandHeaderArrival flags tag reserved length fixed) := by
  refine fun s => ⟨_, rfl, ?_⟩
  dsimp only
  split
  · exact .refl _
  · exact keeps_receiveBandHeader _ _ _ _ _ _

theorem keepsBooks_bandLastByte (planes : List Byte) (crc : BitVec 32) : KeepsBooks (.bandLastByte planes crc) := by
  refine fun s => ⟨_, rfl, ?_⟩
  dsimp only
  split
  · exact .refl _
  · exact keeps_finishBand planes crc _

theorem keepsBooks_droppedBandLastByte (rest : List Byte) : KeepsBooks (.droppedBandLastByte rest) := by
  refine fun s => ⟨_, rfl, ?_⟩
  dsimp only
  split
  · exact .refl _
  · exact keeps_finishDropped rest _

theorem keepsBooks_countStart : KeepsBooks .countStart := by
  refine fun s => ⟨_, rfl, ?_⟩
  dsimp only
  split
  · next hnext _ =>
    split
    · exact .refl _
    · exact keeps_countStart hnext
  · exact .refl _

theorem keepsBooks_countCompletion : KeepsBooks .countCompletion := by
  refine fun s => ⟨_, rfl, ?_⟩
  dsimp only
  split
  · exact keeps_completeCount ‹_›
  · exact .refl _

theorem keepsBooks_measureStopPlacement : KeepsBooks .measureStopPlacement := by
  refine fun s => ⟨_, rfl, ?_⟩
  dsimp only
  split
  · split
    · exact keeps_placeStrip _ _ (s.clearOut.onColour _)
    · exact .refl _
  · exact .refl _

theorem keepsBooks_inkRequest : KeepsBooks .inkRequest := by
  refine fun s => ⟨_, rfl, ?_⟩
  dsimp only
  split
  · next hr =>
    split
    · next hready => exact keeps_answerRequest hr hready.1
    · exact .refl _
  · exact .refl _

theorem keepsBooks_abortPanelClose : KeepsBooks .abortPanelClose := by
  refine fun s => ⟨_, rfl, ?_⟩
  dsimp only
  split
  · split
    · split
      · exact .refl _
      · exact keeps_closePending _ _ _
    · exact .refl _
  · exact .refl _

theorem keepsBooks_accept (opId : Nat) : KeepsBooks (.accept opId) := by
  refine fun s => ⟨_, rfl, keeps_onFlight (fun f u hf => ?_) _⟩
  split
  · exact .of_eq (by simp [hf])
  · exact .refl _
  · exact .refl _

theorem keepsBooks_refuse (opId : Nat) : KeepsBooks (.refuse opId) := by
  refine fun s => ⟨_, rfl, keeps_onFlight (fun f u hf => ?_) _⟩
  split
  · exact keeps_offerAgain hf _
  · exact .refl _
  · exact .refl _

theorem keepsBooks_answerDeadline : KeepsBooks .answerDeadline := by
  refine fun s => ⟨_, rfl, ?_⟩
  dsimp only
  split
  · next f hf =>
    split
    · split
      · exact keeps_offerAgain hf _
      · exact .refl _
    · exact .refl _
    · exact .refl _
  · exact .refl _

theorem keepsBooks_runningTimerLimit : KeepsBooks .runningTimerLimit := by
  refine fun s => ⟨_, rfl, ?_⟩
  dsimp only
  split
  · split
    · split
      · exact keeps_headFault _ _
      · exact .refl _
    · exact .refl _
    · exact .refl _
  · exact .refl _

theorem keepsBooks_paused (opId point : Nat) : KeepsBooks (.paused opId point) := by
  refine fun s => ⟨_, rfl, keeps_onFlight (fun f u hf => ?_) _⟩
  split
  · exact keeps_pauseAt hf _
  · exact keeps_headFault _ u
  · exact keeps_headFault _ u

theorem keepsBooks_reading (opId patch : Nat) (filter : Filter) (raw : BitVec 16) :
    KeepsBooks (.reading opId patch filter raw) := by
  refine fun s => ⟨_, rfl, keeps_onFlight (fun f u hf => ?_) _⟩
  split
  · exact keeps_headFault _ u
  · split
    · exact .of_eq (books_onVerify _ u)
    · exact .refl _
    · exact .refl _
  · exact .of_eq (books_takeReading _ _ _ u)

theorem keepsBooks_scanDone (opId : Nat) : KeepsBooks (.scanDone opId) := by
  refine fun s => ⟨_, rfl, keeps_onFlight (fun f u hf => ?_) _⟩
  split
  · exact keeps_headFault _ u
  · exact .refl _
  · exact .of_eq (books_endScan _ u)

theorem keepsBooks_done (opId : Nat) : KeepsBooks (.done opId) := by
  refine fun s => ⟨_, rfl, keeps_onFlight (fun f u hf => ?_) _⟩
  split
  · split
    · exact keeps_finishDone hf
    · exact keeps_headFault _ u
  · exact keeps_headFault _ u
  · exact keeps_headFault _ u

theorem keepsBooks_aborted (opId rows : Nat) : KeepsBooks (.aborted opId rows) := by
  refine fun s => ⟨_, rfl, keeps_onFlight (fun f u hf => ?_) _⟩
  split
  · exact keeps_headFault _ u
  · exact keeps_finishAborted hf _
  · exact keeps_finishAborted hf _

theorem keepsBooks_engineFault : KeepsBooks .engineFault := by
  refine fun s => ⟨_, rfl, ?_⟩
  dsimp only
  split
  · exact .of_eq (books_raise _ _)
  · exact keeps_headFault _ _
  · exact keeps_headFault _ _
  · exact .refl _

/-- Every command keeps the books; those of the sensor, the cutter, the encoder and the costing unit leave them. -/
theorem keepsBooks (c : Instr) : KeepsBooks c := by
  cases c
  case recordArrival r => exact keepsBooks_recordArrival r
  case bandHeaderArrival flags tag reserved length fixed => exact keepsBooks_bandHeaderArrival _ _ _ _ _
  case bandLastByte planes crc => exact keepsBooks_bandLastByte planes crc
  case droppedBandLastByte rest => exact keepsBooks_droppedBandLastByte rest
  case countStart => exact keepsBooks_countStart
  case countCompletion => exact keepsBooks_countCompletion
  case measureStopPlacement => exact keepsBooks_measureStopPlacement
  case inkRequest => exact keepsBooks_inkRequest
  case abortPanelClose => exact keepsBooks_abortPanelClose
  case accept => exact keepsBooks_accept _
  case refuse => exact keepsBooks_refuse _
  case answerDeadline => exact keepsBooks_answerDeadline
  case runningTimerLimit => exact keepsBooks_runningTimerLimit
  case paused => exact keepsBooks_paused _ _
  case reading => exact keepsBooks_reading _ _ _ _
  case scanDone => exact keepsBooks_scanDone _
  case done => exact keepsBooks_done _
  case aborted => exact keepsBooks_aborted _ _
  case engineFault => exact keepsBooks_engineFault
  all_goals refine fun s => ⟨_, rfl, ?_⟩
  case powerOn => exact keeps_restartAll 0#32 _
  case linkReset => exact keeps_linkReset false _
  case returnEntrySend => exact keeps_sendEntry _
  case statusQuery | faultDump | engineResetAll | engineResetStream | halt | resume | itemAbort | holdReleaseContinue |
      holdReleaseAbort | tableBegin | tablePart | tableCommit | rollLoad | sensorVerifyWhite | sensorVerifyDark |
      sensorVerifyLamp | sensorVerifyFull | verifyClear | editionReset | cutterClear | costDump | counterDumpRead |
      counterDumpClear =>
    exact keeps_express _ _ _ _
  case jobOpen | jobClose | itemOpen => exact keeps_take (fun e u => .of_eq (by simp)) _
  case itemClose => exact keeps_take (fun e u => (keeps_judgeItemClose e.body u).trans (.of_eq (by simp))) _
  case band => exact keeps_take keeps_judgeBand _
  case feed => exact keeps_take keeps_judgeFeed _
  case clean => exact keeps_take (fun e u => (keeps_judgeClean e.body u).trans (.of_eq (by simp))) _
  case tableLoad => exact keeps_take (fun e u => (keeps_judgeTableLoad e.body u).trans (.of_eq (by simp))) _
  case queueEntry => exact keeps_enterQueue _
  case abortFeedEntry => exact keeps_enterAbortFeed _
  case offer => exact keeps_arbitrate _
  case rollEndAssert => exact keeps_assertRollEnd _
  case runOutFeed => exact keeps_endRunOut _
  case sensedLevelChange slot => exact keeps_senseLevel slot _
  case kindCheck slot k1 k2 => exact keeps_kindCheck slot k1 k2 _
  case rollEndRelease => exact .refl _
  case lockExpired | encoderEdge | runOutWaitStart | detectLineAssert | detectLineRelease | seatingDebounce | removal |
      levelSenseLineChange | tagReadAnswer | tagReadTimeout | tagWriteConfirm | tagWriteTimeout =>
    exact .of_eq (by simp)
  all_goals
    refine .of_eq ?_
    dsimp only
    (repeat' split) <;> simp

theorem keeps_exec (c : Instr) {s t : State} (h : exec c s = .next t) : (books s).Keeps (books t) := by
  obtain ⟨u, hleaves, hkeeps⟩ := keepsBooks c s
  obtain rfl := Host.Outcome.next.inj (hleaves.symm.trans h)
  exact hkeeps.trans (.of_eq (books_keepRunOut u))

/-- A step is a command, or 1 ms, which is not in the books. -/
theorem keeps_step {s t : State} (h : step s = .next t) : (books s).Keeps (books t) := by
  unfold step at h
  split at h
  · obtain rfl := Host.Outcome.next.inj h
    exact .refl (books s)
  · next c rest _ => exact keeps_exec c (s := { s with pending := rest }) h

/-- Settles O5: whatever a step does to an account, a settlement leaves the residue of a division by 10,000. -/
theorem residuesStayBelow : Obligations.ResiduesStayBelow := by
  intro s t hs h
  exact (residuesBelow_iff t).2 ((keeps_step h).1 ((residuesBelow_iff s).1 hs))

/-- Settles O15: every step keeps the books backed. -/
theorem accountsStayBacked : Obligations.AccountsStayBacked := by
  intro s t hs h
  exact (inkBacked_iff t).2 ((keeps_step h).2 ((inkBacked_iff s).1 hs))

/-- Settles O4: at power-on every list is empty and every account stands at its floor. -/
theorem invariantsAtReset : Obligations.InvariantsAtReset := by
  have hbacked : InkBacked State.reset := (inkBacked_iff _).2 backed_reset
  obtain ⟨-, hresidues, -⟩ := id hbacked
  refine ⟨hresidues, ?_, ?_, List.Pairwise.nil, ?_, hbacked, fun u hu => (nomatch hu),
    ⟨fun u hu => (nomatch hu), fun w hw => (nomatch hw)⟩,
    List.nodup_nil, fun sec h => (nomatch h), fun h => (nomatch h)⟩
  · unfold CalibrationApart
    decide
  · exact ⟨by decide, by decide, by decide, fun h => absurd rfl h, fun e he => (nomatch he), fun l hl => (nomatch hl)⟩
  · unfold CapacitiesKept
    decide

end Sys2Proof.Machine
